-- ==== Sys2Proof/Word.lean ====
section
/-!
DEFINITION. The machine's words (00_scope.md rule R11): bit 0 is the least significant bit,
arithmetic is modulo the width.
-/
namespace Sys2Proof

/-- 8 bits, the unit of memory (20_memory.md rule R180). -/
abbrev Byte := BitVec 8

/-- 32 bits: an instruction, a word datum (00_scope.md rule R11). -/
abbrev Word := BitVec 32

/-- 64 bits: a general register, a virtual address (10_state.md rules R31, R36). -/
abbrev Dword := BitVec 64

/-- A physical address has 48 bits (20_memory.md rule R180). -/
abbrev PhysAddr := BitVec 48

end Sys2Proof
end

