-- ==== Sys2Proof/Syntax.lean ====
section
/-!
DEFINITION. The instruction set as syntax: one constructor per row of the opcode table,
the three names of SLL words among them (30_encoding.md rules R282, R286).
Operands stand in the order of their bits in the word, from the high bits down. A constructor's
mnemonic is its row's, written in lower camel case (BREAK is `brk`).
-/
namespace Sys2Proof

/-- Every instruction of the GS464 core. Register numbers have 5 bits, condition codes 3,
immediates 16 (30_encoding.md rule R261). The x86, lookup-table and extended-double rows have no
known encoding (rule R280); their operands are not in the source, but for the destination a
register-writing description implies. -/
inductive Instr where
  -- Loads and stores, 40_loadstore.md
  | lb (base : BitVec 5) (rt : BitVec 5) (imm : BitVec 16)
  | lbu (base : BitVec 5) (rt : BitVec 5) (imm : BitVec 16)
  | lh (base : BitVec 5) (rt : BitVec 5) (imm : BitVec 16)
  | lhu (base : BitVec 5) (rt : BitVec 5) (imm : BitVec 16)
  | lw (base : BitVec 5) (rt : BitVec 5) (imm : BitVec 16)
  | lwu (base : BitVec 5) (rt : BitVec 5) (imm : BitVec 16)
  | lwl (base : BitVec 5) (rt : BitVec 5) (imm : BitVec 16)
  | lwr (base : BitVec 5) (rt : BitVec 5) (imm : BitVec 16)
  | ld (base : BitVec 5) (rt : BitVec 5) (imm : BitVec 16)
  | ldl (base : BitVec 5) (rt : BitVec 5) (imm : BitVec 16)
  | ldr (base : BitVec 5) (rt : BitVec 5) (imm : BitVec 16)
  | ll (base : BitVec 5) (rt : BitVec 5) (imm : BitVec 16)
  | lld (base : BitVec 5) (rt : BitVec 5) (imm : BitVec 16)
  | sb (base : BitVec 5) (rt : BitVec 5) (imm : BitVec 16)
  | sh (base : BitVec 5) (rt : BitVec 5) (imm : BitVec 16)
  | sw (base : BitVec 5) (rt : BitVec 5) (imm : BitVec 16)
  | swl (base : BitVec 5) (rt : BitVec 5) (imm : BitVec 16)
  | swr (base : BitVec 5) (rt : BitVec 5) (imm : BitVec 16)
  | sd (base : BitVec 5) (rt : BitVec 5) (imm : BitVec 16)
  | sdl (base : BitVec 5) (rt : BitVec 5) (imm : BitVec 16)
  | sdr (base : BitVec 5) (rt : BitVec 5) (imm : BitVec 16)
  | sc (base : BitVec 5) (rt : BitVec 5) (imm : BitVec 16)
  | scd (base : BitVec 5) (rt : BitVec 5) (imm : BitVec 16)
  | pref (base : BitVec 5) (hint : BitVec 5) (imm : BitVec 16)
  | prefx (base : BitVec 5) (index : BitVec 5) (hint : BitVec 5)
  -- Arithmetic and logic, 41_alu.md
  | addi (rs : BitVec 5) (rt : BitVec 5) (imm : BitVec 16)
  | daddi (rs : BitVec 5) (rt : BitVec 5) (imm : BitVec 16)
  | addiu (rs : BitVec 5) (rt : BitVec 5) (imm : BitVec 16)
  | daddiu (rs : BitVec 5) (rt : BitVec 5) (imm : BitVec 16)
  | slti (rs : BitVec 5) (rt : BitVec 5) (imm : BitVec 16)
  | sltiu (rs : BitVec 5) (rt : BitVec 5) (imm : BitVec 16)
  | andi (rs : BitVec 5) (rt : BitVec 5) (imm : BitVec 16)
  | ori (rs : BitVec 5) (rt : BitVec 5) (imm : BitVec 16)
  | xori (rs : BitVec 5) (rt : BitVec 5) (imm : BitVec 16)
  | lui (rt : BitVec 5) (imm : BitVec 16)
  | add (rs : BitVec 5) (rt : BitVec 5) (rd : BitVec 5)
  | dadd (rs : BitVec 5) (rt : BitVec 5) (rd : BitVec 5)
  | addu (rs : BitVec 5) (rt : BitVec 5) (rd : BitVec 5)
  | daddu (rs : BitVec 5) (rt : BitVec 5) (rd : BitVec 5)
  | sub (rs : BitVec 5) (rt : BitVec 5) (rd : BitVec 5)
  | dsub (rs : BitVec 5) (rt : BitVec 5) (rd : BitVec 5)
  | subu (rs : BitVec 5) (rt : BitVec 5) (rd : BitVec 5)
  | dsubu (rs : BitVec 5) (rt : BitVec 5) (rd : BitVec 5)
  | slt (rs : BitVec 5) (rt : BitVec 5) (rd : BitVec 5)
  | sltu (rs : BitVec 5) (rt : BitVec 5) (rd : BitVec 5)
  | and (rs : BitVec 5) (rt : BitVec 5) (rd : BitVec 5)
  | or (rs : BitVec 5) (rt : BitVec 5) (rd : BitVec 5)
  | xor (rs : BitVec 5) (rt : BitVec 5) (rd : BitVec 5)
  | nor (rs : BitVec 5) (rt : BitVec 5) (rd : BitVec 5)
  | clo (rs : BitVec 5) (rt : BitVec 5) (rd : BitVec 5)
  | dclo (rs : BitVec 5) (rt : BitVec 5) (rd : BitVec 5)
  | clz (rs : BitVec 5) (rt : BitVec 5) (rd : BitVec 5)
  | dclz (rs : BitVec 5) (rt : BitVec 5) (rd : BitVec 5)
  | wsbh (rt : BitVec 5) (rd : BitVec 5)
  | dshd (rt : BitVec 5) (rd : BitVec 5)
  | dsbh (rt : BitVec 5) (rd : BitVec 5)
  | seb (rt : BitVec 5) (rd : BitVec 5)
  | seh (rt : BitVec 5) (rd : BitVec 5)
  -- Multiply and divide, 42_muldiv.md
  | mul (rs : BitVec 5) (rt : BitVec 5) (rd : BitVec 5)
  | mult (rs : BitVec 5) (rt : BitVec 5)
  | dmult (rs : BitVec 5) (rt : BitVec 5)
  | multu (rs : BitVec 5) (rt : BitVec 5)
  | dmultu (rs : BitVec 5) (rt : BitVec 5)
  | madd (rs : BitVec 5) (rt : BitVec 5)
  | maddu (rs : BitVec 5) (rt : BitVec 5)
  | msub (rs : BitVec 5) (rt : BitVec 5)
  | msubu (rs : BitVec 5) (rt : BitVec 5)
  | div (rs : BitVec 5) (rt : BitVec 5)
  | ddiv (rs : BitVec 5) (rt : BitVec 5)
  | divu (rs : BitVec 5) (rt : BitVec 5)
  | ddivu (rs : BitVec 5) (rt : BitVec 5)
  | mfhi (rd : BitVec 5)
  | mthi (rs : BitVec 5)
  | mflo (rd : BitVec 5)
  | mtlo (rs : BitVec 5)
  -- Shifts and bit fields, 43_shift.md
  | sll (rt : BitVec 5) (rd : BitVec 5) (sa : BitVec 5)
  | srl (rt : BitVec 5) (rd : BitVec 5) (sa : BitVec 5)
  | sra (rt : BitVec 5) (rd : BitVec 5) (sa : BitVec 5)
  | sllv (rs : BitVec 5) (rt : BitVec 5) (rd : BitVec 5)
  | srlv (rs : BitVec 5) (rt : BitVec 5) (rd : BitVec 5)
  | srav (rs : BitVec 5) (rt : BitVec 5) (rd : BitVec 5)
  | rotr (rt : BitVec 5) (rd : BitVec 5) (sa : BitVec 5)
  | rotrv (rs : BitVec 5) (rt : BitVec 5) (rd : BitVec 5)
  | dsll (rt : BitVec 5) (rd : BitVec 5) (sa : BitVec 5)
  | dsrl (rt : BitVec 5) (rd : BitVec 5) (sa : BitVec 5)
  | dsra (rt : BitVec 5) (rd : BitVec 5) (sa : BitVec 5)
  | dsllv (rs : BitVec 5) (rt : BitVec 5) (rd : BitVec 5)
  | dsrlv (rs : BitVec 5) (rt : BitVec 5) (rd : BitVec 5)
  | dsrav (rs : BitVec 5) (rt : BitVec 5) (rd : BitVec 5)
  | dsll32 (rt : BitVec 5) (rd : BitVec 5) (sa : BitVec 5)
  | dsrl32 (rt : BitVec 5) (rd : BitVec 5) (sa : BitVec 5)
  | dsra32 (rt : BitVec 5) (rd : BitVec 5) (sa : BitVec 5)
  | drotr (rt : BitVec 5) (rd : BitVec 5) (sa : BitVec 5)
  | drotr32 (rt : BitVec 5) (rd : BitVec 5) (sa : BitVec 5)
  | drotrv (rs : BitVec 5) (rt : BitVec 5) (rd : BitVec 5)
  | ext (rs : BitVec 5) (rt : BitVec 5) (msb : BitVec 5) (lsb : BitVec 5)
  | dextm (rs : BitVec 5) (rt : BitVec 5) (msb : BitVec 5) (lsb : BitVec 5)
  | dextu (rs : BitVec 5) (rt : BitVec 5) (msb : BitVec 5) (lsb : BitVec 5)
  | dext (rs : BitVec 5) (rt : BitVec 5) (msb : BitVec 5) (lsb : BitVec 5)
  | ins (rs : BitVec 5) (rt : BitVec 5) (msb : BitVec 5) (lsb : BitVec 5)
  | dinsm (rs : BitVec 5) (rt : BitVec 5) (msb : BitVec 5) (lsb : BitVec 5)
  | dinsu (rs : BitVec 5) (rt : BitVec 5) (msb : BitVec 5) (lsb : BitVec 5)
  | dins (rs : BitVec 5) (rt : BitVec 5) (msb : BitVec 5) (lsb : BitVec 5)
  -- Jumps and branches, 44_branch.md
  | j (idx : BitVec 26)
  | jal (idx : BitVec 26)
  | jr (rs : BitVec 5)
  | jrHb (rs : BitVec 5)
  | jalr (rs : BitVec 5) (rd : BitVec 5)
  | jalrHb (rs : BitVec 5) (rd : BitVec 5)
  | beq (rs : BitVec 5) (rt : BitVec 5) (imm : BitVec 16)
  | bne (rs : BitVec 5) (rt : BitVec 5) (imm : BitVec 16)
  | blez (rs : BitVec 5) (imm : BitVec 16)
  | bgtz (rs : BitVec 5) (imm : BitVec 16)
  | bltz (rs : BitVec 5) (imm : BitVec 16)
  | bgez (rs : BitVec 5) (imm : BitVec 16)
  | bltzal (rs : BitVec 5) (imm : BitVec 16)
  | bgezal (rs : BitVec 5) (imm : BitVec 16)
  | beql (rs : BitVec 5) (rt : BitVec 5) (imm : BitVec 16)
  | bnel (rs : BitVec 5) (rt : BitVec 5) (imm : BitVec 16)
  | blezl (rs : BitVec 5) (imm : BitVec 16)
  | bgtzl (rs : BitVec 5) (imm : BitVec 16)
  | bltzl (rs : BitVec 5) (imm : BitVec 16)
  | bgezl (rs : BitVec 5) (imm : BitVec 16)
  | bltzall (rs : BitVec 5) (imm : BitVec 16)
  | bgezall (rs : BitVec 5) (imm : BitVec 16)
  -- CP0 and privileged, 45_cp0_priv.md
  | mfc0 (rt : BitVec 5) (rd : BitVec 5) (sel : BitVec 3)
  | dmfc0 (rt : BitVec 5) (rd : BitVec 5) (sel : BitVec 3)
  | mtc0 (rt : BitVec 5) (rd : BitVec 5) (sel : BitVec 3)
  | dmtc0 (rt : BitVec 5) (rd : BitVec 5) (sel : BitVec 3)
  | rdpgpr (rt : BitVec 5) (rd : BitVec 5)
  | wrpgpr (rt : BitVec 5) (rd : BitVec 5)
  | tlbp
  | tlbr
  | tlbwi
  | tlbwr
  | eret
  | deret
  | sdbbp (code : BitVec 20)
  | cache (base : BitVec 5) (hint : BitVec 5) (imm : BitVec 16)
  | rdhwr (rt : BitVec 5) (rd : BitVec 5)
  | wait (code : BitVec 19)
  | di (rt : BitVec 5)
  | ei (rt : BitVec 5)
  -- System, traps, barriers, conditional moves, 46_misc_trap_cmov.md
  | syscall (code : BitVec 20)
  | brk (code : BitVec 20)
  | sync (stype : BitVec 5)
  | synci (base : BitVec 5) (imm : BitVec 16)
  | nop
  | ssnop
  | ehb
  | tge (rs : BitVec 5) (rt : BitVec 5) (code : BitVec 10)
  | tgeu (rs : BitVec 5) (rt : BitVec 5) (code : BitVec 10)
  | tlt (rs : BitVec 5) (rt : BitVec 5) (code : BitVec 10)
  | tltu (rs : BitVec 5) (rt : BitVec 5) (code : BitVec 10)
  | teq (rs : BitVec 5) (rt : BitVec 5) (code : BitVec 10)
  | tne (rs : BitVec 5) (rt : BitVec 5) (code : BitVec 10)
  | tgei (rs : BitVec 5) (imm : BitVec 16)
  | tgeiu (rs : BitVec 5) (imm : BitVec 16)
  | tlti (rs : BitVec 5) (imm : BitVec 16)
  | tltiu (rs : BitVec 5) (imm : BitVec 16)
  | teqi (rs : BitVec 5) (imm : BitVec 16)
  | tnei (rs : BitVec 5) (imm : BitVec 16)
  | movn (rs : BitVec 5) (rt : BitVec 5) (rd : BitVec 5)
  | movz (rs : BitVec 5) (rt : BitVec 5) (rd : BitVec 5)
  | movf (rs : BitVec 5) (cc : BitVec 3) (rd : BitVec 5)
  | movt (rs : BitVec 5) (cc : BitVec 3) (rd : BitVec 5)
  -- Custom integer, x86 and lookup-table instructions, 47_custom_int.md
  | gsmult (rs : BitVec 5) (rt : BitVec 5) (rd : BitVec 5)
  | gsdmult (rs : BitVec 5) (rt : BitVec 5) (rd : BitVec 5)
  | gsmultu (rs : BitVec 5) (rt : BitVec 5) (rd : BitVec 5)
  | gsdmultu (rs : BitVec 5) (rt : BitVec 5) (rd : BitVec 5)
  | gsdiv (rs : BitVec 5) (rt : BitVec 5) (rd : BitVec 5)
  | gsddiv (rs : BitVec 5) (rt : BitVec 5) (rd : BitVec 5)
  | gsdivu (rs : BitVec 5) (rt : BitVec 5) (rd : BitVec 5)
  | gsddivu (rs : BitVec 5) (rt : BitVec 5) (rd : BitVec 5)
  | gsmod (rs : BitVec 5) (rt : BitVec 5) (rd : BitVec 5)
  | gsdmod (rs : BitVec 5) (rt : BitVec 5) (rd : BitVec 5)
  | gsmodu (rs : BitVec 5) (rt : BitVec 5) (rd : BitVec 5)
  | gsdmodu (rs : BitVec 5) (rt : BitVec 5) (rd : BitVec 5)
  | gsle (rs : BitVec 5) (rt : BitVec 5)
  | gsgt (rs : BitVec 5) (rt : BitVec 5)
  | gslble (base : BitVec 5) (rt : BitVec 5) (rd : BitVec 5)
  | gslbgt (base : BitVec 5) (rt : BitVec 5) (rd : BitVec 5)
  | gslhle (base : BitVec 5) (rt : BitVec 5) (rd : BitVec 5)
  | gslhgt (base : BitVec 5) (rt : BitVec 5) (rd : BitVec 5)
  | gslwle (base : BitVec 5) (rt : BitVec 5) (rd : BitVec 5)
  | gslwgt (base : BitVec 5) (rt : BitVec 5) (rd : BitVec 5)
  | gsldle (base : BitVec 5) (rt : BitVec 5) (rd : BitVec 5)
  | gsldgt (base : BitVec 5) (rt : BitVec 5) (rd : BitVec 5)
  | gslq (base : BitVec 5) (rt : BitVec 5) (off : BitVec 9) (rq : BitVec 5)
  | gslbx (base : BitVec 5) (rt : BitVec 5) (index : BitVec 5) (off : BitVec 8)
  | gslhx (base : BitVec 5) (rt : BitVec 5) (index : BitVec 5) (off : BitVec 8)
  | gslwx (base : BitVec 5) (rt : BitVec 5) (index : BitVec 5) (off : BitVec 8)
  | gsldx (base : BitVec 5) (rt : BitVec 5) (index : BitVec 5) (off : BitVec 8)
  | gssble (base : BitVec 5) (rt : BitVec 5) (rd : BitVec 5)
  | gssbgt (base : BitVec 5) (rt : BitVec 5) (rd : BitVec 5)
  | gsshle (base : BitVec 5) (rt : BitVec 5) (rd : BitVec 5)
  | gsshgt (base : BitVec 5) (rt : BitVec 5) (rd : BitVec 5)
  | gsswle (base : BitVec 5) (rt : BitVec 5) (rd : BitVec 5)
  | gsswgt (base : BitVec 5) (rt : BitVec 5) (rd : BitVec 5)
  | gssdle (base : BitVec 5) (rt : BitVec 5) (rd : BitVec 5)
  | gssdgt (base : BitVec 5) (rt : BitVec 5) (rd : BitVec 5)
  | gssq (base : BitVec 5) (rt : BitVec 5) (off : BitVec 9) (rq : BitVec 5)
  | gssbx (base : BitVec 5) (rt : BitVec 5) (index : BitVec 5) (off : BitVec 8)
  | gsshx (base : BitVec 5) (rt : BitVec 5) (index : BitVec 5) (off : BitVec 8)
  | gsswx (base : BitVec 5) (rt : BitVec 5) (index : BitVec 5) (off : BitVec 8)
  | gssdx (base : BitVec 5) (rt : BitVec 5) (index : BitVec 5) (off : BitVec 8)
  | x86and
  | x86or
  | x86xor
  | x86dadd
  | x86add
  | x86daddu
  | x86addu
  | x86dsub
  | x86sub
  | x86dsubu
  | x86subu
  | x86inc
  | x86dec
  | x86dsll
  | x86sll
  | x86dsll32
  | x86dsllv
  | x86sllv
  | x86dsrl
  | x86srl
  | x86dsrl32
  | x86dsrlv
  | x86srlv
  | x86dsra
  | x86sra
  | x86dsra32
  | x86dsrav
  | x86srav
  | x86drotr
  | x86rotr
  | x86drotr32
  | x86drotrv
  | x86rotrv
  | x86mfflag (rd : BitVec 5)
  | x86mtflag
  | x86j
  | x86loop
  | settm
  | clrtm
  | inctop
  | dectop
  | mttop
  | mftop (rd : BitVec 5)
  | settag
  | campv
  | campi
  | camwi
  | ramri
  -- Multimedia, 48_custom_mmi.md
  | paddsh (ft : BitVec 5) (fs : BitVec 5) (fd : BitVec 5)
  | paddush (ft : BitVec 5) (fs : BitVec 5) (fd : BitVec 5)
  | paddh (ft : BitVec 5) (fs : BitVec 5) (fd : BitVec 5)
  | paddw (ft : BitVec 5) (fs : BitVec 5) (fd : BitVec 5)
  | paddsb (ft : BitVec 5) (fs : BitVec 5) (fd : BitVec 5)
  | paddusb (ft : BitVec 5) (fs : BitVec 5) (fd : BitVec 5)
  | paddb (ft : BitVec 5) (fs : BitVec 5) (fd : BitVec 5)
  | paddd (ft : BitVec 5) (fs : BitVec 5) (fd : BitVec 5)
  | psubsh (ft : BitVec 5) (fs : BitVec 5) (fd : BitVec 5)
  | psubush (ft : BitVec 5) (fs : BitVec 5) (fd : BitVec 5)
  | psubh (ft : BitVec 5) (fs : BitVec 5) (fd : BitVec 5)
  | psubw (ft : BitVec 5) (fs : BitVec 5) (fd : BitVec 5)
  | psubsb (ft : BitVec 5) (fs : BitVec 5) (fd : BitVec 5)
  | psubusb (ft : BitVec 5) (fs : BitVec 5) (fd : BitVec 5)
  | psubb (ft : BitVec 5) (fs : BitVec 5) (fd : BitVec 5)
  | psubd (ft : BitVec 5) (fs : BitVec 5) (fd : BitVec 5)
  | pshufh (ft : BitVec 5) (fs : BitVec 5) (fd : BitVec 5)
  | packsswh (ft : BitVec 5) (fs : BitVec 5) (fd : BitVec 5)
  | packsshb (ft : BitVec 5) (fs : BitVec 5) (fd : BitVec 5)
  | packushb (ft : BitVec 5) (fs : BitVec 5) (fd : BitVec 5)
  | pandn (ft : BitVec 5) (fs : BitVec 5) (fd : BitVec 5)
  | punpcklhw (ft : BitVec 5) (fs : BitVec 5) (fd : BitVec 5)
  | punpckhhw (ft : BitVec 5) (fs : BitVec 5) (fd : BitVec 5)
  | punpcklbh (ft : BitVec 5) (fs : BitVec 5) (fd : BitVec 5)
  | punpckhbh (ft : BitVec 5) (fs : BitVec 5) (fd : BitVec 5)
  | pinsrh0 (ft : BitVec 5) (fs : BitVec 5) (fd : BitVec 5)
  | pinsrh1 (ft : BitVec 5) (fs : BitVec 5) (fd : BitVec 5)
  | pinsrh2 (ft : BitVec 5) (fs : BitVec 5) (fd : BitVec 5)
  | pinsrh3 (ft : BitVec 5) (fs : BitVec 5) (fd : BitVec 5)
  | pavgh (ft : BitVec 5) (fs : BitVec 5) (fd : BitVec 5)
  | pavgb (ft : BitVec 5) (fs : BitVec 5) (fd : BitVec 5)
  | pmaxsh (ft : BitVec 5) (fs : BitVec 5) (fd : BitVec 5)
  | pminsh (ft : BitVec 5) (fs : BitVec 5) (fd : BitVec 5)
  | pmaxub (ft : BitVec 5) (fs : BitVec 5) (fd : BitVec 5)
  | pminub (ft : BitVec 5) (fs : BitVec 5) (fd : BitVec 5)
  | pcmpeqw (ft : BitVec 5) (fs : BitVec 5) (fd : BitVec 5)
  | pcmpgtw (ft : BitVec 5) (fs : BitVec 5) (fd : BitVec 5)
  | pcmpeqh (ft : BitVec 5) (fs : BitVec 5) (fd : BitVec 5)
  | pcmpgth (ft : BitVec 5) (fs : BitVec 5) (fd : BitVec 5)
  | pcmpeqb (ft : BitVec 5) (fs : BitVec 5) (fd : BitVec 5)
  | pcmpgtb (ft : BitVec 5) (fs : BitVec 5) (fd : BitVec 5)
  | psllw (ft : BitVec 5) (fs : BitVec 5) (fd : BitVec 5)
  | psllh (ft : BitVec 5) (fs : BitVec 5) (fd : BitVec 5)
  | pmullh (ft : BitVec 5) (fs : BitVec 5) (fd : BitVec 5)
  | pmulhh (ft : BitVec 5) (fs : BitVec 5) (fd : BitVec 5)
  | pmuluw (ft : BitVec 5) (fs : BitVec 5) (fd : BitVec 5)
  | pmulhuh (ft : BitVec 5) (fs : BitVec 5) (fd : BitVec 5)
  | psrlw (ft : BitVec 5) (fs : BitVec 5) (fd : BitVec 5)
  | psrlh (ft : BitVec 5) (fs : BitVec 5) (fd : BitVec 5)
  | psraw (ft : BitVec 5) (fs : BitVec 5) (fd : BitVec 5)
  | psrah (ft : BitVec 5) (fs : BitVec 5) (fd : BitVec 5)
  | punpcklwd (ft : BitVec 5) (fs : BitVec 5) (fd : BitVec 5)
  | punpckhwd (ft : BitVec 5) (fs : BitVec 5) (fd : BitVec 5)
  | pasubub (ft : BitVec 5) (fs : BitVec 5) (fd : BitVec 5)
  | pextrh (ft : BitVec 5) (fs : BitVec 5) (fd : BitVec 5)
  | pmaddhw (ft : BitVec 5) (fs : BitVec 5) (fd : BitVec 5)
  | biadd (fs : BitVec 5) (fd : BitVec 5)
  | pmovmskb (fs : BitVec 5) (fd : BitVec 5)
  | gsxor (ft : BitVec 5) (fs : BitVec 5) (fd : BitVec 5)
  | gsnor (ft : BitVec 5) (fs : BitVec 5) (fd : BitVec 5)
  | gsand (ft : BitVec 5) (fs : BitVec 5) (fd : BitVec 5)
  | gsaddu (ft : BitVec 5) (fs : BitVec 5) (fd : BitVec 5)
  | gsor (ft : BitVec 5) (fs : BitVec 5) (fd : BitVec 5)
  | gsadd (ft : BitVec 5) (fs : BitVec 5) (fd : BitVec 5)
  | gsdadd (ft : BitVec 5) (fs : BitVec 5) (fd : BitVec 5)
  | gssequ (ft : BitVec 5) (fs : BitVec 5)
  | gsseq (ft : BitVec 5) (fs : BitVec 5)
  | gssubu (ft : BitVec 5) (fs : BitVec 5) (fd : BitVec 5)
  | gssub (ft : BitVec 5) (fs : BitVec 5) (fd : BitVec 5)
  | gsdsub (ft : BitVec 5) (fs : BitVec 5) (fd : BitVec 5)
  | gssltu (ft : BitVec 5) (fs : BitVec 5)
  | gsslt (ft : BitVec 5) (fs : BitVec 5)
  | gssll (ft : BitVec 5) (fs : BitVec 5) (fd : BitVec 5)
  | gsdsll (ft : BitVec 5) (fs : BitVec 5) (fd : BitVec 5)
  | gssrl (ft : BitVec 5) (fs : BitVec 5) (fd : BitVec 5)
  | gsdsrl (ft : BitVec 5) (fs : BitVec 5) (fd : BitVec 5)
  | gssra (ft : BitVec 5) (fs : BitVec 5) (fd : BitVec 5)
  | gsdsra (ft : BitVec 5) (fs : BitVec 5) (fd : BitVec 5)
  | gssleu (ft : BitVec 5) (fs : BitVec 5)
  | gssle (ft : BitVec 5) (fs : BitVec 5)
  -- Floating-point arithmetic, 49_fpu.md
  | absS (fs : BitVec 5) (fd : BitVec 5)
  | absD (fs : BitVec 5) (fd : BitVec 5)
  | absPs (fs : BitVec 5) (fd : BitVec 5)
  | addS (ft : BitVec 5) (fs : BitVec 5) (fd : BitVec 5)
  | addD (ft : BitVec 5) (fs : BitVec 5) (fd : BitVec 5)
  | addPs (ft : BitVec 5) (fs : BitVec 5) (fd : BitVec 5)
  | divS (ft : BitVec 5) (fs : BitVec 5) (fd : BitVec 5)
  | divD (ft : BitVec 5) (fs : BitVec 5) (fd : BitVec 5)
  | maddS (fr : BitVec 5) (ft : BitVec 5) (fs : BitVec 5) (fd : BitVec 5)
  | maddD (fr : BitVec 5) (ft : BitVec 5) (fs : BitVec 5) (fd : BitVec 5)
  | maddPs (fr : BitVec 5) (ft : BitVec 5) (fs : BitVec 5) (fd : BitVec 5)
  | msubS (fr : BitVec 5) (ft : BitVec 5) (fs : BitVec 5) (fd : BitVec 5)
  | msubD (fr : BitVec 5) (ft : BitVec 5) (fs : BitVec 5) (fd : BitVec 5)
  | msubPs (fr : BitVec 5) (ft : BitVec 5) (fs : BitVec 5) (fd : BitVec 5)
  | mulS (ft : BitVec 5) (fs : BitVec 5) (fd : BitVec 5)
  | mulD (ft : BitVec 5) (fs : BitVec 5) (fd : BitVec 5)
  | mulPs (ft : BitVec 5) (fs : BitVec 5) (fd : BitVec 5)
  | negS (fs : BitVec 5) (fd : BitVec 5)
  | negD (fs : BitVec 5) (fd : BitVec 5)
  | negPs (fs : BitVec 5) (fd : BitVec 5)
  | nmaddS (fr : BitVec 5) (ft : BitVec 5) (fs : BitVec 5) (fd : BitVec 5)
  | nmaddD (fr : BitVec 5) (ft : BitVec 5) (fs : BitVec 5) (fd : BitVec 5)
  | nmaddPs (fr : BitVec 5) (ft : BitVec 5) (fs : BitVec 5) (fd : BitVec 5)
  | nmsubS (fr : BitVec 5) (ft : BitVec 5) (fs : BitVec 5) (fd : BitVec 5)
  | nmsubD (fr : BitVec 5) (ft : BitVec 5) (fs : BitVec 5) (fd : BitVec 5)
  | nmsubPs (fr : BitVec 5) (ft : BitVec 5) (fs : BitVec 5) (fd : BitVec 5)
  | recipS (fs : BitVec 5) (fd : BitVec 5)
  | recipD (fs : BitVec 5) (fd : BitVec 5)
  | rsqrtS (fs : BitVec 5) (fd : BitVec 5)
  | rsqrtD (fs : BitVec 5) (fd : BitVec 5)
  | sqrtS (fs : BitVec 5) (fd : BitVec 5)
  | sqrtD (fs : BitVec 5) (fd : BitVec 5)
  | subS (ft : BitVec 5) (fs : BitVec 5) (fd : BitVec 5)
  | subD (ft : BitVec 5) (fs : BitVec 5) (fd : BitVec 5)
  | subPs (ft : BitVec 5) (fs : BitVec 5) (fd : BitVec 5)
  | cFS (ft : BitVec 5) (fs : BitVec 5) (cc : BitVec 3)
  | cUnS (ft : BitVec 5) (fs : BitVec 5) (cc : BitVec 3)
  | cEqS (ft : BitVec 5) (fs : BitVec 5) (cc : BitVec 3)
  | cUeqS (ft : BitVec 5) (fs : BitVec 5) (cc : BitVec 3)
  | cOltS (ft : BitVec 5) (fs : BitVec 5) (cc : BitVec 3)
  | cUltS (ft : BitVec 5) (fs : BitVec 5) (cc : BitVec 3)
  | cOleS (ft : BitVec 5) (fs : BitVec 5) (cc : BitVec 3)
  | cUleS (ft : BitVec 5) (fs : BitVec 5) (cc : BitVec 3)
  | cSfS (ft : BitVec 5) (fs : BitVec 5) (cc : BitVec 3)
  | cNgleS (ft : BitVec 5) (fs : BitVec 5) (cc : BitVec 3)
  | cSeqS (ft : BitVec 5) (fs : BitVec 5) (cc : BitVec 3)
  | cNglS (ft : BitVec 5) (fs : BitVec 5) (cc : BitVec 3)
  | cLtS (ft : BitVec 5) (fs : BitVec 5) (cc : BitVec 3)
  | cNgeS (ft : BitVec 5) (fs : BitVec 5) (cc : BitVec 3)
  | cLeS (ft : BitVec 5) (fs : BitVec 5) (cc : BitVec 3)
  | cNgtS (ft : BitVec 5) (fs : BitVec 5) (cc : BitVec 3)
  | cFD (ft : BitVec 5) (fs : BitVec 5) (cc : BitVec 3)
  | cUnD (ft : BitVec 5) (fs : BitVec 5) (cc : BitVec 3)
  | cEqD (ft : BitVec 5) (fs : BitVec 5) (cc : BitVec 3)
  | cUeqD (ft : BitVec 5) (fs : BitVec 5) (cc : BitVec 3)
  | cOltD (ft : BitVec 5) (fs : BitVec 5) (cc : BitVec 3)
  | cUltD (ft : BitVec 5) (fs : BitVec 5) (cc : BitVec 3)
  | cOleD (ft : BitVec 5) (fs : BitVec 5) (cc : BitVec 3)
  | cUleD (ft : BitVec 5) (fs : BitVec 5) (cc : BitVec 3)
  | cSfD (ft : BitVec 5) (fs : BitVec 5) (cc : BitVec 3)
  | cNgleD (ft : BitVec 5) (fs : BitVec 5) (cc : BitVec 3)
  | cSeqD (ft : BitVec 5) (fs : BitVec 5) (cc : BitVec 3)
  | cNglD (ft : BitVec 5) (fs : BitVec 5) (cc : BitVec 3)
  | cLtD (ft : BitVec 5) (fs : BitVec 5) (cc : BitVec 3)
  | cNgeD (ft : BitVec 5) (fs : BitVec 5) (cc : BitVec 3)
  | cLeD (ft : BitVec 5) (fs : BitVec 5) (cc : BitVec 3)
  | cNgtD (ft : BitVec 5) (fs : BitVec 5) (cc : BitVec 3)
  | cFPs (ft : BitVec 5) (fs : BitVec 5) (cc : BitVec 3)
  | cUnPs (ft : BitVec 5) (fs : BitVec 5) (cc : BitVec 3)
  | cEqPs (ft : BitVec 5) (fs : BitVec 5) (cc : BitVec 3)
  | cUeqPs (ft : BitVec 5) (fs : BitVec 5) (cc : BitVec 3)
  | cOltPs (ft : BitVec 5) (fs : BitVec 5) (cc : BitVec 3)
  | cUltPs (ft : BitVec 5) (fs : BitVec 5) (cc : BitVec 3)
  | cOlePs (ft : BitVec 5) (fs : BitVec 5) (cc : BitVec 3)
  | cUlePs (ft : BitVec 5) (fs : BitVec 5) (cc : BitVec 3)
  | cSfPs (ft : BitVec 5) (fs : BitVec 5) (cc : BitVec 3)
  | cNglePs (ft : BitVec 5) (fs : BitVec 5) (cc : BitVec 3)
  | cSeqPs (ft : BitVec 5) (fs : BitVec 5) (cc : BitVec 3)
  | cNglPs (ft : BitVec 5) (fs : BitVec 5) (cc : BitVec 3)
  | cLtPs (ft : BitVec 5) (fs : BitVec 5) (cc : BitVec 3)
  | cNgePs (ft : BitVec 5) (fs : BitVec 5) (cc : BitVec 3)
  | cLePs (ft : BitVec 5) (fs : BitVec 5) (cc : BitVec 3)
  | cNgtPs (ft : BitVec 5) (fs : BitVec 5) (cc : BitVec 3)
  | ceilLS (fs : BitVec 5) (fd : BitVec 5)
  | ceilLD (fs : BitVec 5) (fd : BitVec 5)
  | ceilWS (fs : BitVec 5) (fd : BitVec 5)
  | ceilWD (fs : BitVec 5) (fd : BitVec 5)
  | cvtDS (fs : BitVec 5) (fd : BitVec 5)
  | cvtDW (fs : BitVec 5) (fd : BitVec 5)
  | cvtDL (fs : BitVec 5) (fd : BitVec 5)
  | cvtLS (fs : BitVec 5) (fd : BitVec 5)
  | cvtLD (fs : BitVec 5) (fd : BitVec 5)
  | cvtSD (fs : BitVec 5) (fd : BitVec 5)
  | cvtSW (fs : BitVec 5) (fd : BitVec 5)
  | cvtSL (fs : BitVec 5) (fd : BitVec 5)
  | cvtWS (fs : BitVec 5) (fd : BitVec 5)
  | cvtWD (fs : BitVec 5) (fd : BitVec 5)
  | floorLS (fs : BitVec 5) (fd : BitVec 5)
  | floorLD (fs : BitVec 5) (fd : BitVec 5)
  | floorWS (fs : BitVec 5) (fd : BitVec 5)
  | floorWD (fs : BitVec 5) (fd : BitVec 5)
  | roundLS (fs : BitVec 5) (fd : BitVec 5)
  | roundLD (fs : BitVec 5) (fd : BitVec 5)
  | roundWS (fs : BitVec 5) (fd : BitVec 5)
  | roundWD (fs : BitVec 5) (fd : BitVec 5)
  | truncLS (fs : BitVec 5) (fd : BitVec 5)
  | truncLD (fs : BitVec 5) (fd : BitVec 5)
  | truncWS (fs : BitVec 5) (fd : BitVec 5)
  | truncWD (fs : BitVec 5) (fd : BitVec 5)
  | cvtPsS (ft : BitVec 5) (fs : BitVec 5) (fd : BitVec 5)
  | cvtSPl (fs : BitVec 5) (fd : BitVec 5)
  | cvtDLd
  | cvtLdD
  | cvtUdD
  | cvtSPu (fs : BitVec 5) (fd : BitVec 5)
  | pllPs (ft : BitVec 5) (fs : BitVec 5) (fd : BitVec 5)
  | pluPs (ft : BitVec 5) (fs : BitVec 5) (fd : BitVec 5)
  | pulPs (ft : BitVec 5) (fs : BitVec 5) (fd : BitVec 5)
  | puuPs (ft : BitVec 5) (fs : BitVec 5) (fd : BitVec 5)
  -- Floating-point moves and memory, 49_fpu_move_mem.md
  | cfc1 (rt : BitVec 5) (fs : BitVec 5)
  | ctc1 (rt : BitVec 5) (fs : BitVec 5)
  | dmfc1 (rt : BitVec 5) (fs : BitVec 5)
  | dmtc1 (rt : BitVec 5) (fs : BitVec 5)
  | mfc1 (rt : BitVec 5) (fs : BitVec 5)
  | mfhc1 (rt : BitVec 5) (fs : BitVec 5)
  | mtc1 (rt : BitVec 5) (fs : BitVec 5)
  | mthc1 (rt : BitVec 5) (fs : BitVec 5)
  | alnvPs (rs : BitVec 5) (ft : BitVec 5) (fs : BitVec 5) (fd : BitVec 5)
  | movS (fs : BitVec 5) (fd : BitVec 5)
  | movD (fs : BitVec 5) (fd : BitVec 5)
  | movPs (fs : BitVec 5) (fd : BitVec 5)
  | movfS (cc : BitVec 3) (fs : BitVec 5) (fd : BitVec 5)
  | movfD (cc : BitVec 3) (fs : BitVec 5) (fd : BitVec 5)
  | movfPs (cc : BitVec 3) (fs : BitVec 5) (fd : BitVec 5)
  | movnS (rt : BitVec 5) (fs : BitVec 5) (fd : BitVec 5)
  | movnD (rt : BitVec 5) (fs : BitVec 5) (fd : BitVec 5)
  | movnPs (rt : BitVec 5) (fs : BitVec 5) (fd : BitVec 5)
  | movtS (cc : BitVec 3) (fs : BitVec 5) (fd : BitVec 5)
  | movtD (cc : BitVec 3) (fs : BitVec 5) (fd : BitVec 5)
  | movtPs (cc : BitVec 3) (fs : BitVec 5) (fd : BitVec 5)
  | movzS (rt : BitVec 5) (fs : BitVec 5) (fd : BitVec 5)
  | movzD (rt : BitVec 5) (fs : BitVec 5) (fd : BitVec 5)
  | movzPs (rt : BitVec 5) (fs : BitVec 5) (fd : BitVec 5)
  | bc1f (cc : BitVec 3) (imm : BitVec 16)
  | bc1fl (cc : BitVec 3) (imm : BitVec 16)
  | bc1t (cc : BitVec 3) (imm : BitVec 16)
  | bc1tl (cc : BitVec 3) (imm : BitVec 16)
  | ldc1 (base : BitVec 5) (ft : BitVec 5) (imm : BitVec 16)
  | ldxc1 (base : BitVec 5) (index : BitVec 5) (fd : BitVec 5)
  | luxc1 (base : BitVec 5) (index : BitVec 5) (fd : BitVec 5)
  | lwc1 (base : BitVec 5) (ft : BitVec 5) (imm : BitVec 16)
  | lwxc1 (base : BitVec 5) (index : BitVec 5) (fd : BitVec 5)
  | sdc1 (base : BitVec 5) (ft : BitVec 5) (imm : BitVec 16)
  | sdxc1 (base : BitVec 5) (index : BitVec 5) (fs : BitVec 5)
  | suxc1 (base : BitVec 5) (index : BitVec 5) (fs : BitVec 5)
  | swc1 (base : BitVec 5) (ft : BitVec 5) (imm : BitVec 16)
  | swxc1 (base : BitVec 5) (index : BitVec 5) (fs : BitVec 5)
  | gssqc1 (base : BitVec 5) (ft : BitVec 5) (off : BitVec 9) (rq : BitVec 5)
  | gsswlec1 (base : BitVec 5) (ft : BitVec 5) (rd : BitVec 5)
  | gslwxc1 (base : BitVec 5) (ft : BitVec 5) (index : BitVec 5) (off : BitVec 8)
  | gslqc1 (base : BitVec 5) (ft : BitVec 5) (off : BitVec 9) (rq : BitVec 5)
  | gslwlec1 (base : BitVec 5) (ft : BitVec 5) (rd : BitVec 5)
  | gslwlc1 (base : BitVec 5) (ft : BitVec 5) (off : BitVec 8)
  | gslwrc1 (base : BitVec 5) (ft : BitVec 5) (off : BitVec 8)
  | gsldlc1 (base : BitVec 5) (ft : BitVec 5) (off : BitVec 8)
  | gsldrc1 (base : BitVec 5) (ft : BitVec 5) (off : BitVec 8)
  | gslwgtc1 (base : BitVec 5) (ft : BitVec 5) (rd : BitVec 5)
  | gsldlec1 (base : BitVec 5) (ft : BitVec 5) (rd : BitVec 5)
  | gsldgtc1 (base : BitVec 5) (ft : BitVec 5) (rd : BitVec 5)
  | gsldxc1 (base : BitVec 5) (ft : BitVec 5) (index : BitVec 5) (off : BitVec 8)
  | gsswlc1 (base : BitVec 5) (ft : BitVec 5) (off : BitVec 8)
  | gsswrc1 (base : BitVec 5) (ft : BitVec 5) (off : BitVec 8)
  | gssdlc1 (base : BitVec 5) (ft : BitVec 5) (off : BitVec 8)
  | gssdrc1 (base : BitVec 5) (ft : BitVec 5) (off : BitVec 8)
  | gsswgtc1 (base : BitVec 5) (ft : BitVec 5) (rd : BitVec 5)
  | gssdlec1 (base : BitVec 5) (ft : BitVec 5) (rd : BitVec 5)
  | gssdgtc1 (base : BitVec 5) (ft : BitVec 5) (rd : BitVec 5)
  | gsswxc1 (base : BitVec 5) (ft : BitVec 5) (index : BitVec 5) (off : BitVec 8)
  | gssdxc1 (base : BitVec 5) (ft : BitVec 5) (index : BitVec 5) (off : BitVec 8)
  deriving DecidableEq, Repr

end Sys2Proof
end

