-- ==== Sys2Proof/Decode.lean ====
section
/-!
DEFINITION. The decoder and the encoder, both written from the `Encoding:` lines of the instruction rules and
the opcode maps (30_encoding.md rules R260 to R279). A fixed 0 of such a line, in a reserved field too, is tested
(rule R264): a word with that bit set decodes to nothing, as every word that matches no row (rules R280, R281).
-/
namespace Sys2Proof

-- Lean's compiler cannot build a constructor numbered above 244 (the kernel can), so no code is
-- generated for what builds an instruction.
noncomputable section

/-! ### Fields of a word (30_encoding.md rules R261, R262) -/

/-- Major opcode, bits 31 to 26. -/
def fieldOp (w : Word) : BitVec 6 := w.extractLsb' 26 6

/-- Bits 25 to 21. -/
def fieldA (w : Word) : BitVec 5 := w.extractLsb' 21 5

/-- Bits 20 to 16. -/
def fieldB (w : Word) : BitVec 5 := w.extractLsb' 16 5

/-- Bits 15 to 11. -/
def fieldC (w : Word) : BitVec 5 := w.extractLsb' 11 5

/-- Bits 10 to 6. -/
def fieldD (w : Word) : BitVec 5 := w.extractLsb' 6 5

/-- Function, bits 5 to 0. -/
def fieldF (w : Word) : BitVec 6 := w.extractLsb' 0 6

/-- 16-bit immediate. -/
def fieldImm (w : Word) : BitVec 16 := w.extractLsb' 0 16

/-- Jump index. -/
def fieldIdx (w : Word) : BitVec 26 := w.extractLsb' 0 26

/-- 20-bit code. -/
def fieldCode (w : Word) : BitVec 20 := w.extractLsb' 6 20

/-- 10-bit trap code. -/
def fieldTcode (w : Word) : BitVec 10 := w.extractLsb' 6 10

/-- Bit 25 of a COP0 word. -/
def fieldCo (w : Word) : BitVec 1 := w.extractLsb' 25 1

/-- 19-bit code of WAIT. -/
def fieldWcode (w : Word) : BitVec 19 := w.extractLsb' 6 19

/-- Offset of the indexed sub-format (47_custom_int.md rule R602). -/
def fieldOff8 (w : Word) : BitVec 8 := w.extractLsb' 3 8

/-- Selector of the indexed sub-format. -/
def fieldSel (w : Word) : BitVec 3 := w.extractLsb' 0 3

/-- Bits 15 and 14 of the shifted sub-format (47_custom_int.md rule R601). -/
def fieldPad (w : Word) : BitVec 2 := w.extractLsb' 14 2

/-- Offset of the shifted sub-format. -/
def fieldOffl (w : Word) : BitVec 8 := w.extractLsb' 6 8

/-- Bit 15 of the quad sub-format (47_custom_int.md rule R603). -/
def fieldH (w : Word) : BitVec 1 := w.extractLsb' 15 1

/-- Offset of the quad sub-format. -/
def fieldOffq (w : Word) : BitVec 9 := w.extractLsb' 6 9

/-- Bit 5. -/
def fieldFive (w : Word) : BitVec 1 := w.extractLsb' 5 1

/-- Second data register of the quad sub-format. -/
def fieldZ (w : Word) : BitVec 5 := w.extractLsb' 0 5

/-! ### Decoding -/

/-- SLL, and the three words of it that have names of their own (30_encoding.md rule R286). -/
def decodeSll (b : BitVec 5) (c : BitVec 5) (d : BitVec 5) : Option Instr :=
  if b = 0#5 ∧ c = 0#5 ∧ d = 0#5 then some .nop
  else if b = 0#5 ∧ c = 0#5 ∧ d = 1#5 then some .ssnop
  else if b = 0#5 ∧ c = 0#5 ∧ d = 3#5 then some .ehb
  else some (.sll b c d)

/-- SPECIAL (30_encoding.md rule R271). -/
def decodeSpecial (a : BitVec 5) (b : BitVec 5) (c : BitVec 5) (d : BitVec 5) (f : BitVec 6) (code : BitVec 20) (tcode : BitVec 10) : Option Instr :=
  if f = 32#6 then (if d = 0#5 then some (.add a b c) else none)
  else if f = 44#6 then (if d = 0#5 then some (.dadd a b c) else none)
  else if f = 33#6 then (if d = 0#5 then some (.addu a b c) else none)
  else if f = 45#6 then (if d = 0#5 then some (.daddu a b c) else none)
  else if f = 34#6 then (if d = 0#5 then some (.sub a b c) else none)
  else if f = 46#6 then (if d = 0#5 then some (.dsub a b c) else none)
  else if f = 35#6 then (if d = 0#5 then some (.subu a b c) else none)
  else if f = 47#6 then (if d = 0#5 then some (.dsubu a b c) else none)
  else if f = 42#6 then (if d = 0#5 then some (.slt a b c) else none)
  else if f = 43#6 then (if d = 0#5 then some (.sltu a b c) else none)
  else if f = 36#6 then (if d = 0#5 then some (.and a b c) else none)
  else if f = 37#6 then (if d = 0#5 then some (.or a b c) else none)
  else if f = 38#6 then (if d = 0#5 then some (.xor a b c) else none)
  else if f = 39#6 then (if d = 0#5 then some (.nor a b c) else none)
  else if f = 24#6 then (if c = 0#5 ∧ d = 0#5 then some (.mult a b) else none)
  else if f = 28#6 then (if c = 0#5 ∧ d = 0#5 then some (.dmult a b) else none)
  else if f = 25#6 then (if c = 0#5 ∧ d = 0#5 then some (.multu a b) else none)
  else if f = 29#6 then (if c = 0#5 ∧ d = 0#5 then some (.dmultu a b) else none)
  else if f = 26#6 then (if c = 0#5 ∧ d = 0#5 then some (.div a b) else none)
  else if f = 30#6 then (if c = 0#5 ∧ d = 0#5 then some (.ddiv a b) else none)
  else if f = 27#6 then (if c = 0#5 ∧ d = 0#5 then some (.divu a b) else none)
  else if f = 31#6 then (if c = 0#5 ∧ d = 0#5 then some (.ddivu a b) else none)
  else if f = 16#6 then (if a = 0#5 ∧ b = 0#5 ∧ d = 0#5 then some (.mfhi c) else none)
  else if f = 17#6 then (if b = 0#5 ∧ c = 0#5 ∧ d = 0#5 then some (.mthi a) else none)
  else if f = 18#6 then (if a = 0#5 ∧ b = 0#5 ∧ d = 0#5 then some (.mflo c) else none)
  else if f = 19#6 then (if b = 0#5 ∧ c = 0#5 ∧ d = 0#5 then some (.mtlo a) else none)
  else if f = 0#6 then (if a = 0#5 then decodeSll b c d else none)
  else if f = 2#6 then
    if a = 0#5 then some (.srl b c d)
    else if a = 1#5 then some (.rotr b c d)
    else none
  else if f = 3#6 then (if a = 0#5 then some (.sra b c d) else none)
  else if f = 4#6 then (if d = 0#5 then some (.sllv a b c) else none)
  else if f = 6#6 then
    if d = 0#5 then some (.srlv a b c)
    else if d = 1#5 then some (.rotrv a b c)
    else none
  else if f = 7#6 then (if d = 0#5 then some (.srav a b c) else none)
  else if f = 56#6 then (if a = 0#5 then some (.dsll b c d) else none)
  else if f = 58#6 then
    if a = 0#5 then some (.dsrl b c d)
    else if a = 1#5 then some (.drotr b c d)
    else none
  else if f = 59#6 then (if a = 0#5 then some (.dsra b c d) else none)
  else if f = 20#6 then (if d = 0#5 then some (.dsllv a b c) else none)
  else if f = 22#6 then
    if d = 0#5 then some (.dsrlv a b c)
    else if d = 1#5 then some (.drotrv a b c)
    else none
  else if f = 23#6 then (if d = 0#5 then some (.dsrav a b c) else none)
  else if f = 60#6 then (if a = 0#5 then some (.dsll32 b c d) else none)
  else if f = 62#6 then
    if a = 0#5 then some (.dsrl32 b c d)
    else if a = 1#5 then some (.drotr32 b c d)
    else none
  else if f = 63#6 then (if a = 0#5 then some (.dsra32 b c d) else none)
  else if f = 8#6 then
    if d = 0#5 then (if b = 0#5 ∧ c = 0#5 then some (.jr a) else none)
    else if d = 16#5 then (if b = 0#5 ∧ c = 0#5 then some (.jrHb a) else none)
    else none
  else if f = 9#6 then
    if d = 0#5 then (if b = 0#5 then some (.jalr a c) else none)
    else if d = 16#5 then (if b = 0#5 then some (.jalrHb a c) else none)
    else none
  else if f = 12#6 then some (.syscall code)
  else if f = 13#6 then some (.brk code)
  else if f = 15#6 then (if a = 0#5 ∧ b = 0#5 ∧ c = 0#5 then some (.sync d) else none)
  else if f = 48#6 then some (.tge a b tcode)
  else if f = 49#6 then some (.tgeu a b tcode)
  else if f = 50#6 then some (.tlt a b tcode)
  else if f = 51#6 then some (.tltu a b tcode)
  else if f = 52#6 then some (.teq a b tcode)
  else if f = 54#6 then some (.tne a b tcode)
  else if f = 11#6 then (if d = 0#5 then some (.movn a b c) else none)
  else if f = 10#6 then (if d = 0#5 then some (.movz a b c) else none)
  else if f = 1#6 then
    if b.extractLsb' 0 2 = 0#2 then (if d = 0#5 then some (.movf a (b.extractLsb' 2 3) c) else none)
    else if b.extractLsb' 0 2 = 1#2 then (if d = 0#5 then some (.movt a (b.extractLsb' 2 3) c) else none)
    else none
  else none

/-- REGIMM (30_encoding.md rule R272). -/
def decodeRegImm (a : BitVec 5) (b : BitVec 5) (imm : BitVec 16) : Option Instr :=
  if b = 0#5 then some (.bltz a imm)
  else if b = 1#5 then some (.bgez a imm)
  else if b = 16#5 then some (.bltzal a imm)
  else if b = 17#5 then some (.bgezal a imm)
  else if b = 2#5 then some (.bltzl a imm)
  else if b = 3#5 then some (.bgezl a imm)
  else if b = 18#5 then some (.bltzall a imm)
  else if b = 19#5 then some (.bgezall a imm)
  else if b = 31#5 then some (.synci a imm)
  else if b = 8#5 then some (.tgei a imm)
  else if b = 9#5 then some (.tgeiu a imm)
  else if b = 10#5 then some (.tlti a imm)
  else if b = 11#5 then some (.tltiu a imm)
  else if b = 12#5 then some (.teqi a imm)
  else if b = 14#5 then some (.tnei a imm)
  else none

/-- COP0 (30_encoding.md rule R275). -/
def decodeCop0 (a : BitVec 5) (b : BitVec 5) (c : BitVec 5) (d : BitVec 5) (f : BitVec 6) (co : BitVec 1) (wcode : BitVec 19) : Option Instr :=
  if co = 0#1 then
    if a = 0#5 then (if d = 0#5 ∧ f.extractLsb' 3 3 = 0#3 then some (.mfc0 b c (f.extractLsb' 0 3)) else none)
    else if a = 1#5 then (if d = 0#5 ∧ f.extractLsb' 3 3 = 0#3 then some (.dmfc0 b c (f.extractLsb' 0 3)) else none)
    else if a = 4#5 then (if d = 0#5 ∧ f.extractLsb' 3 3 = 0#3 then some (.mtc0 b c (f.extractLsb' 0 3)) else none)
    else if a = 5#5 then (if d = 0#5 ∧ f.extractLsb' 3 3 = 0#3 then some (.dmtc0 b c (f.extractLsb' 0 3)) else none)
    else if a = 10#5 then (if f = 0#6 ∧ d = 0#5 then some (.rdpgpr b c) else none)
    else if a = 14#5 then (if f = 0#6 ∧ d = 0#5 then some (.wrpgpr b c) else none)
    else if a = 11#5 then
      if f = 0#6 then (if c = 12#5 ∧ d = 0#5 then some (.di b) else none)
      else if f = 32#6 then (if c = 12#5 ∧ d = 0#5 then some (.ei b) else none)
      else none
    else none
  else if co = 1#1 then
    if f = 8#6 then (if wcode = 0#19 then some .tlbp else none)
    else if f = 1#6 then (if wcode = 0#19 then some .tlbr else none)
    else if f = 2#6 then (if wcode = 0#19 then some .tlbwi else none)
    else if f = 6#6 then (if wcode = 0#19 then some .tlbwr else none)
    else if f = 24#6 then (if wcode = 0#19 then some .eret else none)
    else if f = 31#6 then (if wcode = 0#19 then some .deret else none)
    else if f = 32#6 then some (.wait wcode)
    else none
  else none

/-- COP1 (30_encoding.md rule R276). -/
def decodeCop1 (a : BitVec 5) (b : BitVec 5) (c : BitVec 5) (d : BitVec 5) (f : BitVec 6) (imm : BitVec 16) : Option Instr :=
  if a = 16#5 then
    if f = 5#6 then (if b = 0#5 then some (.absS c d) else none)
    else if f = 0#6 then some (.addS b c d)
    else if f = 3#6 then some (.divS b c d)
    else if f = 2#6 then some (.mulS b c d)
    else if f = 7#6 then (if b = 0#5 then some (.negS c d) else none)
    else if f = 21#6 then (if b = 0#5 then some (.recipS c d) else none)
    else if f = 22#6 then (if b = 0#5 then some (.rsqrtS c d) else none)
    else if f = 4#6 then (if b = 0#5 then some (.sqrtS c d) else none)
    else if f = 1#6 then some (.subS b c d)
    else if f = 48#6 then (if d.extractLsb' 0 2 = 0#2 then some (.cFS b c (d.extractLsb' 2 3)) else none)
    else if f = 49#6 then (if d.extractLsb' 0 2 = 0#2 then some (.cUnS b c (d.extractLsb' 2 3)) else none)
    else if f = 50#6 then (if d.extractLsb' 0 2 = 0#2 then some (.cEqS b c (d.extractLsb' 2 3)) else none)
    else if f = 51#6 then (if d.extractLsb' 0 2 = 0#2 then some (.cUeqS b c (d.extractLsb' 2 3)) else none)
    else if f = 52#6 then (if d.extractLsb' 0 2 = 0#2 then some (.cOltS b c (d.extractLsb' 2 3)) else none)
    else if f = 53#6 then (if d.extractLsb' 0 2 = 0#2 then some (.cUltS b c (d.extractLsb' 2 3)) else none)
    else if f = 54#6 then (if d.extractLsb' 0 2 = 0#2 then some (.cOleS b c (d.extractLsb' 2 3)) else none)
    else if f = 55#6 then (if d.extractLsb' 0 2 = 0#2 then some (.cUleS b c (d.extractLsb' 2 3)) else none)
    else if f = 56#6 then (if d.extractLsb' 0 2 = 0#2 then some (.cSfS b c (d.extractLsb' 2 3)) else none)
    else if f = 57#6 then (if d.extractLsb' 0 2 = 0#2 then some (.cNgleS b c (d.extractLsb' 2 3)) else none)
    else if f = 58#6 then (if d.extractLsb' 0 2 = 0#2 then some (.cSeqS b c (d.extractLsb' 2 3)) else none)
    else if f = 59#6 then (if d.extractLsb' 0 2 = 0#2 then some (.cNglS b c (d.extractLsb' 2 3)) else none)
    else if f = 60#6 then (if d.extractLsb' 0 2 = 0#2 then some (.cLtS b c (d.extractLsb' 2 3)) else none)
    else if f = 61#6 then (if d.extractLsb' 0 2 = 0#2 then some (.cNgeS b c (d.extractLsb' 2 3)) else none)
    else if f = 62#6 then (if d.extractLsb' 0 2 = 0#2 then some (.cLeS b c (d.extractLsb' 2 3)) else none)
    else if f = 63#6 then (if d.extractLsb' 0 2 = 0#2 then some (.cNgtS b c (d.extractLsb' 2 3)) else none)
    else if f = 10#6 then (if b = 0#5 then some (.ceilLS c d) else none)
    else if f = 14#6 then (if b = 0#5 then some (.ceilWS c d) else none)
    else if f = 33#6 then (if b = 0#5 then some (.cvtDS c d) else none)
    else if f = 37#6 then (if b = 0#5 then some (.cvtLS c d) else none)
    else if f = 36#6 then (if b = 0#5 then some (.cvtWS c d) else none)
    else if f = 11#6 then (if b = 0#5 then some (.floorLS c d) else none)
    else if f = 15#6 then (if b = 0#5 then some (.floorWS c d) else none)
    else if f = 8#6 then (if b = 0#5 then some (.roundLS c d) else none)
    else if f = 12#6 then (if b = 0#5 then some (.roundWS c d) else none)
    else if f = 9#6 then (if b = 0#5 then some (.truncLS c d) else none)
    else if f = 13#6 then (if b = 0#5 then some (.truncWS c d) else none)
    else if f = 38#6 then some (.cvtPsS b c d)
    else if f = 6#6 then (if b = 0#5 then some (.movS c d) else none)
    else if f = 17#6 then
      if b.extractLsb' 0 2 = 0#2 then some (.movfS (b.extractLsb' 2 3) c d)
      else if b.extractLsb' 0 2 = 1#2 then some (.movtS (b.extractLsb' 2 3) c d)
      else none
    else if f = 19#6 then some (.movnS b c d)
    else if f = 18#6 then some (.movzS b c d)
    else none
  else if a = 17#5 then
    if f = 5#6 then (if b = 0#5 then some (.absD c d) else none)
    else if f = 0#6 then some (.addD b c d)
    else if f = 3#6 then some (.divD b c d)
    else if f = 2#6 then some (.mulD b c d)
    else if f = 7#6 then (if b = 0#5 then some (.negD c d) else none)
    else if f = 21#6 then (if b = 0#5 then some (.recipD c d) else none)
    else if f = 22#6 then (if b = 0#5 then some (.rsqrtD c d) else none)
    else if f = 4#6 then (if b = 0#5 then some (.sqrtD c d) else none)
    else if f = 1#6 then some (.subD b c d)
    else if f = 48#6 then (if d.extractLsb' 0 2 = 0#2 then some (.cFD b c (d.extractLsb' 2 3)) else none)
    else if f = 49#6 then (if d.extractLsb' 0 2 = 0#2 then some (.cUnD b c (d.extractLsb' 2 3)) else none)
    else if f = 50#6 then (if d.extractLsb' 0 2 = 0#2 then some (.cEqD b c (d.extractLsb' 2 3)) else none)
    else if f = 51#6 then (if d.extractLsb' 0 2 = 0#2 then some (.cUeqD b c (d.extractLsb' 2 3)) else none)
    else if f = 52#6 then (if d.extractLsb' 0 2 = 0#2 then some (.cOltD b c (d.extractLsb' 2 3)) else none)
    else if f = 53#6 then (if d.extractLsb' 0 2 = 0#2 then some (.cUltD b c (d.extractLsb' 2 3)) else none)
    else if f = 54#6 then (if d.extractLsb' 0 2 = 0#2 then some (.cOleD b c (d.extractLsb' 2 3)) else none)
    else if f = 55#6 then (if d.extractLsb' 0 2 = 0#2 then some (.cUleD b c (d.extractLsb' 2 3)) else none)
    else if f = 56#6 then (if d.extractLsb' 0 2 = 0#2 then some (.cSfD b c (d.extractLsb' 2 3)) else none)
    else if f = 57#6 then (if d.extractLsb' 0 2 = 0#2 then some (.cNgleD b c (d.extractLsb' 2 3)) else none)
    else if f = 58#6 then (if d.extractLsb' 0 2 = 0#2 then some (.cSeqD b c (d.extractLsb' 2 3)) else none)
    else if f = 59#6 then (if d.extractLsb' 0 2 = 0#2 then some (.cNglD b c (d.extractLsb' 2 3)) else none)
    else if f = 60#6 then (if d.extractLsb' 0 2 = 0#2 then some (.cLtD b c (d.extractLsb' 2 3)) else none)
    else if f = 61#6 then (if d.extractLsb' 0 2 = 0#2 then some (.cNgeD b c (d.extractLsb' 2 3)) else none)
    else if f = 62#6 then (if d.extractLsb' 0 2 = 0#2 then some (.cLeD b c (d.extractLsb' 2 3)) else none)
    else if f = 63#6 then (if d.extractLsb' 0 2 = 0#2 then some (.cNgtD b c (d.extractLsb' 2 3)) else none)
    else if f = 10#6 then (if b = 0#5 then some (.ceilLD c d) else none)
    else if f = 14#6 then (if b = 0#5 then some (.ceilWD c d) else none)
    else if f = 37#6 then (if b = 0#5 then some (.cvtLD c d) else none)
    else if f = 32#6 then (if b = 0#5 then some (.cvtSD c d) else none)
    else if f = 36#6 then (if b = 0#5 then some (.cvtWD c d) else none)
    else if f = 11#6 then (if b = 0#5 then some (.floorLD c d) else none)
    else if f = 15#6 then (if b = 0#5 then some (.floorWD c d) else none)
    else if f = 8#6 then (if b = 0#5 then some (.roundLD c d) else none)
    else if f = 12#6 then (if b = 0#5 then some (.roundWD c d) else none)
    else if f = 9#6 then (if b = 0#5 then some (.truncLD c d) else none)
    else if f = 13#6 then (if b = 0#5 then some (.truncWD c d) else none)
    else if f = 6#6 then (if b = 0#5 then some (.movD c d) else none)
    else if f = 17#6 then
      if b.extractLsb' 0 2 = 0#2 then some (.movfD (b.extractLsb' 2 3) c d)
      else if b.extractLsb' 0 2 = 1#2 then some (.movtD (b.extractLsb' 2 3) c d)
      else none
    else if f = 19#6 then some (.movnD b c d)
    else if f = 18#6 then some (.movzD b c d)
    else none
  else if a = 22#5 then
    if f = 5#6 then (if b = 0#5 then some (.absPs c d) else none)
    else if f = 0#6 then some (.addPs b c d)
    else if f = 2#6 then some (.mulPs b c d)
    else if f = 7#6 then (if b = 0#5 then some (.negPs c d) else none)
    else if f = 1#6 then some (.subPs b c d)
    else if f = 48#6 then (if d.extractLsb' 0 2 = 0#2 then some (.cFPs b c (d.extractLsb' 2 3)) else none)
    else if f = 49#6 then (if d.extractLsb' 0 2 = 0#2 then some (.cUnPs b c (d.extractLsb' 2 3)) else none)
    else if f = 50#6 then (if d.extractLsb' 0 2 = 0#2 then some (.cEqPs b c (d.extractLsb' 2 3)) else none)
    else if f = 51#6 then (if d.extractLsb' 0 2 = 0#2 then some (.cUeqPs b c (d.extractLsb' 2 3)) else none)
    else if f = 52#6 then (if d.extractLsb' 0 2 = 0#2 then some (.cOltPs b c (d.extractLsb' 2 3)) else none)
    else if f = 53#6 then (if d.extractLsb' 0 2 = 0#2 then some (.cUltPs b c (d.extractLsb' 2 3)) else none)
    else if f = 54#6 then (if d.extractLsb' 0 2 = 0#2 then some (.cOlePs b c (d.extractLsb' 2 3)) else none)
    else if f = 55#6 then (if d.extractLsb' 0 2 = 0#2 then some (.cUlePs b c (d.extractLsb' 2 3)) else none)
    else if f = 56#6 then (if d.extractLsb' 0 2 = 0#2 then some (.cSfPs b c (d.extractLsb' 2 3)) else none)
    else if f = 57#6 then (if d.extractLsb' 0 2 = 0#2 then some (.cNglePs b c (d.extractLsb' 2 3)) else none)
    else if f = 58#6 then (if d.extractLsb' 0 2 = 0#2 then some (.cSeqPs b c (d.extractLsb' 2 3)) else none)
    else if f = 59#6 then (if d.extractLsb' 0 2 = 0#2 then some (.cNglPs b c (d.extractLsb' 2 3)) else none)
    else if f = 60#6 then (if d.extractLsb' 0 2 = 0#2 then some (.cLtPs b c (d.extractLsb' 2 3)) else none)
    else if f = 61#6 then (if d.extractLsb' 0 2 = 0#2 then some (.cNgePs b c (d.extractLsb' 2 3)) else none)
    else if f = 62#6 then (if d.extractLsb' 0 2 = 0#2 then some (.cLePs b c (d.extractLsb' 2 3)) else none)
    else if f = 63#6 then (if d.extractLsb' 0 2 = 0#2 then some (.cNgtPs b c (d.extractLsb' 2 3)) else none)
    else if f = 40#6 then (if b = 0#5 then some (.cvtSPl c d) else none)
    else if f = 32#6 then (if b = 0#5 then some (.cvtSPu c d) else none)
    else if f = 44#6 then some (.pllPs b c d)
    else if f = 45#6 then some (.pluPs b c d)
    else if f = 46#6 then some (.pulPs b c d)
    else if f = 47#6 then some (.puuPs b c d)
    else if f = 6#6 then (if b = 0#5 then some (.movPs c d) else none)
    else if f = 17#6 then
      if b.extractLsb' 0 2 = 0#2 then some (.movfPs (b.extractLsb' 2 3) c d)
      else if b.extractLsb' 0 2 = 1#2 then some (.movtPs (b.extractLsb' 2 3) c d)
      else none
    else if f = 19#6 then some (.movnPs b c d)
    else if f = 18#6 then some (.movzPs b c d)
    else none
  else if a = 20#5 then
    if f = 33#6 then (if b = 0#5 then some (.cvtDW c d) else none)
    else if f = 32#6 then (if b = 0#5 then some (.cvtSW c d) else none)
    else none
  else if a = 21#5 then
    if f = 33#6 then (if b = 0#5 then some (.cvtDL c d) else none)
    else if f = 32#6 then (if b = 0#5 then some (.cvtSL c d) else none)
    else none
  else if a = 2#5 then (if f = 0#6 ∧ d = 0#5 then some (.cfc1 b c) else none)
  else if a = 6#5 then (if f = 0#6 ∧ d = 0#5 then some (.ctc1 b c) else none)
  else if a = 1#5 then (if f = 0#6 ∧ d = 0#5 then some (.dmfc1 b c) else none)
  else if a = 5#5 then (if f = 0#6 ∧ d = 0#5 then some (.dmtc1 b c) else none)
  else if a = 0#5 then (if f = 0#6 ∧ d = 0#5 then some (.mfc1 b c) else none)
  else if a = 3#5 then (if f = 0#6 ∧ d = 0#5 then some (.mfhc1 b c) else none)
  else if a = 4#5 then (if f = 0#6 ∧ d = 0#5 then some (.mtc1 b c) else none)
  else if a = 7#5 then (if f = 0#6 ∧ d = 0#5 then some (.mthc1 b c) else none)
  else if a = 8#5 then
    if b.extractLsb' 0 2 = 0#2 then some (.bc1f (b.extractLsb' 2 3) imm)
    else if b.extractLsb' 0 2 = 2#2 then some (.bc1fl (b.extractLsb' 2 3) imm)
    else if b.extractLsb' 0 2 = 1#2 then some (.bc1t (b.extractLsb' 2 3) imm)
    else if b.extractLsb' 0 2 = 3#2 then some (.bc1tl (b.extractLsb' 2 3) imm)
    else none
  else none

/-- COP2, the multimedia instructions (30_encoding.md rule R278). -/
def decodeCop2 (a : BitVec 5) (b : BitVec 5) (c : BitVec 5) (d : BitVec 5) (f : BitVec 6) : Option Instr :=
  if f = 0#6 then
    if a = 24#5 then some (.paddsh b c d)
    else if a = 25#5 then some (.paddush b c d)
    else if a = 26#5 then some (.paddh b c d)
    else if a = 27#5 then some (.paddw b c d)
    else if a = 28#5 then some (.paddsb b c d)
    else if a = 29#5 then some (.paddusb b c d)
    else if a = 30#5 then some (.paddb b c d)
    else if a = 31#5 then some (.paddd b c d)
    else none
  else if f = 1#6 then
    if a = 24#5 then some (.psubsh b c d)
    else if a = 25#5 then some (.psubush b c d)
    else if a = 26#5 then some (.psubh b c d)
    else if a = 27#5 then some (.psubw b c d)
    else if a = 28#5 then some (.psubsb b c d)
    else if a = 29#5 then some (.psubusb b c d)
    else if a = 30#5 then some (.psubb b c d)
    else if a = 31#5 then some (.psubd b c d)
    else none
  else if f = 2#6 then
    if a = 24#5 then some (.pshufh b c d)
    else if a = 25#5 then some (.packsswh b c d)
    else if a = 26#5 then some (.packsshb b c d)
    else if a = 27#5 then some (.packushb b c d)
    else if a = 31#5 then some (.pandn b c d)
    else if a = 28#5 then some (.gsxor b c d)
    else if a = 29#5 then some (.gsnor b c d)
    else if a = 30#5 then some (.gsand b c d)
    else none
  else if f = 3#6 then
    if a = 24#5 then some (.punpcklhw b c d)
    else if a = 25#5 then some (.punpckhhw b c d)
    else if a = 26#5 then some (.punpcklbh b c d)
    else if a = 27#5 then some (.punpckhbh b c d)
    else if a = 28#5 then some (.pinsrh0 b c d)
    else if a = 29#5 then some (.pinsrh1 b c d)
    else if a = 30#5 then some (.pinsrh2 b c d)
    else if a = 31#5 then some (.pinsrh3 b c d)
    else none
  else if f = 8#6 then
    if a = 24#5 then some (.pavgh b c d)
    else if a = 25#5 then some (.pavgb b c d)
    else if a = 26#5 then some (.pmaxsh b c d)
    else if a = 27#5 then some (.pminsh b c d)
    else if a = 28#5 then some (.pmaxub b c d)
    else if a = 29#5 then some (.pminub b c d)
    else none
  else if f = 9#6 then
    if a = 24#5 then some (.pcmpeqw b c d)
    else if a = 25#5 then some (.pcmpgtw b c d)
    else if a = 26#5 then some (.pcmpeqh b c d)
    else if a = 27#5 then some (.pcmpgth b c d)
    else if a = 28#5 then some (.pcmpeqb b c d)
    else if a = 29#5 then some (.pcmpgtb b c d)
    else none
  else if f = 10#6 then
    if a = 24#5 then some (.psllw b c d)
    else if a = 25#5 then some (.psllh b c d)
    else if a = 26#5 then some (.pmullh b c d)
    else if a = 27#5 then some (.pmulhh b c d)
    else if a = 28#5 then some (.pmuluw b c d)
    else if a = 29#5 then some (.pmulhuh b c d)
    else none
  else if f = 11#6 then
    if a = 24#5 then some (.psrlw b c d)
    else if a = 25#5 then some (.psrlh b c d)
    else if a = 26#5 then some (.psraw b c d)
    else if a = 27#5 then some (.psrah b c d)
    else if a = 28#5 then some (.punpcklwd b c d)
    else if a = 29#5 then some (.punpckhwd b c d)
    else none
  else if f = 13#6 then
    if a = 25#5 then some (.pasubub b c d)
    else if a = 24#5 then some (.gssubu b c d)
    else if a = 26#5 then some (.gssub b c d)
    else if a = 27#5 then some (.gsdsub b c d)
    else if a = 28#5 then (if d = 0#5 then some (.gssltu b c) else none)
    else if a = 29#5 then (if d = 0#5 then some (.gsslt b c) else none)
    else none
  else if f = 14#6 then
    if a = 26#5 then some (.pextrh b c d)
    else if a = 27#5 then some (.pmaddhw b c d)
    else if a = 24#5 then some (.gssll b c d)
    else if a = 25#5 then some (.gsdsll b c d)
    else if a = 28#5 then (if d = 0#5 then some (.gssleu b c) else none)
    else if a = 29#5 then (if d = 0#5 then some (.gssle b c) else none)
    else none
  else if f = 15#6 then
    if a = 28#5 then (if b = 0#5 then some (.biadd c d) else none)
    else if a = 29#5 then (if b = 0#5 then some (.pmovmskb c d) else none)
    else if a = 24#5 then some (.gssrl b c d)
    else if a = 25#5 then some (.gsdsrl b c d)
    else if a = 26#5 then some (.gssra b c d)
    else if a = 27#5 then some (.gsdsra b c d)
    else none
  else if f = 12#6 then
    if a = 24#5 then some (.gsaddu b c d)
    else if a = 25#5 then some (.gsor b c d)
    else if a = 26#5 then some (.gsadd b c d)
    else if a = 27#5 then some (.gsdadd b c d)
    else if a = 28#5 then (if d = 0#5 then some (.gssequ b c) else none)
    else if a = 29#5 then (if d = 0#5 then some (.gsseq b c) else none)
    else none
  else none

/-- COP1X (30_encoding.md rule R277). -/
def decodeCop1x (a : BitVec 5) (b : BitVec 5) (c : BitVec 5) (d : BitVec 5) (f : BitVec 6) : Option Instr :=
  if f = 15#6 then (if d = 0#5 then some (.prefx a b c) else none)
  else if f = 32#6 then some (.maddS a b c d)
  else if f = 33#6 then some (.maddD a b c d)
  else if f = 38#6 then some (.maddPs a b c d)
  else if f = 40#6 then some (.msubS a b c d)
  else if f = 41#6 then some (.msubD a b c d)
  else if f = 46#6 then some (.msubPs a b c d)
  else if f = 48#6 then some (.nmaddS a b c d)
  else if f = 49#6 then some (.nmaddD a b c d)
  else if f = 54#6 then some (.nmaddPs a b c d)
  else if f = 56#6 then some (.nmsubS a b c d)
  else if f = 57#6 then some (.nmsubD a b c d)
  else if f = 62#6 then some (.nmsubPs a b c d)
  else if f = 30#6 then some (.alnvPs a b c d)
  else if f = 1#6 then (if c = 0#5 then some (.ldxc1 a b d) else none)
  else if f = 5#6 then (if c = 0#5 then some (.luxc1 a b d) else none)
  else if f = 0#6 then (if c = 0#5 then some (.lwxc1 a b d) else none)
  else if f = 9#6 then (if d = 0#5 then some (.sdxc1 a b c) else none)
  else if f = 13#6 then (if d = 0#5 then some (.suxc1 a b c) else none)
  else if f = 8#6 then (if d = 0#5 then some (.swxc1 a b c) else none)
  else none

/-- SPECIAL2 (30_encoding.md rule R273). -/
def decodeSpecial2 (a : BitVec 5) (b : BitVec 5) (c : BitVec 5) (d : BitVec 5) (f : BitVec 6) (code : BitVec 20) : Option Instr :=
  if f = 33#6 then (if d = 0#5 then some (.clo a b c) else none)
  else if f = 37#6 then (if d = 0#5 then some (.dclo a b c) else none)
  else if f = 32#6 then (if d = 0#5 then some (.clz a b c) else none)
  else if f = 36#6 then (if d = 0#5 then some (.dclz a b c) else none)
  else if f = 2#6 then (if d = 0#5 then some (.mul a b c) else none)
  else if f = 0#6 then (if c = 0#5 ∧ d = 0#5 then some (.madd a b) else none)
  else if f = 1#6 then (if c = 0#5 ∧ d = 0#5 then some (.maddu a b) else none)
  else if f = 4#6 then (if c = 0#5 ∧ d = 0#5 then some (.msub a b) else none)
  else if f = 5#6 then (if c = 0#5 ∧ d = 0#5 then some (.msubu a b) else none)
  else if f = 63#6 then some (.sdbbp code)
  else if f = 16#6 then (if d = 0#5 then some (.gsmult a b c) else none)
  else if f = 17#6 then (if d = 0#5 then some (.gsdmult a b c) else none)
  else if f = 18#6 then (if d = 0#5 then some (.gsmultu a b c) else none)
  else if f = 19#6 then (if d = 0#5 then some (.gsdmultu a b c) else none)
  else if f = 20#6 then (if d = 0#5 then some (.gsdiv a b c) else none)
  else if f = 21#6 then (if d = 0#5 then some (.gsddiv a b c) else none)
  else if f = 22#6 then (if d = 0#5 then some (.gsdivu a b c) else none)
  else if f = 23#6 then (if d = 0#5 then some (.gsddivu a b c) else none)
  else if f = 28#6 then (if d = 0#5 then some (.gsmod a b c) else none)
  else if f = 29#6 then (if d = 0#5 then some (.gsdmod a b c) else none)
  else if f = 30#6 then (if d = 0#5 then some (.gsmodu a b c) else none)
  else if f = 31#6 then (if d = 0#5 then some (.gsdmodu a b c) else none)
  else if f = 38#6 then (if c = 0#5 ∧ d = 0#5 then some (.gsle a b) else none)
  else if f = 39#6 then (if c = 0#5 ∧ d = 0#5 then some (.gsgt a b) else none)
  else none

/-- SPECIAL3 (30_encoding.md rule R274). -/
def decodeSpecial3 (a : BitVec 5) (b : BitVec 5) (c : BitVec 5) (d : BitVec 5) (f : BitVec 6) : Option Instr :=
  if f = 32#6 then
    if d = 2#5 then (if a = 0#5 then some (.wsbh b c) else none)
    else if d = 16#5 then (if a = 0#5 then some (.seb b c) else none)
    else if d = 24#5 then (if a = 0#5 then some (.seh b c) else none)
    else none
  else if f = 36#6 then
    if d = 5#5 then (if a = 0#5 then some (.dshd b c) else none)
    else if d = 2#5 then (if a = 0#5 then some (.dsbh b c) else none)
    else none
  else if f = 0#6 then some (.ext a b c d)
  else if f = 1#6 then some (.dextm a b c d)
  else if f = 2#6 then some (.dextu a b c d)
  else if f = 3#6 then some (.dext a b c d)
  else if f = 4#6 then some (.ins a b c d)
  else if f = 5#6 then some (.dinsm a b c d)
  else if f = 6#6 then some (.dinsu a b c d)
  else if f = 7#6 then some (.dins a b c d)
  else if f = 59#6 then (if a = 0#5 ∧ d = 0#5 then some (.rdhwr b c) else none)
  else none

/-- LWC2 (30_encoding.md rule R279). -/
def decodeLwc2 (a : BitVec 5) (b : BitVec 5) (c : BitVec 5) (d : BitVec 5) (f : BitVec 6) (pad : BitVec 2) (offl : BitVec 8) (h : BitVec 1) (offq : BitVec 9) (five : BitVec 1) (z : BitVec 5) : Option Instr :=
  if five = 0#1 then
    if f = 16#6 then (if d = 0#5 then some (.gslble a b c) else none)
    else if f = 17#6 then (if d = 0#5 then some (.gslbgt a b c) else none)
    else if f = 18#6 then (if d = 0#5 then some (.gslhle a b c) else none)
    else if f = 19#6 then (if d = 0#5 then some (.gslhgt a b c) else none)
    else if f = 20#6 then (if d = 0#5 then some (.gslwle a b c) else none)
    else if f = 21#6 then (if d = 0#5 then some (.gslwgt a b c) else none)
    else if f = 22#6 then (if d = 0#5 then some (.gsldle a b c) else none)
    else if f = 23#6 then (if d = 0#5 then some (.gsldgt a b c) else none)
    else if f = 24#6 then (if d = 0#5 then some (.gslwlec1 a b c) else none)
    else if f = 4#6 then (if pad = 0#2 then some (.gslwlc1 a b offl) else none)
    else if f = 5#6 then (if pad = 0#2 then some (.gslwrc1 a b offl) else none)
    else if f = 6#6 then (if pad = 0#2 then some (.gsldlc1 a b offl) else none)
    else if f = 7#6 then (if pad = 0#2 then some (.gsldrc1 a b offl) else none)
    else if f = 25#6 then (if d = 0#5 then some (.gslwgtc1 a b c) else none)
    else if f = 26#6 then (if d = 0#5 then some (.gsldlec1 a b c) else none)
    else if f = 27#6 then (if d = 0#5 then some (.gsldgtc1 a b c) else none)
    else none
  else if five = 1#1 then
    if h = 0#1 then some (.gslq a b offq z)
    else if h = 1#1 then some (.gslqc1 a b offq z)
    else none
  else none

/-- LDC2 (30_encoding.md rule R279). -/
def decodeLdc2 (a : BitVec 5) (b : BitVec 5) (c : BitVec 5) (off8 : BitVec 8) (sel : BitVec 3) : Option Instr :=
  if sel = 0#3 then some (.gslbx a b c off8)
  else if sel = 1#3 then some (.gslhx a b c off8)
  else if sel = 2#3 then some (.gslwx a b c off8)
  else if sel = 3#3 then some (.gsldx a b c off8)
  else if sel = 6#3 then some (.gslwxc1 a b c off8)
  else if sel = 7#3 then some (.gsldxc1 a b c off8)
  else none

/-- SWC2 (30_encoding.md rule R279). -/
def decodeSwc2 (a : BitVec 5) (b : BitVec 5) (c : BitVec 5) (d : BitVec 5) (f : BitVec 6) (pad : BitVec 2) (offl : BitVec 8) (h : BitVec 1) (offq : BitVec 9) (five : BitVec 1) (z : BitVec 5) : Option Instr :=
  if five = 0#1 then
    if f = 16#6 then (if d = 0#5 then some (.gssble a b c) else none)
    else if f = 17#6 then (if d = 0#5 then some (.gssbgt a b c) else none)
    else if f = 18#6 then (if d = 0#5 then some (.gsshle a b c) else none)
    else if f = 19#6 then (if d = 0#5 then some (.gsshgt a b c) else none)
    else if f = 20#6 then (if d = 0#5 then some (.gsswle a b c) else none)
    else if f = 21#6 then (if d = 0#5 then some (.gsswgt a b c) else none)
    else if f = 22#6 then (if d = 0#5 then some (.gssdle a b c) else none)
    else if f = 23#6 then (if d = 0#5 then some (.gssdgt a b c) else none)
    else if f = 28#6 then (if d = 0#5 then some (.gsswlec1 a b c) else none)
    else if f = 4#6 then (if pad = 0#2 then some (.gsswlc1 a b offl) else none)
    else if f = 5#6 then (if pad = 0#2 then some (.gsswrc1 a b offl) else none)
    else if f = 6#6 then (if pad = 0#2 then some (.gssdlc1 a b offl) else none)
    else if f = 7#6 then (if pad = 0#2 then some (.gssdrc1 a b offl) else none)
    else if f = 29#6 then (if d = 0#5 then some (.gsswgtc1 a b c) else none)
    else if f = 30#6 then (if d = 0#5 then some (.gssdlec1 a b c) else none)
    else if f = 31#6 then (if d = 0#5 then some (.gssdgtc1 a b c) else none)
    else none
  else if five = 1#1 then
    if h = 0#1 then some (.gssq a b offq z)
    else if h = 1#1 then some (.gssqc1 a b offq z)
    else none
  else none

/-- SDC2 (30_encoding.md rule R279). -/
def decodeSdc2 (a : BitVec 5) (b : BitVec 5) (c : BitVec 5) (off8 : BitVec 8) (sel : BitVec 3) : Option Instr :=
  if sel = 0#3 then some (.gssbx a b c off8)
  else if sel = 1#3 then some (.gsshx a b c off8)
  else if sel = 2#3 then some (.gsswx a b c off8)
  else if sel = 3#3 then some (.gssdx a b c off8)
  else if sel = 6#3 then some (.gsswxc1 a b c off8)
  else if sel = 7#3 then some (.gssdxc1 a b c off8)
  else none

/-- The instruction a word stands for (30_encoding.md rule R270). The bits an `Encoding:` line fixes, the zeros of
reserved fields among them, are part of the match (rule R264). -/
def decode (w : Word) : Option Instr :=
  if fieldOp w = 0#6 then decodeSpecial (fieldA w) (fieldB w) (fieldC w) (fieldD w) (fieldF w) (fieldCode w) (fieldTcode w)
  else if fieldOp w = 1#6 then decodeRegImm (fieldA w) (fieldB w) (fieldImm w)
  else if fieldOp w = 2#6 then some (.j (fieldIdx w))
  else if fieldOp w = 3#6 then some (.jal (fieldIdx w))
  else if fieldOp w = 4#6 then some (.beq (fieldA w) (fieldB w) (fieldImm w))
  else if fieldOp w = 5#6 then some (.bne (fieldA w) (fieldB w) (fieldImm w))
  else if fieldOp w = 6#6 then (if fieldB w = 0#5 then some (.blez (fieldA w) (fieldImm w)) else none)
  else if fieldOp w = 7#6 then (if fieldB w = 0#5 then some (.bgtz (fieldA w) (fieldImm w)) else none)
  else if fieldOp w = 8#6 then some (.addi (fieldA w) (fieldB w) (fieldImm w))
  else if fieldOp w = 9#6 then some (.addiu (fieldA w) (fieldB w) (fieldImm w))
  else if fieldOp w = 10#6 then some (.slti (fieldA w) (fieldB w) (fieldImm w))
  else if fieldOp w = 11#6 then some (.sltiu (fieldA w) (fieldB w) (fieldImm w))
  else if fieldOp w = 12#6 then some (.andi (fieldA w) (fieldB w) (fieldImm w))
  else if fieldOp w = 13#6 then some (.ori (fieldA w) (fieldB w) (fieldImm w))
  else if fieldOp w = 14#6 then some (.xori (fieldA w) (fieldB w) (fieldImm w))
  else if fieldOp w = 15#6 then (if fieldA w = 0#5 then some (.lui (fieldB w) (fieldImm w)) else none)
  else if fieldOp w = 16#6 then decodeCop0 (fieldA w) (fieldB w) (fieldC w) (fieldD w) (fieldF w) (fieldCo w) (fieldWcode w)
  else if fieldOp w = 17#6 then decodeCop1 (fieldA w) (fieldB w) (fieldC w) (fieldD w) (fieldF w) (fieldImm w)
  else if fieldOp w = 18#6 then decodeCop2 (fieldA w) (fieldB w) (fieldC w) (fieldD w) (fieldF w)
  else if fieldOp w = 19#6 then decodeCop1x (fieldA w) (fieldB w) (fieldC w) (fieldD w) (fieldF w)
  else if fieldOp w = 20#6 then some (.beql (fieldA w) (fieldB w) (fieldImm w))
  else if fieldOp w = 21#6 then some (.bnel (fieldA w) (fieldB w) (fieldImm w))
  else if fieldOp w = 22#6 then (if fieldB w = 0#5 then some (.blezl (fieldA w) (fieldImm w)) else none)
  else if fieldOp w = 23#6 then (if fieldB w = 0#5 then some (.bgtzl (fieldA w) (fieldImm w)) else none)
  else if fieldOp w = 24#6 then some (.daddi (fieldA w) (fieldB w) (fieldImm w))
  else if fieldOp w = 25#6 then some (.daddiu (fieldA w) (fieldB w) (fieldImm w))
  else if fieldOp w = 26#6 then some (.ldl (fieldA w) (fieldB w) (fieldImm w))
  else if fieldOp w = 27#6 then some (.ldr (fieldA w) (fieldB w) (fieldImm w))
  else if fieldOp w = 28#6 then decodeSpecial2 (fieldA w) (fieldB w) (fieldC w) (fieldD w) (fieldF w) (fieldCode w)
  else if fieldOp w = 31#6 then decodeSpecial3 (fieldA w) (fieldB w) (fieldC w) (fieldD w) (fieldF w)
  else if fieldOp w = 32#6 then some (.lb (fieldA w) (fieldB w) (fieldImm w))
  else if fieldOp w = 33#6 then some (.lh (fieldA w) (fieldB w) (fieldImm w))
  else if fieldOp w = 34#6 then some (.lwl (fieldA w) (fieldB w) (fieldImm w))
  else if fieldOp w = 35#6 then some (.lw (fieldA w) (fieldB w) (fieldImm w))
  else if fieldOp w = 36#6 then some (.lbu (fieldA w) (fieldB w) (fieldImm w))
  else if fieldOp w = 37#6 then some (.lhu (fieldA w) (fieldB w) (fieldImm w))
  else if fieldOp w = 38#6 then some (.lwr (fieldA w) (fieldB w) (fieldImm w))
  else if fieldOp w = 39#6 then some (.lwu (fieldA w) (fieldB w) (fieldImm w))
  else if fieldOp w = 40#6 then some (.sb (fieldA w) (fieldB w) (fieldImm w))
  else if fieldOp w = 41#6 then some (.sh (fieldA w) (fieldB w) (fieldImm w))
  else if fieldOp w = 42#6 then some (.swl (fieldA w) (fieldB w) (fieldImm w))
  else if fieldOp w = 43#6 then some (.sw (fieldA w) (fieldB w) (fieldImm w))
  else if fieldOp w = 44#6 then some (.sdl (fieldA w) (fieldB w) (fieldImm w))
  else if fieldOp w = 45#6 then some (.sdr (fieldA w) (fieldB w) (fieldImm w))
  else if fieldOp w = 46#6 then some (.swr (fieldA w) (fieldB w) (fieldImm w))
  else if fieldOp w = 47#6 then some (.cache (fieldA w) (fieldB w) (fieldImm w))
  else if fieldOp w = 48#6 then some (.ll (fieldA w) (fieldB w) (fieldImm w))
  else if fieldOp w = 49#6 then some (.lwc1 (fieldA w) (fieldB w) (fieldImm w))
  else if fieldOp w = 50#6 then decodeLwc2 (fieldA w) (fieldB w) (fieldC w) (fieldD w) (fieldF w) (fieldPad w) (fieldOffl w) (fieldH w) (fieldOffq w) (fieldFive w) (fieldZ w)
  else if fieldOp w = 51#6 then some (.pref (fieldA w) (fieldB w) (fieldImm w))
  else if fieldOp w = 52#6 then some (.lld (fieldA w) (fieldB w) (fieldImm w))
  else if fieldOp w = 53#6 then some (.ldc1 (fieldA w) (fieldB w) (fieldImm w))
  else if fieldOp w = 54#6 then decodeLdc2 (fieldA w) (fieldB w) (fieldC w) (fieldOff8 w) (fieldSel w)
  else if fieldOp w = 55#6 then some (.ld (fieldA w) (fieldB w) (fieldImm w))
  else if fieldOp w = 56#6 then some (.sc (fieldA w) (fieldB w) (fieldImm w))
  else if fieldOp w = 57#6 then some (.swc1 (fieldA w) (fieldB w) (fieldImm w))
  else if fieldOp w = 58#6 then decodeSwc2 (fieldA w) (fieldB w) (fieldC w) (fieldD w) (fieldF w) (fieldPad w) (fieldOffl w) (fieldH w) (fieldOffq w) (fieldFive w) (fieldZ w)
  else if fieldOp w = 60#6 then some (.scd (fieldA w) (fieldB w) (fieldImm w))
  else if fieldOp w = 61#6 then some (.sdc1 (fieldA w) (fieldB w) (fieldImm w))
  else if fieldOp w = 62#6 then decodeSdc2 (fieldA w) (fieldB w) (fieldC w) (fieldOff8 w) (fieldSel w)
  else if fieldOp w = 63#6 then some (.sd (fieldA w) (fieldB w) (fieldImm w))
  else none

/-! ### Encoding -/

/-- Register format. -/
def encR (op : BitVec 6) (a : BitVec 5) (b : BitVec 5) (c : BitVec 5) (d : BitVec 5) (f : BitVec 6) : Word :=
  op ++ a ++ b ++ c ++ d ++ f

/-- Immediate format. -/
def encI (op : BitVec 6) (a : BitVec 5) (b : BitVec 5) (imm : BitVec 16) : Word :=
  op ++ a ++ b ++ imm

/-- Jump format. -/
def encJ (op : BitVec 6) (idx : BitVec 26) : Word :=
  op ++ idx

/-- SYSCALL, BREAK, SDBBP. -/
def encCode (op : BitVec 6) (code : BitVec 20) (f : BitVec 6) : Word :=
  op ++ code ++ f

/-- The register traps. -/
def encTrap (op : BitVec 6) (a : BitVec 5) (b : BitVec 5) (tcode : BitVec 10) (f : BitVec 6) : Word :=
  op ++ a ++ b ++ tcode ++ f

/-- COP0 with bit 25 set. -/
def encWait (op : BitVec 6) (co : BitVec 1) (wcode : BitVec 19) (f : BitVec 6) : Word :=
  op ++ co ++ wcode ++ f

/-- Loongson indexed sub-format (47_custom_int.md rule R602). -/
def encX (op : BitVec 6) (a : BitVec 5) (b : BitVec 5) (c : BitVec 5) (off8 : BitVec 8) (sel : BitVec 3) : Word :=
  op ++ a ++ b ++ c ++ off8 ++ sel

/-- Loongson shifted sub-format (47_custom_int.md rule R601). -/
def encL (op : BitVec 6) (a : BitVec 5) (b : BitVec 5) (pad : BitVec 2) (offl : BitVec 8) (f : BitVec 6) : Word :=
  op ++ a ++ b ++ pad ++ offl ++ f

/-- Loongson quad sub-format (47_custom_int.md rule R603). -/
def encQ (op : BitVec 6) (a : BitVec 5) (b : BitVec 5) (h : BitVec 1) (offq : BitVec 9) (five : BitVec 1) (z : BitVec 5) : Word :=
  op ++ a ++ b ++ h ++ offq ++ five ++ z

/-- The word of an instruction; nothing for the rows whose encoding no source gives (30_encoding.md rule
R280). -/
def encode : Instr → Option Word
  | .lb base rt imm => some (encI 32#6 base rt imm)
  | .lbu base rt imm => some (encI 36#6 base rt imm)
  | .lh base rt imm => some (encI 33#6 base rt imm)
  | .lhu base rt imm => some (encI 37#6 base rt imm)
  | .lw base rt imm => some (encI 35#6 base rt imm)
  | .lwu base rt imm => some (encI 39#6 base rt imm)
  | .lwl base rt imm => some (encI 34#6 base rt imm)
  | .lwr base rt imm => some (encI 38#6 base rt imm)
  | .ld base rt imm => some (encI 55#6 base rt imm)
  | .ldl base rt imm => some (encI 26#6 base rt imm)
  | .ldr base rt imm => some (encI 27#6 base rt imm)
  | .ll base rt imm => some (encI 48#6 base rt imm)
  | .lld base rt imm => some (encI 52#6 base rt imm)
  | .sb base rt imm => some (encI 40#6 base rt imm)
  | .sh base rt imm => some (encI 41#6 base rt imm)
  | .sw base rt imm => some (encI 43#6 base rt imm)
  | .swl base rt imm => some (encI 42#6 base rt imm)
  | .swr base rt imm => some (encI 46#6 base rt imm)
  | .sd base rt imm => some (encI 63#6 base rt imm)
  | .sdl base rt imm => some (encI 44#6 base rt imm)
  | .sdr base rt imm => some (encI 45#6 base rt imm)
  | .sc base rt imm => some (encI 56#6 base rt imm)
  | .scd base rt imm => some (encI 60#6 base rt imm)
  | .pref base hint imm => some (encI 51#6 base hint imm)
  | .prefx base index hint => some (encR 19#6 base index hint 0#5 15#6)
  | .addi rs rt imm => some (encI 8#6 rs rt imm)
  | .daddi rs rt imm => some (encI 24#6 rs rt imm)
  | .addiu rs rt imm => some (encI 9#6 rs rt imm)
  | .daddiu rs rt imm => some (encI 25#6 rs rt imm)
  | .slti rs rt imm => some (encI 10#6 rs rt imm)
  | .sltiu rs rt imm => some (encI 11#6 rs rt imm)
  | .andi rs rt imm => some (encI 12#6 rs rt imm)
  | .ori rs rt imm => some (encI 13#6 rs rt imm)
  | .xori rs rt imm => some (encI 14#6 rs rt imm)
  | .lui rt imm => some (encI 15#6 0#5 rt imm)
  | .add rs rt rd => some (encR 0#6 rs rt rd 0#5 32#6)
  | .dadd rs rt rd => some (encR 0#6 rs rt rd 0#5 44#6)
  | .addu rs rt rd => some (encR 0#6 rs rt rd 0#5 33#6)
  | .daddu rs rt rd => some (encR 0#6 rs rt rd 0#5 45#6)
  | .sub rs rt rd => some (encR 0#6 rs rt rd 0#5 34#6)
  | .dsub rs rt rd => some (encR 0#6 rs rt rd 0#5 46#6)
  | .subu rs rt rd => some (encR 0#6 rs rt rd 0#5 35#6)
  | .dsubu rs rt rd => some (encR 0#6 rs rt rd 0#5 47#6)
  | .slt rs rt rd => some (encR 0#6 rs rt rd 0#5 42#6)
  | .sltu rs rt rd => some (encR 0#6 rs rt rd 0#5 43#6)
  | .and rs rt rd => some (encR 0#6 rs rt rd 0#5 36#6)
  | .or rs rt rd => some (encR 0#6 rs rt rd 0#5 37#6)
  | .xor rs rt rd => some (encR 0#6 rs rt rd 0#5 38#6)
  | .nor rs rt rd => some (encR 0#6 rs rt rd 0#5 39#6)
  | .clo rs rt rd => some (encR 28#6 rs rt rd 0#5 33#6)
  | .dclo rs rt rd => some (encR 28#6 rs rt rd 0#5 37#6)
  | .clz rs rt rd => some (encR 28#6 rs rt rd 0#5 32#6)
  | .dclz rs rt rd => some (encR 28#6 rs rt rd 0#5 36#6)
  | .wsbh rt rd => some (encR 31#6 0#5 rt rd 2#5 32#6)
  | .dshd rt rd => some (encR 31#6 0#5 rt rd 5#5 36#6)
  | .dsbh rt rd => some (encR 31#6 0#5 rt rd 2#5 36#6)
  | .seb rt rd => some (encR 31#6 0#5 rt rd 16#5 32#6)
  | .seh rt rd => some (encR 31#6 0#5 rt rd 24#5 32#6)
  | .mul rs rt rd => some (encR 28#6 rs rt rd 0#5 2#6)
  | .mult rs rt => some (encR 0#6 rs rt 0#5 0#5 24#6)
  | .dmult rs rt => some (encR 0#6 rs rt 0#5 0#5 28#6)
  | .multu rs rt => some (encR 0#6 rs rt 0#5 0#5 25#6)
  | .dmultu rs rt => some (encR 0#6 rs rt 0#5 0#5 29#6)
  | .madd rs rt => some (encR 28#6 rs rt 0#5 0#5 0#6)
  | .maddu rs rt => some (encR 28#6 rs rt 0#5 0#5 1#6)
  | .msub rs rt => some (encR 28#6 rs rt 0#5 0#5 4#6)
  | .msubu rs rt => some (encR 28#6 rs rt 0#5 0#5 5#6)
  | .div rs rt => some (encR 0#6 rs rt 0#5 0#5 26#6)
  | .ddiv rs rt => some (encR 0#6 rs rt 0#5 0#5 30#6)
  | .divu rs rt => some (encR 0#6 rs rt 0#5 0#5 27#6)
  | .ddivu rs rt => some (encR 0#6 rs rt 0#5 0#5 31#6)
  | .mfhi rd => some (encR 0#6 0#5 0#5 rd 0#5 16#6)
  | .mthi rs => some (encR 0#6 rs 0#5 0#5 0#5 17#6)
  | .mflo rd => some (encR 0#6 0#5 0#5 rd 0#5 18#6)
  | .mtlo rs => some (encR 0#6 rs 0#5 0#5 0#5 19#6)
  | .sll rt rd sa => some (encR 0#6 0#5 rt rd sa 0#6)
  | .srl rt rd sa => some (encR 0#6 0#5 rt rd sa 2#6)
  | .sra rt rd sa => some (encR 0#6 0#5 rt rd sa 3#6)
  | .sllv rs rt rd => some (encR 0#6 rs rt rd 0#5 4#6)
  | .srlv rs rt rd => some (encR 0#6 rs rt rd 0#5 6#6)
  | .srav rs rt rd => some (encR 0#6 rs rt rd 0#5 7#6)
  | .rotr rt rd sa => some (encR 0#6 1#5 rt rd sa 2#6)
  | .rotrv rs rt rd => some (encR 0#6 rs rt rd 1#5 6#6)
  | .dsll rt rd sa => some (encR 0#6 0#5 rt rd sa 56#6)
  | .dsrl rt rd sa => some (encR 0#6 0#5 rt rd sa 58#6)
  | .dsra rt rd sa => some (encR 0#6 0#5 rt rd sa 59#6)
  | .dsllv rs rt rd => some (encR 0#6 rs rt rd 0#5 20#6)
  | .dsrlv rs rt rd => some (encR 0#6 rs rt rd 0#5 22#6)
  | .dsrav rs rt rd => some (encR 0#6 rs rt rd 0#5 23#6)
  | .dsll32 rt rd sa => some (encR 0#6 0#5 rt rd sa 60#6)
  | .dsrl32 rt rd sa => some (encR 0#6 0#5 rt rd sa 62#6)
  | .dsra32 rt rd sa => some (encR 0#6 0#5 rt rd sa 63#6)
  | .drotr rt rd sa => some (encR 0#6 1#5 rt rd sa 58#6)
  | .drotr32 rt rd sa => some (encR 0#6 1#5 rt rd sa 62#6)
  | .drotrv rs rt rd => some (encR 0#6 rs rt rd 1#5 22#6)
  | .ext rs rt msb lsb => some (encR 31#6 rs rt msb lsb 0#6)
  | .dextm rs rt msb lsb => some (encR 31#6 rs rt msb lsb 1#6)
  | .dextu rs rt msb lsb => some (encR 31#6 rs rt msb lsb 2#6)
  | .dext rs rt msb lsb => some (encR 31#6 rs rt msb lsb 3#6)
  | .ins rs rt msb lsb => some (encR 31#6 rs rt msb lsb 4#6)
  | .dinsm rs rt msb lsb => some (encR 31#6 rs rt msb lsb 5#6)
  | .dinsu rs rt msb lsb => some (encR 31#6 rs rt msb lsb 6#6)
  | .dins rs rt msb lsb => some (encR 31#6 rs rt msb lsb 7#6)
  | .j idx => some (encJ 2#6 idx)
  | .jal idx => some (encJ 3#6 idx)
  | .jr rs => some (encR 0#6 rs 0#5 0#5 0#5 8#6)
  | .jrHb rs => some (encR 0#6 rs 0#5 0#5 16#5 8#6)
  | .jalr rs rd => some (encR 0#6 rs 0#5 rd 0#5 9#6)
  | .jalrHb rs rd => some (encR 0#6 rs 0#5 rd 16#5 9#6)
  | .beq rs rt imm => some (encI 4#6 rs rt imm)
  | .bne rs rt imm => some (encI 5#6 rs rt imm)
  | .blez rs imm => some (encI 6#6 rs 0#5 imm)
  | .bgtz rs imm => some (encI 7#6 rs 0#5 imm)
  | .bltz rs imm => some (encI 1#6 rs 0#5 imm)
  | .bgez rs imm => some (encI 1#6 rs 1#5 imm)
  | .bltzal rs imm => some (encI 1#6 rs 16#5 imm)
  | .bgezal rs imm => some (encI 1#6 rs 17#5 imm)
  | .beql rs rt imm => some (encI 20#6 rs rt imm)
  | .bnel rs rt imm => some (encI 21#6 rs rt imm)
  | .blezl rs imm => some (encI 22#6 rs 0#5 imm)
  | .bgtzl rs imm => some (encI 23#6 rs 0#5 imm)
  | .bltzl rs imm => some (encI 1#6 rs 2#5 imm)
  | .bgezl rs imm => some (encI 1#6 rs 3#5 imm)
  | .bltzall rs imm => some (encI 1#6 rs 18#5 imm)
  | .bgezall rs imm => some (encI 1#6 rs 19#5 imm)
  | .mfc0 rt rd sel => some (encR 16#6 0#5 rt rd 0#5 (0#3 ++ sel))
  | .dmfc0 rt rd sel => some (encR 16#6 1#5 rt rd 0#5 (0#3 ++ sel))
  | .mtc0 rt rd sel => some (encR 16#6 4#5 rt rd 0#5 (0#3 ++ sel))
  | .dmtc0 rt rd sel => some (encR 16#6 5#5 rt rd 0#5 (0#3 ++ sel))
  | .rdpgpr rt rd => some (encR 16#6 10#5 rt rd 0#5 0#6)
  | .wrpgpr rt rd => some (encR 16#6 14#5 rt rd 0#5 0#6)
  | .tlbp => some (encWait 16#6 1#1 0#19 8#6)
  | .tlbr => some (encWait 16#6 1#1 0#19 1#6)
  | .tlbwi => some (encWait 16#6 1#1 0#19 2#6)
  | .tlbwr => some (encWait 16#6 1#1 0#19 6#6)
  | .eret => some (encWait 16#6 1#1 0#19 24#6)
  | .deret => some (encWait 16#6 1#1 0#19 31#6)
  | .sdbbp code => some (encCode 28#6 code 63#6)
  | .cache base hint imm => some (encI 47#6 base hint imm)
  | .rdhwr rt rd => some (encR 31#6 0#5 rt rd 0#5 59#6)
  | .wait code => some (encWait 16#6 1#1 code 32#6)
  | .di rt => some (encR 16#6 11#5 rt 12#5 0#5 0#6)
  | .ei rt => some (encR 16#6 11#5 rt 12#5 0#5 32#6)
  | .syscall code => some (encCode 0#6 code 12#6)
  | .brk code => some (encCode 0#6 code 13#6)
  | .sync stype => some (encR 0#6 0#5 0#5 0#5 stype 15#6)
  | .synci base imm => some (encI 1#6 base 31#5 imm)
  | .nop => some (encR 0#6 0#5 0#5 0#5 0#5 0#6)
  | .ssnop => some (encR 0#6 0#5 0#5 0#5 1#5 0#6)
  | .ehb => some (encR 0#6 0#5 0#5 0#5 3#5 0#6)
  | .tge rs rt code => some (encTrap 0#6 rs rt code 48#6)
  | .tgeu rs rt code => some (encTrap 0#6 rs rt code 49#6)
  | .tlt rs rt code => some (encTrap 0#6 rs rt code 50#6)
  | .tltu rs rt code => some (encTrap 0#6 rs rt code 51#6)
  | .teq rs rt code => some (encTrap 0#6 rs rt code 52#6)
  | .tne rs rt code => some (encTrap 0#6 rs rt code 54#6)
  | .tgei rs imm => some (encI 1#6 rs 8#5 imm)
  | .tgeiu rs imm => some (encI 1#6 rs 9#5 imm)
  | .tlti rs imm => some (encI 1#6 rs 10#5 imm)
  | .tltiu rs imm => some (encI 1#6 rs 11#5 imm)
  | .teqi rs imm => some (encI 1#6 rs 12#5 imm)
  | .tnei rs imm => some (encI 1#6 rs 14#5 imm)
  | .movn rs rt rd => some (encR 0#6 rs rt rd 0#5 11#6)
  | .movz rs rt rd => some (encR 0#6 rs rt rd 0#5 10#6)
  | .movf rs cc rd => some (encR 0#6 rs (cc ++ 0#2) rd 0#5 1#6)
  | .movt rs cc rd => some (encR 0#6 rs (cc ++ 1#2) rd 0#5 1#6)
  | .gsmult rs rt rd => some (encR 28#6 rs rt rd 0#5 16#6)
  | .gsdmult rs rt rd => some (encR 28#6 rs rt rd 0#5 17#6)
  | .gsmultu rs rt rd => some (encR 28#6 rs rt rd 0#5 18#6)
  | .gsdmultu rs rt rd => some (encR 28#6 rs rt rd 0#5 19#6)
  | .gsdiv rs rt rd => some (encR 28#6 rs rt rd 0#5 20#6)
  | .gsddiv rs rt rd => some (encR 28#6 rs rt rd 0#5 21#6)
  | .gsdivu rs rt rd => some (encR 28#6 rs rt rd 0#5 22#6)
  | .gsddivu rs rt rd => some (encR 28#6 rs rt rd 0#5 23#6)
  | .gsmod rs rt rd => some (encR 28#6 rs rt rd 0#5 28#6)
  | .gsdmod rs rt rd => some (encR 28#6 rs rt rd 0#5 29#6)
  | .gsmodu rs rt rd => some (encR 28#6 rs rt rd 0#5 30#6)
  | .gsdmodu rs rt rd => some (encR 28#6 rs rt rd 0#5 31#6)
  | .gsle rs rt => some (encR 28#6 rs rt 0#5 0#5 38#6)
  | .gsgt rs rt => some (encR 28#6 rs rt 0#5 0#5 39#6)
  | .gslble base rt rd => some (encR 50#6 base rt rd 0#5 16#6)
  | .gslbgt base rt rd => some (encR 50#6 base rt rd 0#5 17#6)
  | .gslhle base rt rd => some (encR 50#6 base rt rd 0#5 18#6)
  | .gslhgt base rt rd => some (encR 50#6 base rt rd 0#5 19#6)
  | .gslwle base rt rd => some (encR 50#6 base rt rd 0#5 20#6)
  | .gslwgt base rt rd => some (encR 50#6 base rt rd 0#5 21#6)
  | .gsldle base rt rd => some (encR 50#6 base rt rd 0#5 22#6)
  | .gsldgt base rt rd => some (encR 50#6 base rt rd 0#5 23#6)
  | .gslq base rt off rq => some (encQ 50#6 base rt 0#1 off 1#1 rq)
  | .gslbx base rt index off => some (encX 54#6 base rt index off 0#3)
  | .gslhx base rt index off => some (encX 54#6 base rt index off 1#3)
  | .gslwx base rt index off => some (encX 54#6 base rt index off 2#3)
  | .gsldx base rt index off => some (encX 54#6 base rt index off 3#3)
  | .gssble base rt rd => some (encR 58#6 base rt rd 0#5 16#6)
  | .gssbgt base rt rd => some (encR 58#6 base rt rd 0#5 17#6)
  | .gsshle base rt rd => some (encR 58#6 base rt rd 0#5 18#6)
  | .gsshgt base rt rd => some (encR 58#6 base rt rd 0#5 19#6)
  | .gsswle base rt rd => some (encR 58#6 base rt rd 0#5 20#6)
  | .gsswgt base rt rd => some (encR 58#6 base rt rd 0#5 21#6)
  | .gssdle base rt rd => some (encR 58#6 base rt rd 0#5 22#6)
  | .gssdgt base rt rd => some (encR 58#6 base rt rd 0#5 23#6)
  | .gssq base rt off rq => some (encQ 58#6 base rt 0#1 off 1#1 rq)
  | .gssbx base rt index off => some (encX 62#6 base rt index off 0#3)
  | .gsshx base rt index off => some (encX 62#6 base rt index off 1#3)
  | .gsswx base rt index off => some (encX 62#6 base rt index off 2#3)
  | .gssdx base rt index off => some (encX 62#6 base rt index off 3#3)
  | .x86and => none
  | .x86or => none
  | .x86xor => none
  | .x86dadd => none
  | .x86add => none
  | .x86daddu => none
  | .x86addu => none
  | .x86dsub => none
  | .x86sub => none
  | .x86dsubu => none
  | .x86subu => none
  | .x86inc => none
  | .x86dec => none
  | .x86dsll => none
  | .x86sll => none
  | .x86dsll32 => none
  | .x86dsllv => none
  | .x86sllv => none
  | .x86dsrl => none
  | .x86srl => none
  | .x86dsrl32 => none
  | .x86dsrlv => none
  | .x86srlv => none
  | .x86dsra => none
  | .x86sra => none
  | .x86dsra32 => none
  | .x86dsrav => none
  | .x86srav => none
  | .x86drotr => none
  | .x86rotr => none
  | .x86drotr32 => none
  | .x86drotrv => none
  | .x86rotrv => none
  | .x86mfflag _ => none
  | .x86mtflag => none
  | .x86j => none
  | .x86loop => none
  | .settm => none
  | .clrtm => none
  | .inctop => none
  | .dectop => none
  | .mttop => none
  | .mftop _ => none
  | .settag => none
  | .campv => none
  | .campi => none
  | .camwi => none
  | .ramri => none
  | .paddsh ft fs fd => some (encR 18#6 24#5 ft fs fd 0#6)
  | .paddush ft fs fd => some (encR 18#6 25#5 ft fs fd 0#6)
  | .paddh ft fs fd => some (encR 18#6 26#5 ft fs fd 0#6)
  | .paddw ft fs fd => some (encR 18#6 27#5 ft fs fd 0#6)
  | .paddsb ft fs fd => some (encR 18#6 28#5 ft fs fd 0#6)
  | .paddusb ft fs fd => some (encR 18#6 29#5 ft fs fd 0#6)
  | .paddb ft fs fd => some (encR 18#6 30#5 ft fs fd 0#6)
  | .paddd ft fs fd => some (encR 18#6 31#5 ft fs fd 0#6)
  | .psubsh ft fs fd => some (encR 18#6 24#5 ft fs fd 1#6)
  | .psubush ft fs fd => some (encR 18#6 25#5 ft fs fd 1#6)
  | .psubh ft fs fd => some (encR 18#6 26#5 ft fs fd 1#6)
  | .psubw ft fs fd => some (encR 18#6 27#5 ft fs fd 1#6)
  | .psubsb ft fs fd => some (encR 18#6 28#5 ft fs fd 1#6)
  | .psubusb ft fs fd => some (encR 18#6 29#5 ft fs fd 1#6)
  | .psubb ft fs fd => some (encR 18#6 30#5 ft fs fd 1#6)
  | .psubd ft fs fd => some (encR 18#6 31#5 ft fs fd 1#6)
  | .pshufh ft fs fd => some (encR 18#6 24#5 ft fs fd 2#6)
  | .packsswh ft fs fd => some (encR 18#6 25#5 ft fs fd 2#6)
  | .packsshb ft fs fd => some (encR 18#6 26#5 ft fs fd 2#6)
  | .packushb ft fs fd => some (encR 18#6 27#5 ft fs fd 2#6)
  | .pandn ft fs fd => some (encR 18#6 31#5 ft fs fd 2#6)
  | .punpcklhw ft fs fd => some (encR 18#6 24#5 ft fs fd 3#6)
  | .punpckhhw ft fs fd => some (encR 18#6 25#5 ft fs fd 3#6)
  | .punpcklbh ft fs fd => some (encR 18#6 26#5 ft fs fd 3#6)
  | .punpckhbh ft fs fd => some (encR 18#6 27#5 ft fs fd 3#6)
  | .pinsrh0 ft fs fd => some (encR 18#6 28#5 ft fs fd 3#6)
  | .pinsrh1 ft fs fd => some (encR 18#6 29#5 ft fs fd 3#6)
  | .pinsrh2 ft fs fd => some (encR 18#6 30#5 ft fs fd 3#6)
  | .pinsrh3 ft fs fd => some (encR 18#6 31#5 ft fs fd 3#6)
  | .pavgh ft fs fd => some (encR 18#6 24#5 ft fs fd 8#6)
  | .pavgb ft fs fd => some (encR 18#6 25#5 ft fs fd 8#6)
  | .pmaxsh ft fs fd => some (encR 18#6 26#5 ft fs fd 8#6)
  | .pminsh ft fs fd => some (encR 18#6 27#5 ft fs fd 8#6)
  | .pmaxub ft fs fd => some (encR 18#6 28#5 ft fs fd 8#6)
  | .pminub ft fs fd => some (encR 18#6 29#5 ft fs fd 8#6)
  | .pcmpeqw ft fs fd => some (encR 18#6 24#5 ft fs fd 9#6)
  | .pcmpgtw ft fs fd => some (encR 18#6 25#5 ft fs fd 9#6)
  | .pcmpeqh ft fs fd => some (encR 18#6 26#5 ft fs fd 9#6)
  | .pcmpgth ft fs fd => some (encR 18#6 27#5 ft fs fd 9#6)
  | .pcmpeqb ft fs fd => some (encR 18#6 28#5 ft fs fd 9#6)
  | .pcmpgtb ft fs fd => some (encR 18#6 29#5 ft fs fd 9#6)
  | .psllw ft fs fd => some (encR 18#6 24#5 ft fs fd 10#6)
  | .psllh ft fs fd => some (encR 18#6 25#5 ft fs fd 10#6)
  | .pmullh ft fs fd => some (encR 18#6 26#5 ft fs fd 10#6)
  | .pmulhh ft fs fd => some (encR 18#6 27#5 ft fs fd 10#6)
  | .pmuluw ft fs fd => some (encR 18#6 28#5 ft fs fd 10#6)
  | .pmulhuh ft fs fd => some (encR 18#6 29#5 ft fs fd 10#6)
  | .psrlw ft fs fd => some (encR 18#6 24#5 ft fs fd 11#6)
  | .psrlh ft fs fd => some (encR 18#6 25#5 ft fs fd 11#6)
  | .psraw ft fs fd => some (encR 18#6 26#5 ft fs fd 11#6)
  | .psrah ft fs fd => some (encR 18#6 27#5 ft fs fd 11#6)
  | .punpcklwd ft fs fd => some (encR 18#6 28#5 ft fs fd 11#6)
  | .punpckhwd ft fs fd => some (encR 18#6 29#5 ft fs fd 11#6)
  | .pasubub ft fs fd => some (encR 18#6 25#5 ft fs fd 13#6)
  | .pextrh ft fs fd => some (encR 18#6 26#5 ft fs fd 14#6)
  | .pmaddhw ft fs fd => some (encR 18#6 27#5 ft fs fd 14#6)
  | .biadd fs fd => some (encR 18#6 28#5 0#5 fs fd 15#6)
  | .pmovmskb fs fd => some (encR 18#6 29#5 0#5 fs fd 15#6)
  | .gsxor ft fs fd => some (encR 18#6 28#5 ft fs fd 2#6)
  | .gsnor ft fs fd => some (encR 18#6 29#5 ft fs fd 2#6)
  | .gsand ft fs fd => some (encR 18#6 30#5 ft fs fd 2#6)
  | .gsaddu ft fs fd => some (encR 18#6 24#5 ft fs fd 12#6)
  | .gsor ft fs fd => some (encR 18#6 25#5 ft fs fd 12#6)
  | .gsadd ft fs fd => some (encR 18#6 26#5 ft fs fd 12#6)
  | .gsdadd ft fs fd => some (encR 18#6 27#5 ft fs fd 12#6)
  | .gssequ ft fs => some (encR 18#6 28#5 ft fs 0#5 12#6)
  | .gsseq ft fs => some (encR 18#6 29#5 ft fs 0#5 12#6)
  | .gssubu ft fs fd => some (encR 18#6 24#5 ft fs fd 13#6)
  | .gssub ft fs fd => some (encR 18#6 26#5 ft fs fd 13#6)
  | .gsdsub ft fs fd => some (encR 18#6 27#5 ft fs fd 13#6)
  | .gssltu ft fs => some (encR 18#6 28#5 ft fs 0#5 13#6)
  | .gsslt ft fs => some (encR 18#6 29#5 ft fs 0#5 13#6)
  | .gssll ft fs fd => some (encR 18#6 24#5 ft fs fd 14#6)
  | .gsdsll ft fs fd => some (encR 18#6 25#5 ft fs fd 14#6)
  | .gssrl ft fs fd => some (encR 18#6 24#5 ft fs fd 15#6)
  | .gsdsrl ft fs fd => some (encR 18#6 25#5 ft fs fd 15#6)
  | .gssra ft fs fd => some (encR 18#6 26#5 ft fs fd 15#6)
  | .gsdsra ft fs fd => some (encR 18#6 27#5 ft fs fd 15#6)
  | .gssleu ft fs => some (encR 18#6 28#5 ft fs 0#5 14#6)
  | .gssle ft fs => some (encR 18#6 29#5 ft fs 0#5 14#6)
  | .absS fs fd => some (encR 17#6 16#5 0#5 fs fd 5#6)
  | .absD fs fd => some (encR 17#6 17#5 0#5 fs fd 5#6)
  | .absPs fs fd => some (encR 17#6 22#5 0#5 fs fd 5#6)
  | .addS ft fs fd => some (encR 17#6 16#5 ft fs fd 0#6)
  | .addD ft fs fd => some (encR 17#6 17#5 ft fs fd 0#6)
  | .addPs ft fs fd => some (encR 17#6 22#5 ft fs fd 0#6)
  | .divS ft fs fd => some (encR 17#6 16#5 ft fs fd 3#6)
  | .divD ft fs fd => some (encR 17#6 17#5 ft fs fd 3#6)
  | .maddS fr ft fs fd => some (encR 19#6 fr ft fs fd 32#6)
  | .maddD fr ft fs fd => some (encR 19#6 fr ft fs fd 33#6)
  | .maddPs fr ft fs fd => some (encR 19#6 fr ft fs fd 38#6)
  | .msubS fr ft fs fd => some (encR 19#6 fr ft fs fd 40#6)
  | .msubD fr ft fs fd => some (encR 19#6 fr ft fs fd 41#6)
  | .msubPs fr ft fs fd => some (encR 19#6 fr ft fs fd 46#6)
  | .mulS ft fs fd => some (encR 17#6 16#5 ft fs fd 2#6)
  | .mulD ft fs fd => some (encR 17#6 17#5 ft fs fd 2#6)
  | .mulPs ft fs fd => some (encR 17#6 22#5 ft fs fd 2#6)
  | .negS fs fd => some (encR 17#6 16#5 0#5 fs fd 7#6)
  | .negD fs fd => some (encR 17#6 17#5 0#5 fs fd 7#6)
  | .negPs fs fd => some (encR 17#6 22#5 0#5 fs fd 7#6)
  | .nmaddS fr ft fs fd => some (encR 19#6 fr ft fs fd 48#6)
  | .nmaddD fr ft fs fd => some (encR 19#6 fr ft fs fd 49#6)
  | .nmaddPs fr ft fs fd => some (encR 19#6 fr ft fs fd 54#6)
  | .nmsubS fr ft fs fd => some (encR 19#6 fr ft fs fd 56#6)
  | .nmsubD fr ft fs fd => some (encR 19#6 fr ft fs fd 57#6)
  | .nmsubPs fr ft fs fd => some (encR 19#6 fr ft fs fd 62#6)
  | .recipS fs fd => some (encR 17#6 16#5 0#5 fs fd 21#6)
  | .recipD fs fd => some (encR 17#6 17#5 0#5 fs fd 21#6)
  | .rsqrtS fs fd => some (encR 17#6 16#5 0#5 fs fd 22#6)
  | .rsqrtD fs fd => some (encR 17#6 17#5 0#5 fs fd 22#6)
  | .sqrtS fs fd => some (encR 17#6 16#5 0#5 fs fd 4#6)
  | .sqrtD fs fd => some (encR 17#6 17#5 0#5 fs fd 4#6)
  | .subS ft fs fd => some (encR 17#6 16#5 ft fs fd 1#6)
  | .subD ft fs fd => some (encR 17#6 17#5 ft fs fd 1#6)
  | .subPs ft fs fd => some (encR 17#6 22#5 ft fs fd 1#6)
  | .cFS ft fs cc => some (encR 17#6 16#5 ft fs (cc ++ 0#2) 48#6)
  | .cUnS ft fs cc => some (encR 17#6 16#5 ft fs (cc ++ 0#2) 49#6)
  | .cEqS ft fs cc => some (encR 17#6 16#5 ft fs (cc ++ 0#2) 50#6)
  | .cUeqS ft fs cc => some (encR 17#6 16#5 ft fs (cc ++ 0#2) 51#6)
  | .cOltS ft fs cc => some (encR 17#6 16#5 ft fs (cc ++ 0#2) 52#6)
  | .cUltS ft fs cc => some (encR 17#6 16#5 ft fs (cc ++ 0#2) 53#6)
  | .cOleS ft fs cc => some (encR 17#6 16#5 ft fs (cc ++ 0#2) 54#6)
  | .cUleS ft fs cc => some (encR 17#6 16#5 ft fs (cc ++ 0#2) 55#6)
  | .cSfS ft fs cc => some (encR 17#6 16#5 ft fs (cc ++ 0#2) 56#6)
  | .cNgleS ft fs cc => some (encR 17#6 16#5 ft fs (cc ++ 0#2) 57#6)
  | .cSeqS ft fs cc => some (encR 17#6 16#5 ft fs (cc ++ 0#2) 58#6)
  | .cNglS ft fs cc => some (encR 17#6 16#5 ft fs (cc ++ 0#2) 59#6)
  | .cLtS ft fs cc => some (encR 17#6 16#5 ft fs (cc ++ 0#2) 60#6)
  | .cNgeS ft fs cc => some (encR 17#6 16#5 ft fs (cc ++ 0#2) 61#6)
  | .cLeS ft fs cc => some (encR 17#6 16#5 ft fs (cc ++ 0#2) 62#6)
  | .cNgtS ft fs cc => some (encR 17#6 16#5 ft fs (cc ++ 0#2) 63#6)
  | .cFD ft fs cc => some (encR 17#6 17#5 ft fs (cc ++ 0#2) 48#6)
  | .cUnD ft fs cc => some (encR 17#6 17#5 ft fs (cc ++ 0#2) 49#6)
  | .cEqD ft fs cc => some (encR 17#6 17#5 ft fs (cc ++ 0#2) 50#6)
  | .cUeqD ft fs cc => some (encR 17#6 17#5 ft fs (cc ++ 0#2) 51#6)
  | .cOltD ft fs cc => some (encR 17#6 17#5 ft fs (cc ++ 0#2) 52#6)
  | .cUltD ft fs cc => some (encR 17#6 17#5 ft fs (cc ++ 0#2) 53#6)
  | .cOleD ft fs cc => some (encR 17#6 17#5 ft fs (cc ++ 0#2) 54#6)
  | .cUleD ft fs cc => some (encR 17#6 17#5 ft fs (cc ++ 0#2) 55#6)
  | .cSfD ft fs cc => some (encR 17#6 17#5 ft fs (cc ++ 0#2) 56#6)
  | .cNgleD ft fs cc => some (encR 17#6 17#5 ft fs (cc ++ 0#2) 57#6)
  | .cSeqD ft fs cc => some (encR 17#6 17#5 ft fs (cc ++ 0#2) 58#6)
  | .cNglD ft fs cc => some (encR 17#6 17#5 ft fs (cc ++ 0#2) 59#6)
  | .cLtD ft fs cc => some (encR 17#6 17#5 ft fs (cc ++ 0#2) 60#6)
  | .cNgeD ft fs cc => some (encR 17#6 17#5 ft fs (cc ++ 0#2) 61#6)
  | .cLeD ft fs cc => some (encR 17#6 17#5 ft fs (cc ++ 0#2) 62#6)
  | .cNgtD ft fs cc => some (encR 17#6 17#5 ft fs (cc ++ 0#2) 63#6)
  | .cFPs ft fs cc => some (encR 17#6 22#5 ft fs (cc ++ 0#2) 48#6)
  | .cUnPs ft fs cc => some (encR 17#6 22#5 ft fs (cc ++ 0#2) 49#6)
  | .cEqPs ft fs cc => some (encR 17#6 22#5 ft fs (cc ++ 0#2) 50#6)
  | .cUeqPs ft fs cc => some (encR 17#6 22#5 ft fs (cc ++ 0#2) 51#6)
  | .cOltPs ft fs cc => some (encR 17#6 22#5 ft fs (cc ++ 0#2) 52#6)
  | .cUltPs ft fs cc => some (encR 17#6 22#5 ft fs (cc ++ 0#2) 53#6)
  | .cOlePs ft fs cc => some (encR 17#6 22#5 ft fs (cc ++ 0#2) 54#6)
  | .cUlePs ft fs cc => some (encR 17#6 22#5 ft fs (cc ++ 0#2) 55#6)
  | .cSfPs ft fs cc => some (encR 17#6 22#5 ft fs (cc ++ 0#2) 56#6)
  | .cNglePs ft fs cc => some (encR 17#6 22#5 ft fs (cc ++ 0#2) 57#6)
  | .cSeqPs ft fs cc => some (encR 17#6 22#5 ft fs (cc ++ 0#2) 58#6)
  | .cNglPs ft fs cc => some (encR 17#6 22#5 ft fs (cc ++ 0#2) 59#6)
  | .cLtPs ft fs cc => some (encR 17#6 22#5 ft fs (cc ++ 0#2) 60#6)
  | .cNgePs ft fs cc => some (encR 17#6 22#5 ft fs (cc ++ 0#2) 61#6)
  | .cLePs ft fs cc => some (encR 17#6 22#5 ft fs (cc ++ 0#2) 62#6)
  | .cNgtPs ft fs cc => some (encR 17#6 22#5 ft fs (cc ++ 0#2) 63#6)
  | .ceilLS fs fd => some (encR 17#6 16#5 0#5 fs fd 10#6)
  | .ceilLD fs fd => some (encR 17#6 17#5 0#5 fs fd 10#6)
  | .ceilWS fs fd => some (encR 17#6 16#5 0#5 fs fd 14#6)
  | .ceilWD fs fd => some (encR 17#6 17#5 0#5 fs fd 14#6)
  | .cvtDS fs fd => some (encR 17#6 16#5 0#5 fs fd 33#6)
  | .cvtDW fs fd => some (encR 17#6 20#5 0#5 fs fd 33#6)
  | .cvtDL fs fd => some (encR 17#6 21#5 0#5 fs fd 33#6)
  | .cvtLS fs fd => some (encR 17#6 16#5 0#5 fs fd 37#6)
  | .cvtLD fs fd => some (encR 17#6 17#5 0#5 fs fd 37#6)
  | .cvtSD fs fd => some (encR 17#6 17#5 0#5 fs fd 32#6)
  | .cvtSW fs fd => some (encR 17#6 20#5 0#5 fs fd 32#6)
  | .cvtSL fs fd => some (encR 17#6 21#5 0#5 fs fd 32#6)
  | .cvtWS fs fd => some (encR 17#6 16#5 0#5 fs fd 36#6)
  | .cvtWD fs fd => some (encR 17#6 17#5 0#5 fs fd 36#6)
  | .floorLS fs fd => some (encR 17#6 16#5 0#5 fs fd 11#6)
  | .floorLD fs fd => some (encR 17#6 17#5 0#5 fs fd 11#6)
  | .floorWS fs fd => some (encR 17#6 16#5 0#5 fs fd 15#6)
  | .floorWD fs fd => some (encR 17#6 17#5 0#5 fs fd 15#6)
  | .roundLS fs fd => some (encR 17#6 16#5 0#5 fs fd 8#6)
  | .roundLD fs fd => some (encR 17#6 17#5 0#5 fs fd 8#6)
  | .roundWS fs fd => some (encR 17#6 16#5 0#5 fs fd 12#6)
  | .roundWD fs fd => some (encR 17#6 17#5 0#5 fs fd 12#6)
  | .truncLS fs fd => some (encR 17#6 16#5 0#5 fs fd 9#6)
  | .truncLD fs fd => some (encR 17#6 17#5 0#5 fs fd 9#6)
  | .truncWS fs fd => some (encR 17#6 16#5 0#5 fs fd 13#6)
  | .truncWD fs fd => some (encR 17#6 17#5 0#5 fs fd 13#6)
  | .cvtPsS ft fs fd => some (encR 17#6 16#5 ft fs fd 38#6)
  | .cvtSPl fs fd => some (encR 17#6 22#5 0#5 fs fd 40#6)
  | .cvtDLd => none
  | .cvtLdD => none
  | .cvtUdD => none
  | .cvtSPu fs fd => some (encR 17#6 22#5 0#5 fs fd 32#6)
  | .pllPs ft fs fd => some (encR 17#6 22#5 ft fs fd 44#6)
  | .pluPs ft fs fd => some (encR 17#6 22#5 ft fs fd 45#6)
  | .pulPs ft fs fd => some (encR 17#6 22#5 ft fs fd 46#6)
  | .puuPs ft fs fd => some (encR 17#6 22#5 ft fs fd 47#6)
  | .cfc1 rt fs => some (encR 17#6 2#5 rt fs 0#5 0#6)
  | .ctc1 rt fs => some (encR 17#6 6#5 rt fs 0#5 0#6)
  | .dmfc1 rt fs => some (encR 17#6 1#5 rt fs 0#5 0#6)
  | .dmtc1 rt fs => some (encR 17#6 5#5 rt fs 0#5 0#6)
  | .mfc1 rt fs => some (encR 17#6 0#5 rt fs 0#5 0#6)
  | .mfhc1 rt fs => some (encR 17#6 3#5 rt fs 0#5 0#6)
  | .mtc1 rt fs => some (encR 17#6 4#5 rt fs 0#5 0#6)
  | .mthc1 rt fs => some (encR 17#6 7#5 rt fs 0#5 0#6)
  | .alnvPs rs ft fs fd => some (encR 19#6 rs ft fs fd 30#6)
  | .movS fs fd => some (encR 17#6 16#5 0#5 fs fd 6#6)
  | .movD fs fd => some (encR 17#6 17#5 0#5 fs fd 6#6)
  | .movPs fs fd => some (encR 17#6 22#5 0#5 fs fd 6#6)
  | .movfS cc fs fd => some (encR 17#6 16#5 (cc ++ 0#2) fs fd 17#6)
  | .movfD cc fs fd => some (encR 17#6 17#5 (cc ++ 0#2) fs fd 17#6)
  | .movfPs cc fs fd => some (encR 17#6 22#5 (cc ++ 0#2) fs fd 17#6)
  | .movnS rt fs fd => some (encR 17#6 16#5 rt fs fd 19#6)
  | .movnD rt fs fd => some (encR 17#6 17#5 rt fs fd 19#6)
  | .movnPs rt fs fd => some (encR 17#6 22#5 rt fs fd 19#6)
  | .movtS cc fs fd => some (encR 17#6 16#5 (cc ++ 1#2) fs fd 17#6)
  | .movtD cc fs fd => some (encR 17#6 17#5 (cc ++ 1#2) fs fd 17#6)
  | .movtPs cc fs fd => some (encR 17#6 22#5 (cc ++ 1#2) fs fd 17#6)
  | .movzS rt fs fd => some (encR 17#6 16#5 rt fs fd 18#6)
  | .movzD rt fs fd => some (encR 17#6 17#5 rt fs fd 18#6)
  | .movzPs rt fs fd => some (encR 17#6 22#5 rt fs fd 18#6)
  | .bc1f cc imm => some (encI 17#6 8#5 (cc ++ 0#2) imm)
  | .bc1fl cc imm => some (encI 17#6 8#5 (cc ++ 2#2) imm)
  | .bc1t cc imm => some (encI 17#6 8#5 (cc ++ 1#2) imm)
  | .bc1tl cc imm => some (encI 17#6 8#5 (cc ++ 3#2) imm)
  | .ldc1 base ft imm => some (encI 53#6 base ft imm)
  | .ldxc1 base index fd => some (encR 19#6 base index 0#5 fd 1#6)
  | .luxc1 base index fd => some (encR 19#6 base index 0#5 fd 5#6)
  | .lwc1 base ft imm => some (encI 49#6 base ft imm)
  | .lwxc1 base index fd => some (encR 19#6 base index 0#5 fd 0#6)
  | .sdc1 base ft imm => some (encI 61#6 base ft imm)
  | .sdxc1 base index fs => some (encR 19#6 base index fs 0#5 9#6)
  | .suxc1 base index fs => some (encR 19#6 base index fs 0#5 13#6)
  | .swc1 base ft imm => some (encI 57#6 base ft imm)
  | .swxc1 base index fs => some (encR 19#6 base index fs 0#5 8#6)
  | .gssqc1 base ft off rq => some (encQ 58#6 base ft 1#1 off 1#1 rq)
  | .gsswlec1 base ft rd => some (encR 58#6 base ft rd 0#5 28#6)
  | .gslwxc1 base ft index off => some (encX 54#6 base ft index off 6#3)
  | .gslqc1 base ft off rq => some (encQ 50#6 base ft 1#1 off 1#1 rq)
  | .gslwlec1 base ft rd => some (encR 50#6 base ft rd 0#5 24#6)
  | .gslwlc1 base ft off => some (encL 50#6 base ft 0#2 off 4#6)
  | .gslwrc1 base ft off => some (encL 50#6 base ft 0#2 off 5#6)
  | .gsldlc1 base ft off => some (encL 50#6 base ft 0#2 off 6#6)
  | .gsldrc1 base ft off => some (encL 50#6 base ft 0#2 off 7#6)
  | .gslwgtc1 base ft rd => some (encR 50#6 base ft rd 0#5 25#6)
  | .gsldlec1 base ft rd => some (encR 50#6 base ft rd 0#5 26#6)
  | .gsldgtc1 base ft rd => some (encR 50#6 base ft rd 0#5 27#6)
  | .gsldxc1 base ft index off => some (encX 54#6 base ft index off 7#3)
  | .gsswlc1 base ft off => some (encL 58#6 base ft 0#2 off 4#6)
  | .gsswrc1 base ft off => some (encL 58#6 base ft 0#2 off 5#6)
  | .gssdlc1 base ft off => some (encL 58#6 base ft 0#2 off 6#6)
  | .gssdrc1 base ft off => some (encL 58#6 base ft 0#2 off 7#6)
  | .gsswgtc1 base ft rd => some (encR 58#6 base ft rd 0#5 29#6)
  | .gssdlec1 base ft rd => some (encR 58#6 base ft rd 0#5 30#6)
  | .gssdgtc1 base ft rd => some (encR 58#6 base ft rd 0#5 31#6)
  | .gsswxc1 base ft index off => some (encX 62#6 base ft index off 6#3)
  | .gssdxc1 base ft index off => some (encX 62#6 base ft index off 7#3)

/-! ### The host's entry -/

/-- A byte of a number, byte 0 the lowest. -/
def byteOf (w i : Nat) : Byte := BitVec.ofNat 8 (w / 256 ^ i)

/-- A word of four bytes, the first at the lowest address (20_memory.md rules R182, R183). -/
def wordOfBytes (b0 b1 b2 b3 : Byte) : Word := b3 ++ b2 ++ b1 ++ b0

/-- The instruction the decoder reads from an instruction whose bits are `w`. Every instruction is one word
of four bytes (20_memory.md rule R183), laid out in the hardware's byte order. -/
def decodeTableWord (_nbits w : Nat) : Option Instr :=
  decode (wordOfBytes (byteOf w 0) (byteOf w 1) (byteOf w 2) (byteOf w 3))

end

end Sys2Proof
end

