-- ==== Sys2Proof/Config.lean ====
section
/-!
DEFINITION. What an implementation fixes: read-only register values the spec prints, and, as opaque
constants without a body, the values and the choices the spec leaves open. Nothing can be proved of an
opaque constant, so a statement holds whatever its value is.
-/
namespace Sys2Proof

/-! ### Read-only register values (10_state.md rule R70) -/

/-- PRId, 11_cp0_registers.md rule R136. -/
def Config.prid : Word := 0x00006303#32

/-- Config1, 11_cp0_registers.md rule R142. -/
def Config.config1 : Word := 0xFEE37193#32

/-- Config2, 11_cp0_registers.md rule R143. -/
def Config.config2 : Word := 0x80001643#32

/-- Config3, 11_cp0_registers.md rule R144. -/
def Config.config3 : Word := 0x000000A0#32

/-- FIR, 10_state.md rule R52. -/
def Config.fir : Word := 0x00770501#32

/-! ### Free values -/

/-- The value a step takes where the spec leaves a value open: applied to a number made of the state's
counter `freeCounter` and the place in the step that asks (93_implementation_defined.md, treatment
"any value"). Log 4. -/
opaque Config.freeValue : Nat → Dword

/-- A register the spec leaves undetermined when a running core is cold-reset: applied to the
state's counter and the register's number in the model (70_reset_and_hazards.md rule R1021). Log 16. -/
opaque Config.coldResetValue : Nat → Nat → Dword

/-- The value RDHWR 1 reads, parameter SYNCI_STEP (45_cp0_priv.md rule R516). Log 29. -/
opaque Config.syncIStep : Dword

/-- The largest number of steps an enabled pending interrupt may wait, parameter SWINT_DELAY
(60_exceptions.md rules R972, R976). Log 14. -/
opaque Config.maxRecognitionDelay : Nat

/-- The largest number of steps Count may stand still while it counts (11_cp0_registers.md rule R112,
92_eei_decisions.md D14). Log 57. -/
opaque Config.maxCountIdle : Nat

/-- The largest number of steps performance counter 0 or 1 may stand still while it counts
(11_cp0_registers.md rule R160, 92_eei_decisions.md D14). Log 57. -/
opaque Config.maxPerfIdle : Nat

/-- The largest number of steps a store may wait in the uncached-accelerated buffer (20_memory.md rules R225,
R232). Log 45. -/
opaque Config.maxBufferDelay : Nat

/-- What X86MFFLAG reads of EFLAG, applied to a number of the step (47_custom_int.md rule R673). Log 50. -/
opaque Config.x86FlagsRead : Nat → Word → Dword

/-- EFLAG after X86MTFLAG: applied to a number of the step, the old EFLAG and the source register
(47_custom_int.md rule R674). Log 50. -/
opaque Config.x86FlagsWritten : Nat → Word → Dword → Word

/-! ### Choices between the effects the spec names -/

/-- A word that matches no row: `true` raises Reserved Instruction, `false` stops, parameter
UNKNOWN_WORD (30_encoding.md rule R280). Log 18. -/
opaque Config.unknownWordRaisesRI : Bool

/-- SYNC outside kernel mode with CU0 = 0: `true` raises Coprocessor Unusable, `false` executes,
parameter SYNC_USER (46_misc_trap_cmov.md rule R545). Log 19. -/
opaque Config.syncUserRaisesCpU : Bool

/-- SYNC with stype not 0 outside kernel mode with CU0 = 0: `true` looks at the privilege first
(46_misc_trap_cmov.md rule R545). Log 20. -/
opaque Config.syncPrivilegeFirst : Bool

/-- A CACHE operation that the source does not list: `true` raises Reserved Instruction, `false` does
nothing (45_cp0_priv.md rule R512). Log 21. -/
opaque Config.cacheUnlistedRaisesRI : Bool

/-- An Index CACHE operation in a mapped segment: `true` translates the address (and may raise its
exceptions), `false` does not (45_cp0_priv.md rule R513). Log 22. -/
opaque Config.cacheIndexTranslates : Bool

/-- SYNCI: `true` translates its address and raises what that raises, `false` does not
(46_misc_trap_cmov.md rule R546). Log 23. -/
opaque Config.syncITranslates : Bool

/-- PREFX with coprocessor 1 unusable: `true` raises Coprocessor Unusable, `false` does nothing
(40_loadstore.md rule R326). Log 24. -/
opaque Config.prefxRaisesCpU : Bool

/-- A quad access at an address 8 modulo 16: `true` raises Address Error, `false` performs it
(47_custom_int.md rule R612). Log 25. -/
opaque Config.quadHalfAlignedRaises : Bool

/-- A multimedia instruction with CU2 = 1 and CU1 = 0: `true` raises Coprocessor Unusable for unit 1,
`false` executes (48_custom_mmi.md rule R700). Log 26. -/
opaque Config.mmiRaisesCpU1 : Bool

/-- The bound compare of the bound-checked accesses: `true` signed, `false` unsigned, parameter
GS_BOUND_CMP (47_custom_int.md rule R633). Log 27. -/
opaque Config.boundSigned : Bool

/-- A load to register 0 whose access would raise an exception: `true` raises it, `false` completes in silence;
what is decided before the access, Coprocessor Unusable and Reserved Instruction, is raised in any case
(40_loadstore.md rule R301). Log 28. -/
opaque Config.loadToZeroRaises : Bool

end Sys2Proof
end

