-- ==== Sys2Proof/Machine/Bits.lean ====
section
/-!
DEFINITION. Bit fields, extensions and byte lanes (00_scope.md rules R11, R12).
-/
namespace Sys2Proof.Machine

/-- `sext_n(v)`: the low `n` bits with bit `n - 1` extended to 64 bits (00_scope.md rule R12). -/
def sextLow (n : Nat) (v : Dword) : Dword := (v.setWidth n).signExtend 64

/-- `zext_n(v)`: the low `n` bits extended with zeros (00_scope.md rule R12). -/
def zextLow (n : Nat) (v : Dword) : Dword := (v.setWidth n).setWidth 64

/-- Sign-extends a word to a register. -/
def sextWord (v : Word) : Dword := v.signExtend 64

/-- The low word of a register. -/
def lowWord (v : Dword) : Word := v.setWidth 32

/-- The high word of a register. -/
def highWord (v : Dword) : Word := v.extractLsb' 32 32

/-- A register holds a sign-extended word: bits 63 to 31 are equal (41_alu.md rule R340). -/
def isWordValue (v : Dword) : Bool := sextLow 32 v == v

/-- Ones in bits `lo` to `lo + len - 1`. -/
def fieldMask (w lo len : Nat) : BitVec w := BitVec.ofNat w ((2 ^ len - 1) * 2 ^ lo)

/-- `x` with the bits of `mask` taken from `v`. -/
def mergeBits {w : Nat} (mask x v : BitVec w) : BitVec w := (x &&& ~~~mask) ||| (v &&& mask)

/-- `x` with bits `lo` to `lo + len - 1` replaced by the low bits of `v`. -/
def putField {w : Nat} (x : BitVec w) (lo len : Nat) (v : BitVec w) : BitVec w :=
  mergeBits (fieldMask w lo len) x (v <<< lo)

/-- `x` with bit `i` set to `b`. -/
def putBit {w : Nat} (x : BitVec w) (i : Nat) (b : Bool) : BitVec w :=
  putField x i 1 (BitVec.ofNat w b.toNat)

/-- A truth value as a register: 1 or 0. -/
def boolDword (b : Bool) : Dword := if b then 1 else 0

/-- Lane `i` of `w` bits. -/
def lane (w : Nat) (v : Dword) (i : Nat) : BitVec w := v.extractLsb' (w * i) w

/-- Four halfwords as a doubleword, element 0 in the low bits (10_state.md rule R48). -/
def ofHalves (f : Nat → BitVec 16) : Dword :=
  ((f 3 ++ f 2) ++ (f 1 ++ f 0) : BitVec 64)

/-- Two words as a doubleword. -/
def ofWords (f : Nat → BitVec 32) : Dword := (f 1 ++ f 0 : BitVec 64)

/-- Eight bytes as a doubleword. -/
def ofBytes (f : Nat → BitVec 8) : Dword :=
  (((f 7 ++ f 6) ++ (f 5 ++ f 4)) ++ ((f 3 ++ f 2) ++ (f 1 ++ f 0)) : BitVec 64)

/-- The number of leading zero bits among the low `n` bits (41_alu.md rules R366 to R369). -/
def leadingZeros : Nat → Dword → Nat
  | 0, _ => 0
  | n + 1, v => if v.getLsbD n then 0 else leadingZeros n v + 1

end Sys2Proof.Machine
end

