-- ==== Sys2Proof/Machine/Memory.lean ====
section
/-!
DEFINITION. Physical memory as a list of cells in one canonical form: addresses strictly rising, no zero
byte listed (20_memory.md rules R180 to R183; log 1).
-/
namespace Sys2Proof.Machine

/-- What an address that the list does not hold reads as (DESIGN CHOICE, log 1). -/
def unlistedByte : Byte := 0

/-- One byte of memory. -/
def readByte (m : List Host.Cell) (a : Nat) : Byte :=
  match m with
  | [] => unlistedByte
  | c :: rest => if c.1 = a then c.2 else readByte rest a

/-- Removes the entry of an address. -/
def eraseByte (m : List Host.Cell) (a : Nat) : List Host.Cell :=
  match m with
  | [] => []
  | c :: rest => if c.1 = a then eraseByte rest a else c :: eraseByte rest a

/-- Puts a cell before the first entry of a higher address. -/
def insertByte (m : List Host.Cell) (a : Nat) (v : Byte) : List Host.Cell :=
  match m with
  | [] => [(a, v)]
  | c :: rest => if a < c.1 then (a, v) :: c :: rest else c :: insertByte rest a v

/-- Writes one byte. -/
def writeByte (m : List Host.Cell) (a : Nat) (v : Byte) : List Host.Cell :=
  if v = unlistedByte then eraseByte m a else insertByte (eraseByte m a) a v

/-- `MemRead(a, n)` for n up to 8, little-endian (20_memory.md rule R182). -/
def readLE (m : List Host.Cell) (a : Nat) (n : Nat) : Dword :=
  match n with
  | 0 => 0
  | k + 1 => (readLE m (a + 1) k <<< 8) ||| (readByte m a).setWidth 64

/-- `MemWrite(a, n, v)` for n up to 8, little-endian (20_memory.md rule R182). -/
def writeLE (m : List Host.Cell) (a : Nat) (n : Nat) (v : Dword) : List Host.Cell :=
  match n with
  | 0 => m
  | k + 1 => writeByte (writeLE m (a + 1) k (v >>> 8)) a (v.setWidth 8)

/-- The canonical form from a lower bound on. -/
def canonicalFrom (lo : Nat) (m : List Host.Cell) : Bool :=
  match m with
  | [] => true
  | c :: rest => decide (lo ≤ c.1) && (c.2 != unlistedByte) && canonicalFrom (c.1 + 1) rest

/-- Memory is in canonical form. -/
def Memory.wf (m : List Host.Cell) : Bool := canonicalFrom 0 m

end Sys2Proof.Machine
end

