-- ==== Sys2Proof/Machine/State.lean ====
section
/-!
DEFINITION. The state of one GS464 core as plain data (10_state.md rule R30), the reasons a step can
stop, and the state right after power-up.
-/
namespace Sys2Proof.Machine

/-- One TLB entry (20_memory.md rule R203). -/
structure TlbEntry where
  mask : BitVec 12
  r : BitVec 2
  vpn2 : BitVec 35
  g : Bool
  asid : BitVec 8
  pfn0 : BitVec 36
  c0 : BitVec 3
  d0 : Bool
  v0 : Bool
  pfn1 : BitVec 36
  c1 : BitVec 3
  d1 : Bool
  v1 : Bool
  deriving DecidableEq, Repr

/-- The CP0 registers that hold state (10_state.md rule R40; fields in 11_cp0_registers.md). PRId, Config1,
Config2, Config3 are constants, SRSCtl reads 0. -/
structure Cp0 where
  index : Word
  random : Word
  entryLo0 : Dword
  entryLo1 : Dword
  context : Dword
  pageMask : Word
  pageGrain : Word
  wired : Word
  hwrEna : Word
  badVAddr : Dword
  count : Word
  entryHi : Dword
  compare : Word
  status : Word
  intCtl : Word
  /-- BD, TI, CE, DC, IV, IP1, IP0 and ExcCode; PCI and IP7 to IP2 are computed when it is read. -/
  cause : Word
  epc : Dword
  ebase : Word
  config : Word
  llAddr : Dword
  xContext : Dword
  diagnostic : Dword
  debug : Word
  depc : Dword
  perfCtl0 : Word
  perfCnt0 : Dword
  perfCtl1 : Word
  perfCnt1 : Dword
  errCtl : Word
  cacheErr : Word
  cacheErr1 : Dword
  tagLo : Word
  dataLo : Word
  tagHi : Word
  dataHi : Word
  errorEpc : Dword
  desave : Dword
  deriving DecidableEq, Repr

/-- The x86-translation state (10_state.md rule R60). The widths are not in the source (PRESUMED, log 51). -/
structure X86 where
  eflag : Word
  top : BitVec 3
  tm : Bool
  tag : BitVec 16
  deriving DecidableEq, Repr

/-- A word that a store has overwritten and that instruction fetch may still return (20_memory.md rule
R237): its physical address, its old value, and whether a SYNC has executed since. Log 17. -/
structure StaleWord where
  addr : Nat
  old : Word
  synced : Bool
  deriving DecidableEq, Repr

/-- What the host maps at a physical address (20_memory.md rules R180, R200; 92_eei_decisions.md D19). -/
inductive PhysKind where
  | ram
  | rom
  /-- A device, whose behaviour is not in the source. -/
  | device
  /-- The bus answers ERR. -/
  | err
  deriving DecidableEq, Repr

/-- The physical addresses from `first` on, below `past`, and what is there. -/
structure PhysRange where
  first : Nat
  past : Nat
  kind : PhysKind
  deriving DecidableEq, Repr

/-- A store that waits in the uncached-accelerated buffer (20_memory.md rule R225): the low `size` bytes of
`value` for physical address `addr` and up. -/
structure BufferedStore where
  addr : Nat
  size : Nat
  value : Dword
  deriving DecidableEq, Repr

/-- A physical page that has been accessed cached, with bits 13:12 of the virtual address (20_memory.md rule
R221). Log 46. -/
structure PageColour where
  page : BitVec 36
  colour : BitVec 2
  deriving DecidableEq, Repr

/-- The last LL or LLD: its physical address and its size (20_memory.md rules R241, R244). -/
structure Link where
  pa : PhysAddr
  size : Nat
  deriving DecidableEq, Repr

/-- The state of the machine. -/
structure State where
  /-- General registers (10_state.md rule R31); slot 0 is never read. -/
  gpr : Vector Dword 32
  hi : Dword
  lo : Dword
  pc : Dword
  npc : Dword
  inDelaySlot : Bool
  llbit : Bool
  /-- The last LL or LLD, none before the first (20_memory.md rules R241, R244); the monitored line is bits 47:5
  of its address. Log 8. -/
  linked : Option Link
  cp0 : Cp0
  tlb : Vector TlbEntry 64
  fpr : Vector Dword 32
  fcsr : Word
  x86 : X86
  /-- The lookup table (10_state.md rule R61); its format is not in the source (PRESUMED, log 51). -/
  cam : List (Dword × Dword)
  /-- Memory, canonical: addresses strictly rising, no zero byte listed (log 1). -/
  mem : List Host.Cell
  /-- The hardware interrupt lines 0 to 5 (60_exceptions.md rule R970). -/
  lines : BitVec 6
  /-- The reset and NMI inputs (70_reset_and_hazards.md rule R1020). -/
  coldReset : Bool
  softReset : Bool
  nmi : Bool
  /-- `Phys`, the host's map of physical memory: the first range that holds an address decides, an address
  in no range is outside the map (20_memory.md rules R180, R200). Log 2. -/
  phys : List PhysRange
  /-- The uncached-accelerated store buffer, the oldest store first (10_state.md rule R64). Log 45. -/
  accel : List BufferedStore
  /-- Model's own: see `PageColour`. -/
  coloured : List PageColour
  /-- Model's own: see `StaleWord`. -/
  stale : List StaleWord
  /-- Model's own: a jump has executed and its delay slot is not yet done. Log 17. -/
  afterJump : Bool
  /-- Model's own: steps an enabled pending interrupt has waited. Log 14. -/
  intWait : Nat
  /-- Model's own: steps the uncached-accelerated buffer has held stores. Log 45. -/
  accelWait : Nat
  /-- Model's own: steps Count has stood still while it counts. Log 57. -/
  countIdle : Nat
  /-- Model's own: steps performance counter 0 has stood still while it counts. Log 57. -/
  perf0Idle : Nat
  /-- Model's own: steps performance counter 1 has stood still while it counts. Log 57. -/
  perf1Idle : Nat
  /-- Model's own: numbers the free values. Log 4. -/
  freeCounter : Nat
  deriving DecidableEq, Repr

/-- Why the machine stops with a fault: the spec calls the behaviour undefined or UNPREDICTABLE and names
no effect. Every one is SAFE: the model says nothing where the hardware may go on. -/
inductive Fault where
  /-- A branch, a jump or ERET in a delay slot (44_branch.md rule R486). Raised by their meanings. Safe. -/
  | controlInDelaySlot
  /-- JALR with rd = rs (44_branch.md rule R486). Raised by JALR and JALR.HB. Safe. -/
  | jalrSameRegister
  /-- A branch-and-link whose source is r31 (44_branch.md rule R486). Raised by the BLTZAL family. Safe. -/
  | linkFromLinkRegister
  /-- Status.KSU = 0b11 with EXL = ERL = 0 (11_cp0_registers.md rule R119). Raised by translation. Safe. -/
  | undefinedMode
  /-- More than one TLB entry matches (20_memory.md rule R207). Raised by translation and TLBP. Safe. -/
  | tlbMultipleMatch
  /-- A reserved cache coherency attribute (20_memory.md rule R226). Raised by translation. Safe. -/
  | reservedCacheAttribute
  /-- A physical address above 40 bits with PageGrain.ELPA = 0 (20_memory.md rule R199). Raised by
  translation. Safe. -/
  | physicalAddressTooWide
  /-- A PageMask value that is not in the table (11_cp0_registers.md rule R101). Raised by TLBWI, TLBWR. Safe. -/
  | illegalPageMask
  /-- An odd floating-point register, or a PS or L format, with Status.FR = 0 (10_state.md rule R47,
  49_fpu.md rule R803). Raised by floating-point and multimedia instructions. Safe. -/
  | floatRegisterPair
  /-- An IntCtl.VS that is not in the table (11_cp0_registers.md rule R123). Raised by interrupt entry. Safe. -/
  | illegalVectorSpacing
  /-- A vectored interrupt with BEV = 1 and VS not 0 (60_exceptions.md rule R978). Raised by interrupt
  entry. Safe. -/
  | vectoredWithBev
  deriving DecidableEq, Repr

/-- Why the machine refuses: the spec gives no meaning. Every one is SAFE: the model says nothing. -/
inductive Refusal where
  /-- The instruction has no meaning in this model yet. Raised by exec's own arm. Safe. -/
  | notModelled (mnemonic : String)
  /-- A word that matches no row of the opcode table (30_encoding.md rule R280). Raised by step. Safe. -/
  | unknownWord
  /-- DI or EI with CP0 usable (30_encoding.md rule R283). Raised by their meanings. Safe. -/
  | disabledInstruction
  /-- SDBBP, DERET with CP0 usable, or a step with Debug.SSt = 1: debug mode is out of the spec's scope
  (00_scope.md rule R8, 60_exceptions.md rule R984). Raised by the two meanings and by step. Safe. -/
  | debugMode
  /-- X86J, X86LOOP or SETTAG: operation not in the source (47_custom_int.md rule R684). Safe. -/
  | x86OperationUnknown
  /-- CAMPV, CAMPI, CAMWI or RAMRI: operation not in the source (47_custom_int.md rule R690). Safe. -/
  | lookupTableUnknown
  /-- CVT.D.LD, CVT.LD.D or CVT.UD.D: operation not in the source (49_fpu.md rule R880). Safe. -/
  | extendedDoubleUnknown
  /-- A CP0 register that does not exist (11_cp0_registers.md rule R176). Raised by the CP0 moves. Safe. -/
  | noSuchCp0Register
  /-- An FPU control register that does not exist, or a write to FIR (49_fpu_move_mem.md rules R905, R906).
  Raised by CFC1 and CTC1. Safe. -/
  | noSuchFpuRegister
  /-- CTC1 sets FCSR.top_mode (10_state.md rule R60). Raised by CTC1. Safe. -/
  | topMode
  /-- An address in the doubtful upper part of XKSEG (20_memory.md rule R194). Raised by translation. Safe. -/
  | doubtfulKernelSegment
  /-- A user-segment address with Status.ERL = 1 (20_memory.md rule R198, D8). Raised by translation. Safe. -/
  | userSegmentErl
  /-- A physical address outside the host's map (20_memory.md rule R200, D19). Raised by fetches, loads and
  stores. Safe. -/
  | outsidePhysicalMap
  /-- A device, whose behaviour is not in the source (20_memory.md rule R180). Raised by fetches, loads and
  stores. Safe. -/
  | deviceAccess
  /-- A store to read-only memory, whose effect is not in the source (20_memory.md rule R180). Raised by
  stores. Safe. -/
  | romStore
  /-- An SC or SCD whose physical address or size differs from the last LL's, or whose attribute is not 3
  (20_memory.md rule R244). Raised by SC and SCD. Safe. -/
  | mismatchedStoreConditional
  /-- A physical page accessed cached at virtual addresses that differ in bits 13:12 (20_memory.md rule R221).
  Raised by fetches, loads and stores. Safe. -/
  | pageColour
  deriving DecidableEq, Repr

/-- A TLB entry of zeros: the value the model names for power-up (log 3). -/
def TlbEntry.zero : TlbEntry where
  mask := 0
  r := 0
  vpn2 := 0
  g := false
  asid := 0
  pfn0 := 0
  c0 := 0
  d0 := false
  v0 := false
  pfn1 := 0
  c1 := 0
  d1 := false
  v1 := false

/-- CP0 after power-up (10_state.md rule R70); a register without a stated value is 0 (log 3). -/
def Cp0.reset : Cp0 where
  index := 0
  random := 63#32
  entryLo0 := 0
  entryLo1 := 0
  context := 0
  pageMask := 0
  pageGrain := 0
  wired := 0
  hwrEna := 0
  badVAddr := 0
  count := 0
  entryHi := 0
  compare := 0
  status := 0x30C000E4#32
  intCtl := 0xFC000000#32
  cause := 0
  epc := 0
  ebase := 0x80000000#32
  config := 0x80034482#32
  llAddr := 0
  xContext := 0
  diagnostic := 0
  debug := 0x02018000#32
  depc := 0
  perfCtl0 := 0xC0000000#32
  perfCnt0 := 0
  perfCtl1 := 0x40000000#32
  perfCnt1 := 0
  errCtl := 0
  cacheErr := 0
  cacheErr1 := 0
  tagLo := 0
  dataLo := 0
  tagHi := 0
  dataHi := 0
  errorEpc := 0
  desave := 0

/-- The machine right after power-up (10_state.md rule R70, 70_reset_and_hazards.md rule R1021). -/
def State.reset : State where
  gpr := Vector.replicate 32 0
  hi := 0
  lo := 0
  pc := 0xFFFFFFFFBFC00000#64
  npc := 0xFFFFFFFFBFC00004#64
  inDelaySlot := false
  llbit := false
  linked := none
  cp0 := Cp0.reset
  tlb := Vector.replicate 64 TlbEntry.zero
  fpr := Vector.replicate 32 0
  fcsr := 0x00000F80#32
  x86 := { eflag := 0, top := 0, tm := false, tag := 0 }
  cam := []
  mem := []
  lines := 0
  coldReset := false
  softReset := false
  nmi := false
  phys := [⟨0, 2 ^ 48, .ram⟩]
  accel := []
  coloured := []
  stale := []
  afterJump := false
  intWait := 0
  accelWait := 0
  countIdle := 0
  perf0Idle := 0
  perf1Idle := 0
  freeCounter := 0

end Sys2Proof.Machine
end

