-- ==== Sys2Proof/Machine/Ops.lean ====
section
/-!
DEFINITION. The named operations over registers and control flow: general registers, free values, the
privilege predicates, the advance of the pc, taking an exception, returning from one, the resets.
-/
namespace Sys2Proof.Machine

/-- The outcome of a meaning. -/
abbrev Out := Host.Outcome State Fault Refusal

/-! ### Registers -/

/-- `GPR[i]`; register 0 reads 0 (10_state.md rule R31). -/
def State.readGpr (s : State) (i : BitVec 5) : Dword :=
  if i = 0 then 0 else s.gpr[i.toNat]'(i.isLt)

/-- `GPR[i] <- v`; a write to register 0 is discarded (10_state.md rule R31). -/
def State.writeGpr (s : State) (i : BitVec 5) (v : Dword) : State :=
  if i = 0 then s else { s with gpr := s.gpr.set i.toNat v i.isLt }

/-- `HI <- h ; LO <- l` (10_state.md rule R35). -/
def State.writeHiLo (s : State) (h l : Dword) : State := { s with hi := h, lo := l }

/-- `FPR[i]`, all 64 bits (10_state.md rule R45). -/
def State.readFpr (s : State) (i : BitVec 5) : Dword := s.fpr[i.toNat]'(i.isLt)

/-- `FPR[i] <- v`, all 64 bits (10_state.md rule R45). -/
def State.writeFpr (s : State) (i : BitVec 5) (v : Dword) : State :=
  { s with fpr := s.fpr.set i.toNat v i.isLt }

/-- Replaces FCSR (10_state.md rule R53). -/
def State.setFcsr (s : State) (v : Word) : State := { s with fcsr := v }

/-- Replaces the CP0 registers. -/
def State.setCp0 (s : State) (c : Cp0) : State := { s with cp0 := c }

/-- Replaces one TLB entry (20_memory.md rule R203). -/
def State.setTlb (s : State) (i : BitVec 6) (e : TlbEntry) : State :=
  { s with tlb := s.tlb.set i.toNat e i.isLt }

/-- Replaces the x86-translation state (10_state.md rule R60). -/
def State.setX86 (s : State) (x : X86) : State := { s with x86 := x }

/-- Replaces LLbit (10_state.md rule R38). -/
def State.setLLbit (s : State) (b : Bool) : State := { s with llbit := b }

/-! ### Free values (93_implementation_defined.md; log 4) -/

/-- The free value that place `slot` of this step takes. -/
def State.free (s : State) (slot : Nat) : Dword := Config.freeValue (64 * s.freeCounter + slot)

/-- Whether a pending interrupt is recognised before this instruction. -/
abbrev Slot.interrupt : Nat := 0
/-- Which of the old and new words a fetch returns. -/
abbrev Slot.fetch : Nat := 1
/-- How far Count advances. -/
abbrev Slot.count : Nat := 2
/-- How far performance counter 0 advances. -/
abbrev Slot.perf0 : Nat := 3
/-- How far performance counter 1 advances. -/
abbrev Slot.perf1 : Nat := 4
/-- Cause.CE after an exception other than Coprocessor Unusable. -/
abbrev Slot.causeCE : Nat := 5
/-- EntryLo0 after a TLB exception. -/
abbrev Slot.entryLo0 : Nat := 6
/-- EntryLo1 after a TLB exception. -/
abbrev Slot.entryLo1 : Nat := 7
/-- BadVAddr after a failed bound check, a soft reset or an NMI. -/
abbrev Slot.badVAddr : Nat := 8
/-- An open result. -/
abbrev Slot.result : Nat := 9
/-- A second open result (HI beside LO). -/
abbrev Slot.result2 : Nat := 10
/-- Whether a store-conditional that holds its link succeeds. -/
abbrev Slot.scSuccess : Nat := 11
/-- Index.Index after a failed TLBP. -/
abbrev Slot.tlbIndex : Nat := 12
/-- The entry TLBWR writes. -/
abbrev Slot.tlbRandom : Nat := 13
/-- TagLo after an Index Load CACHE operation. -/
abbrev Slot.tagLo : Nat := 14
/-- TagHi after an Index Load CACHE operation. -/
abbrev Slot.tagHi : Nat := 15
/-- DataLo after an Index Load CACHE operation. -/
abbrev Slot.dataLo : Nat := 16
/-- DataHi after an Index Load CACHE operation. -/
abbrev Slot.dataHi : Nat := 17
/-- Status.SR after an NMI. -/
abbrev Slot.statusSR : Nat := 18
/-- FCSR.Cause beside E. -/
abbrev Slot.fcsrCause : Nat := 19
/-- Bits 63 to 32 of a floating-point register after a 32-bit result. -/
abbrev Slot.fprHigh : Nat := 20
/-- The upper half of LWR's result. -/
abbrev Slot.lwrHigh : Nat := 21
/-- EFLAG after an x86-manner instruction. -/
abbrev Slot.eflag : Nat := 22
/-- The register bits TLBR reads under the mask: EntryHi, EntryLo0, EntryLo1. -/
abbrev Slot.tlbrHi : Nat := 23
/-- See `Slot.tlbrHi`. -/
abbrev Slot.tlbrLo0 : Nat := 24
/-- See `Slot.tlbrHi`. -/
abbrev Slot.tlbrLo1 : Nat := 25
/-- Which of its two loaded values a quad load leaves in a register named twice. -/
abbrev Slot.quad : Nat := 26
/-- Whether a reciprocal is inexact. -/
abbrev Slot.recipInexact : Nat := 27
/-- How an approximate reciprocal rounds. -/
abbrev Slot.recip : Nat := 28
/-- A third open result (LO beside a register and HI). -/
abbrev Slot.result3 : Nat := 29
/-- ErrCtl after an Index Load CACHE operation. -/
abbrev Slot.errCtl : Nat := 30
/-- Whether the buffered stores reach memory before this instruction. -/
abbrev Slot.drain : Nat := 31
/-- The general register X86MTFLAG reads. -/
abbrev Slot.x86Source : Nat := 32

/-! ### Status fields and privilege (60_exceptions.md rules R931 to R934, R947) -/

/-- Status.IE. -/
def State.ie (s : State) : Bool := s.cp0.status.getLsbD 0
/-- Status.EXL. -/
def State.exl (s : State) : Bool := s.cp0.status.getLsbD 1
/-- Status.ERL. -/
def State.erl (s : State) : Bool := s.cp0.status.getLsbD 2
/-- Status.KSU. -/
def State.ksu (s : State) : BitVec 2 := s.cp0.status.extractLsb' 3 2
/-- Status.UX. -/
def State.ux (s : State) : Bool := s.cp0.status.getLsbD 5
/-- Status.SX. -/
def State.sx (s : State) : Bool := s.cp0.status.getLsbD 6
/-- Status.KX. -/
def State.kx (s : State) : Bool := s.cp0.status.getLsbD 7
/-- Status.IM. -/
def State.im (s : State) : BitVec 8 := s.cp0.status.extractLsb' 8 8
/-- Status.BEV. -/
def State.bev (s : State) : Bool := s.cp0.status.getLsbD 22
/-- Status.PX. -/
def State.px (s : State) : Bool := s.cp0.status.getLsbD 23
/-- Status.FR. -/
def State.fr (s : State) : Bool := s.cp0.status.getLsbD 26
/-- Status.CU[n]. -/
def State.cu (s : State) (n : BitVec 2) : Bool := s.cp0.status.getLsbD (28 + n.toNat)

/-- `IsKernel()` (60_exceptions.md rule R931). -/
def State.isKernel (s : State) : Bool := s.ksu == 0 || s.exl || s.erl
/-- `IsSupervisor()` (60_exceptions.md rule R931). -/
def State.isSupervisor (s : State) : Bool := s.ksu == 1 && !s.exl && !s.erl
/-- `IsUser()` (60_exceptions.md rule R931). -/
def State.isUser (s : State) : Bool := s.ksu == 2 && !s.exl && !s.erl

/-- `Are64bitOpsEnabled()` (60_exceptions.md rule R934). -/
def State.are64 (s : State) : Bool := s.isKernel || s.isSupervisor || s.px || s.ux

/-- `CopUsable(n)` (60_exceptions.md rule R947). -/
def State.copUsable (s : State) (n : BitVec 2) : Bool := if n = 0 then s.isKernel || s.cu 0 else s.cu n

/-! ### The flow of instructions (00_scope.md rule R14) -/

/-- The next instruction is the one at `npc`. -/
def State.advance (s : State) : State :=
  { s with pc := s.npc, npc := s.npc + 4, inDelaySlot := false }

/-- `Branch(target)`: the instruction at `npc`, the delay slot, executes before the one at `target`. -/
def State.branchTo (s : State) (target : Dword) : State :=
  { s with pc := s.npc, npc := target, inDelaySlot := true }

/-- A branch-likely that is not taken skips its delay slot. -/
def State.skipSlot (s : State) : State :=
  { s with pc := s.npc + 4, npc := s.npc + 8, inDelaySlot := false }

/-- A jump with a delay slot that leads to newly written code (20_memory.md rule R237; log 17). -/
def State.jumpTo (s : State) (target : Dword) : State :=
  { s.branchTo target with afterJump := true }

/-- The overwritten words a SYNC has covered are no longer fetched (20_memory.md rule R237; log 17). -/
def State.dropSynced (s : State) : State :=
  { s with stale := s.stale.filter (fun w => !w.synced), afterJump := false }

/-! ### Interrupt sources (60_exceptions.md rules R970, R971, R975) -/

/-- Cause.TI. -/
def State.ti (s : State) : Bool := s.cp0.cause.getLsbD 30

/-- Cause.PCI (11_cp0_registers.md rule R160). -/
def State.pci (s : State) : Bool :=
  (s.cp0.perfCtl0.getLsbD 4 && s.cp0.perfCnt0.getLsbD 63) ||
  (s.cp0.perfCtl1.getLsbD 4 && s.cp0.perfCnt1.getLsbD 63)

/-- Cause.IP[7:0] (60_exceptions.md rules R970, R971). -/
def State.ip (s : State) : BitVec 8 :=
  BitVec.ofBool (s.lines.getLsbD 5 || s.ti || s.pci) ++ s.lines.extractLsb' 0 5 ++
    s.cp0.cause.extractLsb' 8 2

/-- The Cause register as it reads (11_cp0_registers.md rule R127). -/
def State.readCause (s : State) : Word :=
  putField (putBit s.cp0.cause 26 s.pci) 8 8 (s.ip.setWidth 32)

/-- `InterruptPending()` (60_exceptions.md rule R975). -/
def State.interruptPending (s : State) : Bool :=
  s.ie && !s.exl && !s.erl && (s.ip &&& s.im) != 0

/-- The number of the highest bit that is set (60_exceptions.md rule R978). -/
def highestBit (v : BitVec 8) : Nat := Nat.log2 v.toNat

/-! ### Exceptions (60_exceptions.md rules R936, R960 to R963) -/

/-- The exceptions the model raises (60_exceptions.md rule R936). -/
inductive Exc where
  | int
  | mod (va : Dword)
  | tlbRefill (store : Bool) (va : Dword)
  | tlbInvalid (store : Bool) (va : Dword)
  | addressError (store : Bool) (va : Dword)
  /-- A failed bound check: BadVAddr takes any value (47_custom_int.md rule R633). -/
  | boundError (store : Bool)
  | ibe
  | dbe
  | sys
  | bp
  | ri
  | cpU (unit : BitVec 2)
  | ov
  | tr
  | fpe
  deriving DecidableEq, Repr

/-- Cause.ExcCode (11_cp0_registers.md rule R129, 60_exceptions.md rule R936). -/
def Exc.code : Exc → BitVec 5
  | .int => 0
  | .mod _ => 1
  | .tlbRefill store _ => if store then 3 else 2
  | .tlbInvalid store _ => if store then 3 else 2
  | .addressError store _ => if store then 5 else 4
  | .boundError store => if store then 5 else 4
  | .ibe => 6
  | .dbe => 7
  | .sys => 8
  | .bp => 9
  | .ri => 10
  | .cpU _ => 11
  | .ov => 12
  | .tr => 13
  | .fpe => 15

/-- `VectorBase` (60_exceptions.md rule R962). -/
def State.vectorBase (s : State) : Dword :=
  if s.bev then 0xFFFFFFFFBFC00200#64
  else sextWord (s.cp0.ebase &&& 0xFFFFF000#32)

/-- Whether the XTLB refill vector is used (60_exceptions.md rule R963). -/
def State.xtlb (s : State) (va : Dword) : Bool :=
  if va.extractLsb' 62 2 = 0#2 then s.ux
  else if va.extractLsb' 62 2 = 1#2 || va.extractLsb' 29 35 = 0x7FFFFFFFE#35 then s.sx
  else s.kx

/-- The offset of a vectored interrupt (60_exceptions.md rule R978). -/
def State.interruptOffset (s : State) : Dword :=
  if s.cp0.cause.getLsbD 23 then
    BitVec.ofNat 64 (0x200 +
      highestBit (s.ip &&& s.im) * ((s.cp0.intCtl.extractLsb' 5 5).toNat * 32))
  else 0x180

/-- `VectorOffset` with Status.EXL = 0 (60_exceptions.md rule R962). -/
def State.vectorOffset (s : State) : Exc → Dword
  | .tlbRefill _ va => if s.xtlb va then 0x080 else 0x000
  | .int => s.interruptOffset
  | _ => 0x180

/-- The registers a TLB exception writes; the EntryLo registers take any value (60_exceptions.md rule
R941). -/
def State.tlbFault (s : State) (c : Cp0) (va : Dword) : Cp0 :=
  { c with
    badVAddr := va
    context := putField c.context 4 19 (va >>> 13)
    xContext := putField (putField c.xContext 39 2 (va >>> 62)) 4 35 (va >>> 13)
    entryHi := putField (putField c.entryHi 62 2 (va >>> 62)) 13 35 (va >>> 13)
    entryLo0 := s.free Slot.entryLo0 &&& fieldMask 64 0 42
    entryLo1 := s.free Slot.entryLo1 &&& fieldMask 64 0 42 }

/-- The address registers an exception writes (60_exceptions.md rules R940, R941). -/
def State.excRegisters (s : State) (c : Cp0) : Exc → Cp0
  | .mod va => s.tlbFault c va
  | .tlbRefill _ va => s.tlbFault c va
  | .tlbInvalid _ va => s.tlbFault c va
  | .addressError _ va => { c with badVAddr := va }
  | .boundError _ => { c with badVAddr := s.free Slot.badVAddr }
  | _ => c

/-- Cause.CE after an exception: the unit number, or any value (60_exceptions.md rule R947). -/
def State.excUnit (s : State) : Exc → BitVec 2
  | .cpU n => n
  | _ => (s.free Slot.causeCE).setWidth 2

/-- Cause and EPC after an exception: EPC and BD only with EXL = 0 (60_exceptions.md rules R960, R961). -/
def State.excCause (s : State) (e : Exc) : Word :=
  putField (putField (if s.exl then s.cp0.cause else putBit s.cp0.cause 31 s.inDelaySlot)
    28 2 ((s.excUnit e).setWidth 32)) 2 5 (e.code.setWidth 32)

/-- The address execution continues at after the exception has been handled (11_cp0_registers.md rule R132). -/
def State.restartPc (s : State) : Dword := if s.inDelaySlot then s.pc - 4 else s.pc

/-- `ExceptionEntry(X)` (60_exceptions.md rule R960): the instruction at `pc` has written nothing. -/
def State.takeException (s : State) (e : Exc) : State :=
  let target := s.vectorBase + (if s.exl then 0x180 else s.vectorOffset e)
  { s with
    cp0 := s.excRegisters { s.cp0 with
      epc := if s.exl then s.cp0.epc else s.restartPc
      cause := s.excCause e
      status := s.cp0.status ||| 2#32 } e
    pc := target
    npc := target + 4
    inDelaySlot := false
    afterJump := false }

/-- `raise X`: the instruction ends with exception entry. -/
def raise (e : Exc) (s : State) : Out := .next (s.takeException e)

/-- Entry of an interrupt: a vector spacing that the source does not list, and vectored mode with
BEV = 1, stop (11_cp0_registers.md rule R123, 60_exceptions.md rule R978). -/
def State.takeInterrupt (s : State) : Out :=
  if s.cp0.cause.getLsbD 23 then
    let vs := (s.cp0.intCtl.extractLsb' 5 5).toNat
    if !([0, 1, 2, 4, 8, 16].contains vs) then .fault .illegalVectorSpacing
    else if s.bev && vs != 0 then .fault .vectoredWithBev
    else raise .int s
  else raise .int s

/-- Return from an exception (45_cp0_priv.md rule R509): through ErrorEPC with ERL = 1, else through
EPC; LLbit and LLAddr are cleared. -/
def State.returnFromException (s : State) : State :=
  let target := if s.erl then s.cp0.errorEpc else s.cp0.epc
  { s.dropSynced with
    cp0 := { s.cp0 with
      status := if s.erl then putBit s.cp0.status 2 false else putBit s.cp0.status 1 false
      llAddr := 0 }
    llbit := false
    pc := target
    npc := target + 4
    inDelaySlot := false }

/-! ### Results of a part of an instruction -/

/-- What a part of an instruction gives: a value, an exception to take, or a stop. -/
inductive Res (α : Type) where
  | ok (a : α)
  | exc (e : Exc)
  | fault (f : Fault)
  | refused (r : Refusal)
  deriving DecidableEq, Repr

/-- Goes on with the value. -/
def Res.bind {α β : Type} (r : Res α) (k : α → Res β) : Res β :=
  match r with
  | .ok a => k a
  | .exc e => .exc e
  | .fault f => .fault f
  | .refused x => .refused x

/-- Ends the instruction: with `k` on a value, with exception entry from `s` on an exception. -/
def Res.finish {α : Type} (r : Res α) (s : State) (k : α → Out) : Out :=
  match r with
  | .ok a => k a
  | .exc e => raise e s
  | .fault f => .fault f
  | .refused x => .refused x

/-! ### Checks that open an instruction -/

/-- Reserved Instruction unless 64-bit operations are enabled (60_exceptions.md rule R934). For a load it comes
before the access, so a load to register 0 raises it too, where 40_loadstore.md rule R301 leaves the
exceptions of such a load open: DESIGN CHOICE, log 28. -/
def need64 (s : State) (k : Out) : Out := if s.are64 then k else raise .ri s

/-- Coprocessor Unusable unless unit `n` is usable (60_exceptions.md rule R947); a load to register 0 raises it
too (DESIGN CHOICE, log 28). -/
def needCop (n : BitVec 2) (s : State) (k : Out) : Out :=
  if s.copUsable n then k else raise (.cpU n) s

/-- A branch, a jump or ERET in a delay slot has no stated effect (44_branch.md rule R486). -/
def notInSlot (s : State) (k : Out) : Out := if s.inDelaySlot then .fault .controlInDelaySlot else k

/-- Writes a general register and goes on. -/
def State.putGpr (s : State) (i : BitVec 5) (v : Dword) : Out := .next (s.writeGpr i v).advance

/-! ### The resets (70_reset_and_hazards.md rules R1021, R1023, R1024) -/

/-- Control is at the reset vector (70_reset_and_hazards.md rule R1020). -/
def State.toResetVector (s : State) : State :=
  { s with
    pc := 0xFFFFFFFFBFC00000#64
    npc := 0xFFFFFFFFBFC00004#64
    inDelaySlot := false
    afterJump := false
    intWait := 0
    freeCounter := s.freeCounter + 1 }

/-- The NMI input (70_reset_and_hazards.md rule R1024): SR takes any value, BadVAddr is undefined. -/
def State.takeNmi (s : State) : State :=
  let st := s.cp0.status ||| 0x00480004#32
  { s.toResetVector with
    cp0 := { s.cp0 with
      errorEpc := s.restartPc
      status := putBit st 20 ((s.free Slot.statusSR).getLsbD 0)
      badVAddr := s.free Slot.badVAddr }
    nmi := false }

/-- The soft reset input (70_reset_and_hazards.md rule R1023); the interrupt lines fall
(60_exceptions.md rule R973). -/
def State.takeSoftReset (s : State) : State :=
  { s.toResetVector with
    cp0 := { s.cp0 with
      errorEpc := s.restartPc
      status := putBit (s.cp0.status ||| 0x00500004#32) 19 false
      badVAddr := s.free Slot.badVAddr }
    lines := 0
    softReset := false }

/-- A register's undetermined value after a cold reset of a running core. -/
def State.undetermined (s : State) (n : Nat) : Dword := Config.coldResetValue s.freeCounter n

/-- A TLB entry's undetermined content after a cold reset of a running core. -/
def State.undeterminedTlb (s : State) (i : Nat) : TlbEntry :=
  let a := s.undetermined (200 + 3 * i)
  let b := s.undetermined (201 + 3 * i)
  let c := s.undetermined (202 + 3 * i)
  { mask := a.extractLsb' 0 12
    r := a.extractLsb' 12 2
    vpn2 := a.extractLsb' 14 35
    g := a.getLsbD 49
    asid := a.extractLsb' 50 8
    pfn0 := b.extractLsb' 0 36
    c0 := b.extractLsb' 36 3
    d0 := b.getLsbD 39
    v0 := b.getLsbD 40
    pfn1 := c.extractLsb' 0 36
    c1 := c.extractLsb' 36 3
    d1 := c.getLsbD 39
    v1 := c.getLsbD 40 }

/-- CP0 after a cold reset of a running core: the listed fields have their values, the others are
undetermined, reserved bits are 0 (70_reset_and_hazards.md rule R1021, 92_eei_decisions.md D15). -/
def State.coldCp0 (s : State) : Cp0 :=
  let w (n : Nat) (mask : Word) : Word := lowWord (s.undetermined n) &&& mask
  let d (n : Nat) (mask : Dword) : Dword := s.undetermined n &&& mask
  { index := w 100 0x8000003F#32
    random := 63#32
    entryLo0 := d 101 0x3FFFFFFFFFF#64
    entryLo1 := d 102 0x3FFFFFFFFFF#64
    context := d 103 0xFFFFFFFFFFFFFFF0#64
    pageMask := w 104 0x01FFE000#32
    pageGrain := w 105 0x20000000#32
    wired := 0
    hwrEna := w 106 0xF#32
    badVAddr := s.undetermined 107
    count := w 108 0xFFFFFFFF#32
    entryHi := d 109 0xC000FFFFFFFFE0FF#64
    compare := w 110 0xFFFFFFFF#32
    status := 0x30C000E4#32
    intCtl := 0xFC000000#32
    cause := w 111 0xF880037C#32
    epc := s.undetermined 112
    ebase := 0x80000000#32 ||| (s.cp0.ebase &&& 0x3FF#32) ||| w 113 0x3FFFF000#32
    config := 0x80034482#32
    llAddr := d 114 0x0000FFFFFFFFF000#64
    xContext := d 115 0xFFFFFFFFFFFFFFF0#64
    diagnostic := d 116 0xF1#64
    debug := 0x02018000#32
    depc := s.undetermined 117
    perfCtl0 := 0xC0000000#32
    perfCnt0 := s.undetermined 118
    perfCtl1 := 0x40000000#32
    perfCnt1 := s.undetermined 119
    errCtl := w 120 0xFF#32
    cacheErr := w 121 0x3F#32
    cacheErr1 := s.undetermined 122
    tagLo := w 123 0xFFFFFFF0#32
    dataLo := w 124 0xFFFFFFFF#32
    tagHi := w 125 0xF#32
    dataHi := w 126 0xFFFFFFFF#32
    errorEpc := s.pc
    desave := s.undetermined 127 }

/-- The cold reset input on a running core (70_reset_and_hazards.md rule R1021); memory and what lies outside
the core stay (log 16). -/
def State.takeColdReset (s : State) : State :=
  { s.toResetVector with
    gpr := Vector.ofFn (fun i : Fin 32 => s.undetermined i.val)
    hi := s.undetermined 64
    lo := s.undetermined 65
    llbit := (s.undetermined 66).getLsbD 0
    linked := none
    cp0 := s.coldCp0
    tlb := Vector.ofFn (fun i : Fin 64 => s.undeterminedTlb i.val)
    fpr := Vector.ofFn (fun i : Fin 32 => s.undetermined (32 + i.val))
    fcsr := 0x00000F80#32
    x86 := { eflag := lowWord (s.undetermined 68)
             top := (s.undetermined 69).setWidth 3
             tm := (s.undetermined 70).getLsbD 0
             tag := (s.undetermined 71).setWidth 16 }
    lines := 0
    accel := []
    accelWait := 0
    coloured := []
    coldReset := false }

end Sys2Proof.Machine
end

