-- ==== Sys2Proof/Machine/Flags.lean ====
section
/-!
DEFINITION. Flags: integer overflow (41_alu.md rule R341) and the fields of FCSR (10_state.md rules R53 to
R58).
-/
namespace Sys2Proof.Machine

/-- The exact result does not fit in `w` bits of two's complement (41_alu.md rule R341). -/
def overflows (w : Nat) (t : Int) : Bool :=
  decide (t < -(2 ^ (w - 1) : Int)) || decide ((2 ^ (w - 1) : Int) ≤ t)

/-! ### FCSR (10_state.md rule R53) -/

/-- The bit of FCSR that holds condition code `i`: 23 for code 0, 24 + i for the others. -/
def fccBit (i : Nat) : Nat := if i = 0 then 23 else 24 + i

/-- Condition code `cc` (10_state.md rule R53). -/
def State.fcc (s : State) (cc : BitVec 3) : Bool := s.fcsr.getLsbD (fccBit cc.toNat)

/-- Sets one condition code. -/
def setFcc (fcsr : Word) (i : Nat) (b : Bool) : Word := putBit fcsr (fccBit i) b

/-- FCSR.FS. -/
def State.flushToZero (s : State) : Bool := s.fcsr.getLsbD 24

/-- FCSR.Enables, V Z O U I from bit 4 down. -/
def State.fpEnables (s : State) : BitVec 5 := s.fcsr.extractLsb' 7 5

/-- FCSR.RM (10_state.md rule R58). -/
def State.roundingMode (s : State) : BitVec 2 := s.fcsr.extractLsb' 0 2

/-- FCCR, the eight condition codes in one row (10_state.md rule R54). -/
def readFccr (fcsr : Word) : Word := (fcsr.extractLsb' 25 7 ++ fcsr.extractLsb' 23 1 : BitVec 8).setWidth 32

/-- Writes the condition codes from FCCR's form (10_state.md rule R54). -/
def writeFccr (fcsr v : Word) : Word := putBit (putField fcsr 25 7 (v >>> 1)) 23 (v.getLsbD 0)

/-- FEXR: Cause and Flags (10_state.md rule R55). -/
def readFexr (fcsr : Word) : Word := fcsr &&& 0x0003F07C#32

/-- Writes Cause and Flags (10_state.md rule R55). -/
def writeFexr (fcsr v : Word) : Word := mergeBits 0x0003F07C#32 fcsr v

/-- FENR: Enables, FS in bit 2, RM (10_state.md rule R56). -/
def readFenr (fcsr : Word) : Word := putBit (fcsr &&& 0x00000F83#32) 2 (fcsr.getLsbD 24)

/-- Writes Enables, FS and RM (10_state.md rule R56). -/
def writeFenr (fcsr v : Word) : Word := putBit (mergeBits 0x00000F83#32 fcsr v) 24 (v.getLsbD 2)

/-- What CTC1 leaves in FCSR itself: bits 21:18 are ignored and stay 0 (10_state.md rule R53, 49_fpu_move_mem.md
rule R906, 92_eei_decisions.md D16); bit 22 is stored and has no effect (93_implementation_defined.md U9, against
rule R906; log 53). -/
def writeFcsr (v : Word) : Word := v &&& 0xFFC3FFFF#32

/-- A Cause bit that raises the exception is set: E, or one whose Enable is set (10_state.md rule R57). -/
def trapPending (fcsr : Word) : Bool :=
  fcsr.getLsbD 17 || (fcsr.extractLsb' 12 5 &&& fcsr.extractLsb' 7 5) != 0

/-- FCSR with its Cause field replaced: E in bit 5, V Z O U I below. -/
def setFpCause (fcsr : Word) (c : BitVec 6) : Word := putField fcsr 12 6 (c.setWidth 32)

/-- FCSR with the Flags of the signalled conditions set (10_state.md rule R57). -/
def addFpFlags (fcsr : Word) (c : BitVec 5) : Word := fcsr ||| (c.setWidth 32 <<< 2)

end Sys2Proof.Machine
end

