-- ==== Sys2Proof/Machine/Operands.lean ====
section
/-!
DEFINITION. Operand forms: immediates, effective addresses, branch targets, 32-bit operands
(30_encoding.md rule R263, 00_scope.md rule R12).
-/
namespace Sys2Proof.Machine

/-- A sign-extended immediate (30_encoding.md rule R263). -/
def simm (imm : BitVec 16) : Dword := imm.signExtend 64

/-- A zero-extended immediate (30_encoding.md rule R263). -/
def zimm (imm : BitVec 16) : Dword := imm.setWidth 64

/-- `GPR[base] + sext_16(offset)` (40_loadstore.md rule R300). -/
def State.ea (s : State) (base : BitVec 5) (imm : BitVec 16) : Dword := s.readGpr base + simm imm

/-- `GPR[base] + GPR[index]` (49_fpu_move_mem.md, indexed forms). -/
def State.eaIndexed (s : State) (base index : BitVec 5) : Dword := s.readGpr base + s.readGpr index

/-- `GPR[base] + sext_8(offset)` (47_custom_int.md rule R602). -/
def State.ea8 (s : State) (base : BitVec 5) (off : BitVec 8) : Dword :=
  s.readGpr base + off.signExtend 64

/-- `GPR[base] + GPR[index] + sext_8(offset)` (47_custom_int.md rule R601). -/
def State.eaIndexed8 (s : State) (base index : BitVec 5) (off : BitVec 8) : Dword :=
  s.readGpr base + s.readGpr index + off.signExtend 64

/-- `GPR[base] + sext_9(offset) * 16` (47_custom_int.md rule R603). -/
def State.ea9 (s : State) (base : BitVec 5) (off : BitVec 9) : Dword :=
  s.readGpr base + (off.signExtend 64 <<< 4)

/-- The target of a branch (30_encoding.md rule R263, 44_branch.md rule R460). -/
def State.branchTarget (s : State) (imm : BitVec 16) : Dword := s.pc + 4 + (simm imm <<< 2)

/-- The target of J and JAL: the 256 MB region of the delay slot (30_encoding.md rule R263). -/
def State.jumpTarget (s : State) (idx : BitVec 26) : Dword :=
  mergeBits (fieldMask 64 0 28) (s.pc + 4) (idx.setWidth 64 <<< 2)

/-- The result of an operation on sign-extended words; another operand leaves it open
(41_alu.md rule R340; log 5). -/
def State.wordResult (s : State) (ok : Bool) (v : Word) : Dword :=
  if ok then sextWord v else s.free Slot.result

end Sys2Proof.Machine
end

