-- ==== Sys2Proof/Machine/Alu.lean ====
section
/-!
DEFINITION. Integer arithmetic and logic (41_alu.md rules R340 to R374).
-/
namespace Sys2Proof.Machine

/-- A word result that traps on overflow; an operand that is not a sign-extended word leaves the result
open (41_alu.md rules R340, R341; log 5). -/
def State.putTrapWord (s : State) (rd : BitVec 5) (ok : Bool) (t : Int) : Out :=
  if ok && overflows 32 t then raise .ov s
  else s.putGpr rd (s.wordResult ok (BitVec.ofInt 32 t))

/-- A doubleword result that traps on overflow (41_alu.md rule R341). -/
def State.putTrapDword (s : State) (rd : BitVec 5) (t : Int) : Out :=
  if overflows 64 t then raise .ov s else s.putGpr rd (BitVec.ofInt 64 t)

/-- Both operands are sign-extended words. -/
def State.wordValues (s : State) (i j : BitVec 5) : Bool :=
  isWordValue (s.readGpr i) && isWordValue (s.readGpr j)

/-- The low word of a general register. -/
def State.gprWord (s : State) (i : BitVec 5) : Word := lowWord (s.readGpr i)

/-- A count of leading bits; `rt` must name the same register as `rd` (41_alu.md rule R366; log 6). -/
def State.putCount (s : State) (rt rd : BitVec 5) (ok : Bool) (n : Nat) : Out :=
  s.putGpr rd (if ok && rt == rd then BitVec.ofNat 64 n else s.free Slot.result)

/-- Swaps the two bytes of a halfword. -/
def swapHalf (h : BitVec 16) : BitVec 16 := (h.extractLsb' 0 8 ++ h.extractLsb' 8 8 : BitVec 16)

/-- ADDI (41_alu.md rule R342). -/
def execAddi (rs : BitVec 5) (rt : BitVec 5) (imm : BitVec 16) (s : State) : Out :=
  s.putTrapWord rt (isWordValue (s.readGpr rs)) ((s.gprWord rs).toInt + (simm imm).toInt)

/-- DADDI (41_alu.md rule R343). -/
def execDaddi (rs : BitVec 5) (rt : BitVec 5) (imm : BitVec 16) (s : State) : Out :=
  need64 s (s.putTrapDword rt ((s.readGpr rs).toInt + (simm imm).toInt))

/-- ADDIU (41_alu.md rule R344). -/
def execAddiu (rs : BitVec 5) (rt : BitVec 5) (imm : BitVec 16) (s : State) : Out :=
  s.putGpr rt (s.wordResult (isWordValue (s.readGpr rs)) (s.gprWord rs + lowWord (simm imm)))

/-- DADDIU (41_alu.md rule R345). -/
def execDaddiu (rs : BitVec 5) (rt : BitVec 5) (imm : BitVec 16) (s : State) : Out :=
  need64 s (s.putGpr rt (s.readGpr rs + simm imm))

/-- SLTI (41_alu.md rule R346). -/
def execSlti (rs : BitVec 5) (rt : BitVec 5) (imm : BitVec 16) (s : State) : Out :=
  s.putGpr rt (boolDword ((s.readGpr rs).slt (simm imm)))

/-- SLTIU (41_alu.md rule R347). -/
def execSltiu (rs : BitVec 5) (rt : BitVec 5) (imm : BitVec 16) (s : State) : Out :=
  s.putGpr rt (boolDword ((s.readGpr rs).ult (simm imm)))

/-- ANDI (41_alu.md rule R348). -/
def execAndi (rs : BitVec 5) (rt : BitVec 5) (imm : BitVec 16) (s : State) : Out :=
  s.putGpr rt (s.readGpr rs &&& zimm imm)

/-- ORI (41_alu.md rule R349). -/
def execOri (rs : BitVec 5) (rt : BitVec 5) (imm : BitVec 16) (s : State) : Out :=
  s.putGpr rt (s.readGpr rs ||| zimm imm)

/-- XORI (41_alu.md rule R350). -/
def execXori (rs : BitVec 5) (rt : BitVec 5) (imm : BitVec 16) (s : State) : Out :=
  s.putGpr rt (s.readGpr rs ^^^ zimm imm)

/-- LUI (41_alu.md rule R351). -/
def execLui (rt : BitVec 5) (imm : BitVec 16) (s : State) : Out :=
  s.putGpr rt (sextWord (lowWord (zimm imm) <<< 16))

/-- ADD (41_alu.md rule R352). -/
def execAdd (rs : BitVec 5) (rt : BitVec 5) (rd : BitVec 5) (s : State) : Out :=
  s.putTrapWord rd (s.wordValues rs rt) ((s.gprWord rs).toInt + (s.gprWord rt).toInt)

/-- DADD (41_alu.md rule R353). -/
def execDadd (rs : BitVec 5) (rt : BitVec 5) (rd : BitVec 5) (s : State) : Out :=
  need64 s (s.putTrapDword rd ((s.readGpr rs).toInt + (s.readGpr rt).toInt))

/-- ADDU (41_alu.md rule R354). -/
def execAddu (rs : BitVec 5) (rt : BitVec 5) (rd : BitVec 5) (s : State) : Out :=
  s.putGpr rd (s.wordResult (s.wordValues rs rt) (s.gprWord rs + s.gprWord rt))

/-- DADDU (41_alu.md rule R355). -/
def execDaddu (rs : BitVec 5) (rt : BitVec 5) (rd : BitVec 5) (s : State) : Out :=
  need64 s (s.putGpr rd (s.readGpr rs + s.readGpr rt))

/-- SUB (41_alu.md rule R356). -/
def execSub (rs : BitVec 5) (rt : BitVec 5) (rd : BitVec 5) (s : State) : Out :=
  s.putTrapWord rd (s.wordValues rs rt) ((s.gprWord rs).toInt - (s.gprWord rt).toInt)

/-- DSUB (41_alu.md rule R357). -/
def execDsub (rs : BitVec 5) (rt : BitVec 5) (rd : BitVec 5) (s : State) : Out :=
  need64 s (s.putTrapDword rd ((s.readGpr rs).toInt - (s.readGpr rt).toInt))

/-- SUBU (41_alu.md rule R358). -/
def execSubu (rs : BitVec 5) (rt : BitVec 5) (rd : BitVec 5) (s : State) : Out :=
  s.putGpr rd (s.wordResult (s.wordValues rs rt) (s.gprWord rs - s.gprWord rt))

/-- DSUBU (41_alu.md rule R359). -/
def execDsubu (rs : BitVec 5) (rt : BitVec 5) (rd : BitVec 5) (s : State) : Out :=
  need64 s (s.putGpr rd (s.readGpr rs - s.readGpr rt))

/-- SLT (41_alu.md rule R360). -/
def execSlt (rs : BitVec 5) (rt : BitVec 5) (rd : BitVec 5) (s : State) : Out :=
  s.putGpr rd (boolDword ((s.readGpr rs).slt (s.readGpr rt)))

/-- SLTU (41_alu.md rule R361). -/
def execSltu (rs : BitVec 5) (rt : BitVec 5) (rd : BitVec 5) (s : State) : Out :=
  s.putGpr rd (boolDword ((s.readGpr rs).ult (s.readGpr rt)))

/-- AND (41_alu.md rule R362). -/
def execAnd (rs : BitVec 5) (rt : BitVec 5) (rd : BitVec 5) (s : State) : Out :=
  s.putGpr rd (s.readGpr rs &&& s.readGpr rt)

/-- OR (41_alu.md rule R363). -/
def execOr (rs : BitVec 5) (rt : BitVec 5) (rd : BitVec 5) (s : State) : Out :=
  s.putGpr rd (s.readGpr rs ||| s.readGpr rt)

/-- XOR (41_alu.md rule R364). -/
def execXor (rs : BitVec 5) (rt : BitVec 5) (rd : BitVec 5) (s : State) : Out :=
  s.putGpr rd (s.readGpr rs ^^^ s.readGpr rt)

/-- NOR (41_alu.md rule R365). -/
def execNor (rs : BitVec 5) (rt : BitVec 5) (rd : BitVec 5) (s : State) : Out :=
  s.putGpr rd (~~~(s.readGpr rs ||| s.readGpr rt))

/-- CLO (41_alu.md rule R366). -/
def execClo (rs : BitVec 5) (rt : BitVec 5) (rd : BitVec 5) (s : State) : Out :=
  s.putCount rt rd (isWordValue (s.readGpr rs)) (leadingZeros 32 (~~~(s.readGpr rs)))

/-- DCLO (41_alu.md rule R367). -/
def execDclo (rs : BitVec 5) (rt : BitVec 5) (rd : BitVec 5) (s : State) : Out :=
  need64 s (s.putCount rt rd true (leadingZeros 64 (~~~(s.readGpr rs))))

/-- CLZ (41_alu.md rule R368). -/
def execClz (rs : BitVec 5) (rt : BitVec 5) (rd : BitVec 5) (s : State) : Out :=
  s.putCount rt rd (isWordValue (s.readGpr rs)) (leadingZeros 32 (s.readGpr rs))

/-- DCLZ (41_alu.md rule R369). -/
def execDclz (rs : BitVec 5) (rt : BitVec 5) (rd : BitVec 5) (s : State) : Out :=
  need64 s (s.putCount rt rd true (leadingZeros 64 (s.readGpr rs)))

/-- WSBH (41_alu.md rule R370). -/
def execWsbh (rt : BitVec 5) (rd : BitVec 5) (s : State) : Out :=
  let x := s.readGpr rt
  s.putGpr rd (s.wordResult (isWordValue x) (swapHalf (lane 16 x 1) ++ swapHalf (lane 16 x 0) : BitVec 32))

/-- DSHD (41_alu.md rule R371). -/
def execDshd (rt : BitVec 5) (rd : BitVec 5) (s : State) : Out :=
  let x := s.readGpr rt
  need64 s (s.putGpr rd (ofHalves fun i => lane 16 x (3 - i)))

/-- DSBH (41_alu.md rule R372). -/
def execDsbh (rt : BitVec 5) (rd : BitVec 5) (s : State) : Out :=
  let x := s.readGpr rt
  need64 s (s.putGpr rd (ofHalves fun i => swapHalf (lane 16 x i)))

/-- SEB (41_alu.md rule R373). -/
def execSeb (rt : BitVec 5) (rd : BitVec 5) (s : State) : Out := s.putGpr rd (sextLow 8 (s.readGpr rt))

/-- SEH (41_alu.md rule R374). -/
def execSeh (rt : BitVec 5) (rd : BitVec 5) (s : State) : Out := s.putGpr rd (sextLow 16 (s.readGpr rt))

end Sys2Proof.Machine
end

