-- ==== Sys2Proof/Machine/Branch.lean ====
section
/-!
DEFINITION. Jumps and branches (44_branch.md rules R460 to R488).
-/
namespace Sys2Proof.Machine

/-- A branch: the delay slot executes in either case (44_branch.md rule R460); a branch in a delay slot stops
(rule R486). -/
def State.branchIf (s : State) (c : Bool) (target : Dword) : Out :=
  notInSlot s (.next (s.branchTo (if c then target else s.npc + 4)))

/-- A branch-likely: the delay slot executes only when taken (44_branch.md rule R460). -/
def State.branchLikelyIf (s : State) (c : Bool) (target : Dword) : Out :=
  notInSlot s (.next (if c then s.branchTo target else s.skipSlot))

/-- The link value (44_branch.md rule R461). -/
def State.linkAddress (s : State) : Dword := s.pc + 8

/-- A branch-and-link through r31 has no stated effect (44_branch.md rule R486). -/
def notLinkRegister (rs : BitVec 5) (k : Out) : Out :=
  if rs = 31 then .fault .linkFromLinkRegister else k

/-- The link register is written whether or not the branch is taken (44_branch.md rule R461). -/
def State.branchAndLink (s : State) (rs : BitVec 5) (c : Bool) (imm : BitVec 16) : Out :=
  notLinkRegister rs ((s.writeGpr 31 s.linkAddress).branchIf c (s.branchTarget imm))

/-- The likely form of `branchAndLink`. -/
def State.branchAndLinkLikely (s : State) (rs : BitVec 5) (c : Bool) (imm : BitVec 16) : Out :=
  notLinkRegister rs ((s.writeGpr 31 s.linkAddress).branchLikelyIf c (s.branchTarget imm))

/-- JALR: rd = rs has no stated effect (44_branch.md rule R486). -/
def State.jumpAndLinkRegister (s : State) (rs rd : BitVec 5) : Out :=
  if rd = rs then .fault .jalrSameRegister
  else notInSlot s (.next ((s.writeGpr rd s.linkAddress).jumpTo (s.readGpr rs)))

/-- J (44_branch.md rule R462). -/
def execJ (idx : BitVec 26) (s : State) : Out := notInSlot s (.next (s.jumpTo (s.jumpTarget idx)))

/-- JAL (44_branch.md rule R463). -/
def execJal (idx : BitVec 26) (s : State) : Out :=
  notInSlot s (.next ((s.writeGpr 31 s.linkAddress).jumpTo (s.jumpTarget idx)))

/-- JR (44_branch.md rule R464). -/
def execJr (rs : BitVec 5) (s : State) : Out := notInSlot s (.next (s.jumpTo (s.readGpr rs)))

/-- JR.HB (44_branch.md rule R465). -/
def execJrHb (rs : BitVec 5) (s : State) : Out := notInSlot s (.next (s.jumpTo (s.readGpr rs)))

/-- JALR (44_branch.md rule R466). -/
def execJalr (rs : BitVec 5) (rd : BitVec 5) (s : State) : Out := s.jumpAndLinkRegister rs rd

/-- JALR.HB (44_branch.md rule R467). -/
def execJalrHb (rs : BitVec 5) (rd : BitVec 5) (s : State) : Out := s.jumpAndLinkRegister rs rd

/-- BEQ (44_branch.md rule R468). -/
def execBeq (rs : BitVec 5) (rt : BitVec 5) (imm : BitVec 16) (s : State) : Out :=
  s.branchIf (s.readGpr rs == s.readGpr rt) (s.branchTarget imm)

/-- BNE (44_branch.md rule R469). -/
def execBne (rs : BitVec 5) (rt : BitVec 5) (imm : BitVec 16) (s : State) : Out :=
  s.branchIf (s.readGpr rs != s.readGpr rt) (s.branchTarget imm)

/-- BLEZ (44_branch.md rule R470). -/
def execBlez (rs : BitVec 5) (imm : BitVec 16) (s : State) : Out :=
  s.branchIf ((s.readGpr rs).sle 0) (s.branchTarget imm)

/-- BGTZ (44_branch.md rule R471). -/
def execBgtz (rs : BitVec 5) (imm : BitVec 16) (s : State) : Out :=
  s.branchIf ((0#64).slt (s.readGpr rs)) (s.branchTarget imm)

/-- BLTZ (44_branch.md rule R472). -/
def execBltz (rs : BitVec 5) (imm : BitVec 16) (s : State) : Out :=
  s.branchIf ((s.readGpr rs).getLsbD 63) (s.branchTarget imm)

/-- BGEZ (44_branch.md rule R473). -/
def execBgez (rs : BitVec 5) (imm : BitVec 16) (s : State) : Out :=
  s.branchIf (!(s.readGpr rs).getLsbD 63) (s.branchTarget imm)

/-- BLTZAL (44_branch.md rule R474). -/
def execBltzal (rs : BitVec 5) (imm : BitVec 16) (s : State) : Out :=
  s.branchAndLink rs ((s.readGpr rs).getLsbD 63) imm

/-- BGEZAL (44_branch.md rule R475). -/
def execBgezal (rs : BitVec 5) (imm : BitVec 16) (s : State) : Out :=
  s.branchAndLink rs (!(s.readGpr rs).getLsbD 63) imm

/-- BEQL (44_branch.md rule R476). -/
def execBeql (rs : BitVec 5) (rt : BitVec 5) (imm : BitVec 16) (s : State) : Out :=
  s.branchLikelyIf (s.readGpr rs == s.readGpr rt) (s.branchTarget imm)

/-- BNEL (44_branch.md rule R477). -/
def execBnel (rs : BitVec 5) (rt : BitVec 5) (imm : BitVec 16) (s : State) : Out :=
  s.branchLikelyIf (s.readGpr rs != s.readGpr rt) (s.branchTarget imm)

/-- BLEZL (44_branch.md rule R478). -/
def execBlezl (rs : BitVec 5) (imm : BitVec 16) (s : State) : Out :=
  s.branchLikelyIf ((s.readGpr rs).sle 0) (s.branchTarget imm)

/-- BGTZL (44_branch.md rule R479). -/
def execBgtzl (rs : BitVec 5) (imm : BitVec 16) (s : State) : Out :=
  s.branchLikelyIf ((0#64).slt (s.readGpr rs)) (s.branchTarget imm)

/-- BLTZL (44_branch.md rule R480). -/
def execBltzl (rs : BitVec 5) (imm : BitVec 16) (s : State) : Out :=
  s.branchLikelyIf ((s.readGpr rs).getLsbD 63) (s.branchTarget imm)

/-- BGEZL (44_branch.md rule R481). -/
def execBgezl (rs : BitVec 5) (imm : BitVec 16) (s : State) : Out :=
  s.branchLikelyIf (!(s.readGpr rs).getLsbD 63) (s.branchTarget imm)

/-- BLTZALL (44_branch.md rule R482). -/
def execBltzall (rs : BitVec 5) (imm : BitVec 16) (s : State) : Out :=
  s.branchAndLinkLikely rs ((s.readGpr rs).getLsbD 63) imm

/-- BGEZALL (44_branch.md rule R483). -/
def execBgezall (rs : BitVec 5) (imm : BitVec 16) (s : State) : Out :=
  s.branchAndLinkLikely rs (!(s.readGpr rs).getLsbD 63) imm

end Sys2Proof.Machine
end

