-- ==== Sys2Proof/Machine/Translate.lean ====
section
/-!
DEFINITION. Virtual addresses: segments, the TLB, `Translate` (20_memory.md rules R190 to R217).
-/
namespace Sys2Proof.Machine

/-- What an address is for (20_memory.md rule R215). -/
inductive AccessKind where
  | fetch
  | load
  | store
  deriving DecidableEq, Repr

/-- Whether the access is a store: AdES, TLBS instead of AdEL, TLBL. -/
def AccessKind.isStore (k : AccessKind) : Bool := k == .store

/-- How an address is reached (20_memory.md rules R191 to R195). -/
inductive Segment where
  /-- Through the TLB; `user` for XKUSEG, XSUSEG, XUSEG. -/
  | mapped (user : Bool)
  | ckseg0
  | ckseg1
  | xkphy
  /-- The range whose membership of XKSEG is in conflict (20_memory.md rule R194). -/
  | doubtful
  | error
  deriving DecidableEq, Repr

/-- The address is a sign-extended 32-bit value. -/
def isCompat (va : Dword) : Bool := isWordValue va

/-- Segments of kernel mode (20_memory.md rules R191, R194). -/
def kernelSegment (va : Dword) : Segment :=
  if va.extractLsb' 62 2 = 0#2 then
    if va.extractLsb' 48 14 = 0#14 then .mapped true else .error
  else if va.extractLsb' 62 2 = 1#2 then
    if va.extractLsb' 48 14 = 0#14 then .mapped false else .error
  else if va.extractLsb' 62 2 = 2#2 then .xkphy
  else if va.extractLsb' 31 33 = 0x1FFFFFFFF#33 then
    if va.extractLsb' 29 2 = 0#2 then .ckseg0
    else if va.extractLsb' 29 2 = 1#2 then .ckseg1
    else .mapped false
  else if va ≤ 0xC00000FF7FFFFFFF#64 then .mapped false
  else if va ≤ 0xC000FFFF7FFFFFFF#64 then .doubtful
  else .error

/-- Segments of supervisor mode (20_memory.md rule R192). -/
def supervisorSegment (va : Dword) : Segment :=
  if va.extractLsb' 48 16 = 0#16 then .mapped true
  else if va.extractLsb' 48 16 = 0x4000#16 then .mapped false
  else if va.extractLsb' 29 35 = 0x7FFFFFFFE#35 then .mapped false
  else .error

/-- Segment of user mode (20_memory.md rule R193). -/
def userSegment (va : Dword) : Segment :=
  if va.extractLsb' 48 16 = 0#16 then .mapped true else .error

/-- The segment of an address in the current mode; with the mode's 64-bit enable 0 only sign-extended
32-bit addresses are legal (20_memory.md rules R191 to R197). -/
def State.segment (s : State) (va : Dword) : Segment :=
  if s.isKernel then
    if s.kx || isCompat va then kernelSegment va else .error
  else if s.isSupervisor then
    if s.sx || isCompat va then supervisorSegment va else .error
  else
    if s.ux || isCompat va then userSegment va else .error

/-- `Match(e, va)` for the page number and region bits of an address (20_memory.md rule R205). -/
def TlbEntry.hits (e : TlbEntry) (asid : BitVec 8) (r : BitVec 2) (vpn2 : BitVec 35) : Bool :=
  e.r == r && (e.vpn2 &&& ~~~(e.mask.setWidth 35)) == (vpn2 &&& ~~~(e.mask.setWidth 35)) &&
    (e.g || e.asid == asid)

/-- EntryHi.ASID (11_cp0_registers.md rule R114). -/
def State.asid (s : State) : BitVec 8 := s.cp0.entryHi.setWidth 8

/-- The entries that match an address, with their numbers (20_memory.md rule R205). -/
def State.tlbHits (s : State) (r : BitVec 2) (vpn2 : BitVec 35) : List (TlbEntry × Nat) :=
  s.tlb.toList.zipIdx.filter (fun p => p.1.hits s.asid r vpn2)

/-- The number of offset bits of a page of the entry (20_memory.md rule R208). An entry whose Mask is none of the
seven legal values, which only the cold reset of a running core can leave, goes by the same expression, where
11_cp0_registers.md rule R101 calls the operation of the TLB undefined: DESIGN CHOICE, log 71. -/
def TlbEntry.pageBits (e : TlbEntry) : Nat := 12 + Nat.log2 (e.mask.toNat + 1)

/-- One page of an entry: PFN, C, D, V. -/
structure Page where
  pfn : BitVec 36
  c : BitVec 3
  d : Bool
  v : Bool
  deriving DecidableEq, Repr

/-- The even or the odd page (20_memory.md rule R208). -/
def TlbEntry.page (e : TlbEntry) (va : Dword) : Page :=
  if va.getLsbD e.pageBits then ⟨e.pfn1, e.c1, e.d1, e.v1⟩ else ⟨e.pfn0, e.c0, e.d0, e.v0⟩

/-- The physical address in a page (20_memory.md rule R208). -/
def TlbEntry.physical (e : TlbEntry) (p : Page) (va : Dword) : PhysAddr :=
  (((p.pfn &&& ~~~(e.mask.setWidth 36)).setWidth 48) <<< 12) |||
    ((va &&& fieldMask 64 0 e.pageBits).setWidth 48)

/-- Where an access goes: the physical address and the cache attribute. -/
structure Target where
  pa : PhysAddr
  cca : BitVec 3
  deriving DecidableEq, Repr

/-- A reserved attribute and, with ELPA = 0, an address above 40 bits stop (20_memory.md rules R226,
R199). -/
def State.checkTarget (s : State) (t : Target) : Res Target :=
  if !(t.cca == 2 || t.cca == 3 || t.cca == 7) then .fault .reservedCacheAttribute
  else if !s.cp0.pageGrain.getLsbD 29 && t.pa.extractLsb' 40 8 != 0 then .fault .physicalAddressTooWide
  else .ok t

/-- The mapped part of `Translate` (20_memory.md rule R215): refill, invalid, modified, in this order
(20_memory.md rule R209). -/
def State.translateMapped (s : State) (va : Dword) (kind : AccessKind) : Res Target :=
  match s.tlbHits (va.extractLsb' 62 2) (va.extractLsb' 13 35) with
  | [] => .exc (.tlbRefill kind.isStore va)
  | [(e, _)] =>
    let p := e.page va
    if !p.v then .exc (.tlbInvalid kind.isStore va)
    else if kind.isStore && !p.d then .exc (.mod va)
    else s.checkTarget ⟨e.physical p va, p.c⟩
  | _ => .fault .tlbMultipleMatch

/-- `Translate(va, kind)` (20_memory.md rule R215). -/
def State.translate (s : State) (va : Dword) (kind : AccessKind) : Res Target :=
  if s.ksu = 3 && !s.exl && !s.erl then .fault .undefinedMode
  else match s.segment va with
    | .error => .exc (.addressError kind.isStore va)
    | .doubtful => .refused .doubtfulKernelSegment
    | .ckseg0 => s.checkTarget ⟨(va.extractLsb' 0 29).setWidth 48, s.cp0.config.extractLsb' 0 3⟩
    | .ckseg1 => s.checkTarget ⟨(va.extractLsb' 0 29).setWidth 48, 2⟩
    | .xkphy =>
      if va.extractLsb' 48 11 = 0#11 then s.checkTarget ⟨va.setWidth 48, va.extractLsb' 59 3⟩
      else .exc (.addressError kind.isStore va)
    | .mapped user =>
      if user && s.erl then .refused .userSegmentErl else s.translateMapped va kind

/-- A cached access to a physical page: at a second virtual address that differs in bits 13:12 it stops, else
the page is remembered (20_memory.md rule R221; log 46). -/
def State.noteCached (s : State) (t : Target) (va : Dword) : Res State :=
  let page := t.pa.extractLsb' 12 36
  let colour := va.extractLsb' 12 2
  if t.cca != 3 then .ok s
  else match s.coloured.find? (fun c => c.page == page) with
    | none => .ok { s with coloured := ⟨page, colour⟩ :: s.coloured }
    | some c => if c.colour = colour then .ok s else .refused .pageColour

/-- `Translate(va, kind)` for an access that is made, and the state in which a cached page is remembered
(20_memory.md rules R215, R221). -/
def State.reach (s : State) (va : Dword) (kind : AccessKind) : Res (Target × State) :=
  (s.translate va kind).bind fun t => (s.noteCached t va).bind fun u => .ok (t, u)

end Sys2Proof.Machine
end

