-- ==== Sys2Proof/Machine/Access.lean ====
section
/-!
DEFINITION. Loads and stores at virtual addresses (00_scope.md rule R12, 20_memory.md rules R180 to R188,
R200, R216, R225, R237, R240 to R245).
-/
namespace Sys2Proof.Machine

/-! ### The host's map of physical memory -/

/-- What the host maps at an address; nothing outside the map (20_memory.md rules R180, R200). -/
def State.physAt (s : State) (a : Nat) : Option PhysKind :=
  (s.phys.find? (fun r => decide (r.first ≤ a) && decide (a < r.past))).map PhysRange.kind

/-- The kinds of the `n` bytes from `a`. -/
def State.physKinds (s : State) (a n : Nat) : List (Option PhysKind) :=
  (List.range n).map (fun i => s.physAt (a + i))

/-- An access to `n` bytes from `a`: the bus error `e` where the bus answers ERR; outside the map, at a device
and for a store to read-only memory it stops (20_memory.md rule R200, 60_exceptions.md rule R944; log 2). -/
def State.checkPhys (s : State) (a n : Nat) (store : Bool) (e : Exc) : Res Unit :=
  let ks := s.physKinds a n
  if ks.contains (some .err) then .exc e
  else if ks.contains none then .refused .outsidePhysicalMap
  else if ks.contains (some .device) then .refused .deviceAccess
  else if store && ks.contains (some .rom) then .refused .romStore
  else .ok ()

/-! ### What a store leaves -/

/-- The instruction word stored at a physical address. -/
def State.wordAt (s : State) (a : Nat) : Word := lowWord (readLE s.mem a 4)

/-- The words that bytes `a` to `a + n - 1` lie in, with their values before a store; a store of at most
8 bytes touches at most the two words listed (20_memory.md rule R237; log 17). -/
def State.overwritten (s : State) (a n : Nat) : List StaleWord :=
  let w := a / 4 * 4
  if n = 0 then []
  else if a + n ≤ w + 4 then [⟨w, s.wordAt w, false⟩]
  else [⟨w, s.wordAt w, false⟩, ⟨w + 4, s.wordAt (w + 4), false⟩]

/-- `MemWrite(a, n, v)`: the bytes, and the old words for the fetches to come. -/
def State.storeBytes (s : State) (a n : Nat) (v : Dword) : State :=
  { s with mem := writeLE s.mem a n v, stale := s.overwritten a n ++ s.stale }

/-- The number of bytes a list of stores holds. -/
def bufferedBytes (l : List BufferedStore) : Nat := (l.map BufferedStore.size).sum

/-- The stores of a list reach memory, the first one first. -/
def State.landAll (s : State) (l : List BufferedStore) : State :=
  l.foldl (fun u b => u.storeBytes b.addr b.size b.value) s

/-- The uncached-accelerated buffer is written out (20_memory.md rule R225). -/
def State.drain (s : State) : State := { s.landAll s.accel with accel := [] }

/-- `MemRead(pa, n)`, with the bus error of a data access (60_exceptions.md rule R944). A load returns the latest
store of this core to its bytes, one that still waits in the buffer among them (20_memory.md rules R230, R231;
log 45). -/
def State.memRead (s : State) (pa : PhysAddr) (n : Nat) : Res Dword :=
  (s.checkPhys pa.toNat n false .dbe).bind fun _ => .ok (readLE s.drain.mem pa.toNat n)

/-- Two stores write a byte in common. -/
def BufferedStore.overlaps (b c : BufferedStore) : Bool :=
  decide (b.addr < c.addr + c.size) && decide (c.addr < b.addr + b.size)

/-- A store joins the buffer; a full buffer, 32 bytes, is written out (20_memory.md rule R225; log 45). -/
def State.collect (s : State) (b : BufferedStore) : State :=
  let u := { s with accel := s.accel ++ [b] }
  if 32 ≤ bufferedBytes u.accel then u.drain else u

/-- A store with its cache attribute: 7 joins the buffer, 2 first writes the buffer out; 3 reaches memory at
once, after the buffered stores if it shares a byte with one (20_memory.md rules R223 to R225, R231, R232; log
45). -/
def State.landStore (s : State) (cca : BitVec 3) (b : BufferedStore) : State :=
  if cca = 7 then s.collect b
  else if cca = 2 ∨ s.accel.any (fun c => c.overlaps b) then s.drain.storeBytes b.addr b.size b.value
  else s.storeBytes b.addr b.size b.value

/-- `MemWrite(pa, n, v)` at a translated address, with the bus error of a data access (60_exceptions.md rule
R944; log 2). -/
def State.memWrite (s : State) (t : Target) (n : Nat) (v : Dword) : Res State :=
  (s.checkPhys t.pa.toNat n true .dbe).bind fun _ => .ok (s.landStore t.cca ⟨t.pa.toNat, n, v⟩)

/-! ### Accesses at virtual addresses -/

/-- The target moved down to a multiple of `n`, a power of 2. -/
def Target.alignDown (t : Target) (n : Nat) : Target :=
  { t with pa := t.pa &&& ~~~(BitVec.ofNat 48 (n - 1)) }

/-- An address that is not a multiple of the access size raises Address Error (20_memory.md rule R184). -/
def aligned (va : Dword) (n : Nat) (store : Bool) : Res Unit :=
  if va.toNat % n = 0 then .ok () else .exc (.addressError store va)

/-- A load at a translated address: the value, and the state in which its page is remembered. -/
def State.loadAt (s : State) (t : Target) (n : Nat) : Res (Dword × State) :=
  (s.memRead t.pa n).bind fun v => .ok (v, s)

/-- `LoadVirt(va, n)` (20_memory.md rule R216): the value, and the state the instruction goes on from. -/
def State.loadVirt (s : State) (va : Dword) (n : Nat) : Res (Dword × State) :=
  (aligned va n false).bind fun _ => (s.reach va .load).bind fun p => p.2.loadAt p.1 n

/-- `StoreVirt(va, n, v)` (20_memory.md rule R216). -/
def State.storeVirt (s : State) (va : Dword) (n : Nat) (v : Dword) : Res State :=
  (aligned va n true).bind fun _ => (s.reach va .store).bind fun p => p.2.memWrite p.1 n v

/-- The aligned block of `n` bytes around an address, read without an alignment check: one translation,
for the address itself (40_loadstore.md rules R308, R309, R311, R314). The bus is asked for the whole block,
where rule R308 lets the hardware read only the bytes it uses: DESIGN CHOICE, log 70. -/
def State.loadAround (s : State) (va : Dword) (n : Nat) : Res (Dword × State) :=
  (s.reach va .load).bind fun p => p.2.loadAt (p.1.alignDown n) n

/-- The left part of a register stored at the low end of the aligned block of `n` bytes (40_loadstore.md
rules R318, R321). -/
def State.storeLeft (s : State) (va : Dword) (n : Nat) (v : Dword) : Res State :=
  (s.reach va .store).bind fun p =>
    let b := va.toNat % n
    p.2.memWrite (p.1.alignDown n) (b + 1) (v >>> (8 * (n - 1 - b)))

/-- The right part of a register stored at the high end of the aligned block of `n` bytes
(40_loadstore.md rules R319, R322). -/
def State.storeRight (s : State) (va : Dword) (n : Nat) (v : Dword) : Res State :=
  (s.reach va .store).bind fun p => p.2.memWrite p.1 (n - va.toNat % n) v

/-- The word of LWL: memory bytes join the kept low bytes (40_loadstore.md rule R308). -/
def mergeLeft (n : Nat) (va : Dword) (w old : Dword) : Dword :=
  let k := 8 * (n - 1 - va.toNat % n)
  mergeBits (fieldMask 64 0 k) (w <<< k) old

/-- The word of LWR: memory bytes join the kept high bytes (40_loadstore.md rule R309). -/
def mergeRight (n : Nat) (va : Dword) (w old : Dword) : Dword :=
  let b := va.toNat % n
  mergeBits (fieldMask 64 0 (8 * (n - b))) old (zextLow (8 * n) w >>> (8 * b))

/-- Records a load-linked access of `n` bytes (20_memory.md rules R241, R244). -/
def State.link (s : State) (pa : PhysAddr) (n : Nat) : State :=
  { s with
    llbit := true
    linked := some ⟨pa, n⟩
    cp0 := { s.cp0 with llAddr := (pa.setWidth 64) &&& 0x0000FFFFFFFFF000#64 } }

/-- A store-conditional must be cached and fit the last LL in address and size (20_memory.md rule R244; before
the first LL there is nothing to differ from, log 8). -/
def State.fitsLink (s : State) (t : Target) (n : Nat) : Res Unit :=
  if t.cca = 3 ∧ ∀ l ∈ s.linked, l = ⟨t.pa, n⟩ then .ok () else .refused .mismatchedStoreConditional

/-- The bus error of a data access whether or not it is performed (40_loadstore.md rule R323). -/
def State.busAnswers (s : State) (pa : PhysAddr) (n : Nat) : Res Unit :=
  if (s.physKinds pa.toNat n).contains (some .err) then .exc .dbe else .ok ()

/-- Whether a store-conditional succeeds: it needs LLbit, and it may always fail (20_memory.md rules
R242 to R244; log 8). -/
def State.scSucceeds (s : State) : Bool := s.llbit && (s.free Slot.scSuccess).getLsbD 0

/-- A load: an exception of the access of a load to register 0 may be silent (40_loadstore.md rule R301; log
28); `need64` and `needCop`, which come before the access, are not under this choice. -/
def finishLoad {α : Type} (rt : BitVec 5) (r : Res α) (s : State) (k : α → Out) : Out :=
  match r with
  | .exc e => if rt = 0 && !Config.loadToZeroRaises then .next s.advance else raise e s
  | .ok a => k a
  | .fault f => .fault f
  | .refused x => .refused x

/-- Every word overwritten so far counts as synchronised (20_memory.md rule R237; log 17). -/
def State.markSynced (s : State) : State :=
  { s with stale := s.stale.map (fun w => { w with synced := true }) }

/-- SYNC: the buffered stores reach memory, and every store so far is ordered (20_memory.md rules R225, R233,
R237; logs 17, 45). -/
def State.synchronise (s : State) : State := s.drain.markSynced

end Sys2Proof.Machine
end

