-- ==== Sys2Proof/Machine/LoadStore.lean ====
section
/-!
DEFINITION. Loads and stores (40_loadstore.md rules R300 to R326).
-/
namespace Sys2Proof.Machine

/-- A load of `n` bytes to a general register (40_loadstore.md rule R300). -/
def State.loadTo (s : State) (rt : BitVec 5) (va : Dword) (n : Nat) (ext : Dword → Dword) : Out :=
  finishLoad rt (s.loadVirt va n) s fun p => p.2.putGpr rt (ext p.1)

/-- A store of `n` bytes (40_loadstore.md rule R300). -/
def State.storeFrom (s : State) (va : Dword) (n : Nat) (v : Dword) : Out :=
  (s.storeVirt va n v).finish s fun t => .next t.advance

/-- The upper half of LWR's result when fewer than four bytes are loaded: the sign or the old bits
(40_loadstore.md rule R309; log 9). -/
def State.lwrValue (s : State) (va old m : Dword) : Dword :=
  if va.toNat % 4 = 0 then sextLow 32 m
  else if (s.free Slot.lwrHigh).getLsbD 0 then sextLow 32 m
  else mergeBits (fieldMask 64 0 32) old m

/-- LL and LLD (20_memory.md rule R241). -/
def State.loadLinked (s : State) (rt : BitVec 5) (va : Dword) (n : Nat) (ext : Dword → Dword) : Out :=
  finishLoad rt
    ((aligned va n false).bind fun _ => (s.reach va .load).bind fun p =>
      (p.2.loadAt p.1 n).bind fun q => .ok (q.1, q.2.link p.1.pa n))
    s fun p => p.2.putGpr rt (ext p.1)

/-- SC and SCD (20_memory.md rules R242 to R244, 40_loadstore.md rule R323): the exceptions, the bus error among
them, are raised whether or not LLbit is set; one that does not fit the last LL is refused; a success is never
certain (log 8). -/
def State.storeConditional (s : State) (rt : BitVec 5) (va : Dword) (n : Nat) : Out :=
  ((aligned va n true).bind fun _ => (s.reach va .store).bind fun p =>
    (s.fitsLink p.1 n).bind fun _ => (p.2.busAnswers p.1.pa n).bind fun _ =>
      if s.scSucceeds then p.2.memWrite p.1 n (s.readGpr rt) else .ok p.2).finish s
    fun t => (t.setLLbit false).putGpr rt (boolDword s.scSucceeds)

/-- LB (40_loadstore.md rule R302). -/
def execLb (base : BitVec 5) (rt : BitVec 5) (imm : BitVec 16) (s : State) : Out :=
  s.loadTo rt (s.ea base imm) 1 (sextLow 8)

/-- LBU (40_loadstore.md rule R303). -/
def execLbu (base : BitVec 5) (rt : BitVec 5) (imm : BitVec 16) (s : State) : Out :=
  s.loadTo rt (s.ea base imm) 1 (zextLow 8)

/-- LH (40_loadstore.md rule R304). -/
def execLh (base : BitVec 5) (rt : BitVec 5) (imm : BitVec 16) (s : State) : Out :=
  s.loadTo rt (s.ea base imm) 2 (sextLow 16)

/-- LHU (40_loadstore.md rule R305). -/
def execLhu (base : BitVec 5) (rt : BitVec 5) (imm : BitVec 16) (s : State) : Out :=
  s.loadTo rt (s.ea base imm) 2 (zextLow 16)

/-- LW (40_loadstore.md rule R306). -/
def execLw (base : BitVec 5) (rt : BitVec 5) (imm : BitVec 16) (s : State) : Out :=
  s.loadTo rt (s.ea base imm) 4 (sextLow 32)

/-- LWU (40_loadstore.md rule R307). -/
def execLwu (base : BitVec 5) (rt : BitVec 5) (imm : BitVec 16) (s : State) : Out :=
  need64 s (s.loadTo rt (s.ea base imm) 4 (zextLow 32))

/-- LWL (40_loadstore.md rule R308). -/
def execLwl (base : BitVec 5) (rt : BitVec 5) (imm : BitVec 16) (s : State) : Out :=
  let va := s.ea base imm
  finishLoad rt (s.loadAround va 4) s fun p =>
    p.2.putGpr rt (sextLow 32 (mergeLeft 4 va p.1 (s.readGpr rt)))

/-- LWR (40_loadstore.md rule R309). -/
def execLwr (base : BitVec 5) (rt : BitVec 5) (imm : BitVec 16) (s : State) : Out :=
  let va := s.ea base imm
  finishLoad rt (s.loadAround va 4) s fun p =>
    p.2.putGpr rt (s.lwrValue va (s.readGpr rt) (mergeRight 4 va p.1 (s.readGpr rt)))

/-- LD (40_loadstore.md rule R310). -/
def execLd (base : BitVec 5) (rt : BitVec 5) (imm : BitVec 16) (s : State) : Out :=
  need64 s (s.loadTo rt (s.ea base imm) 8 id)

/-- LDL (40_loadstore.md rule R311). -/
def execLdl (base : BitVec 5) (rt : BitVec 5) (imm : BitVec 16) (s : State) : Out :=
  let va := s.ea base imm
  need64 s (finishLoad rt (s.loadAround va 8) s fun p =>
    p.2.putGpr rt (mergeLeft 8 va p.1 (s.readGpr rt)))

/-- LDR (40_loadstore.md rule R314). -/
def execLdr (base : BitVec 5) (rt : BitVec 5) (imm : BitVec 16) (s : State) : Out :=
  let va := s.ea base imm
  need64 s (finishLoad rt (s.loadAround va 8) s fun p =>
    p.2.putGpr rt (mergeRight 8 va p.1 (s.readGpr rt)))

/-- LL (40_loadstore.md rule R312). -/
def execLl (base : BitVec 5) (rt : BitVec 5) (imm : BitVec 16) (s : State) : Out :=
  s.loadLinked rt (s.ea base imm) 4 (sextLow 32)

/-- LLD (40_loadstore.md rule R313). -/
def execLld (base : BitVec 5) (rt : BitVec 5) (imm : BitVec 16) (s : State) : Out :=
  need64 s (s.loadLinked rt (s.ea base imm) 8 id)

/-- SB (40_loadstore.md rule R315). -/
def execSb (base : BitVec 5) (rt : BitVec 5) (imm : BitVec 16) (s : State) : Out :=
  s.storeFrom (s.ea base imm) 1 (s.readGpr rt)

/-- SH (40_loadstore.md rule R316). -/
def execSh (base : BitVec 5) (rt : BitVec 5) (imm : BitVec 16) (s : State) : Out :=
  s.storeFrom (s.ea base imm) 2 (s.readGpr rt)

/-- SW (40_loadstore.md rule R317). -/
def execSw (base : BitVec 5) (rt : BitVec 5) (imm : BitVec 16) (s : State) : Out :=
  s.storeFrom (s.ea base imm) 4 (s.readGpr rt)

/-- SWL (40_loadstore.md rule R318). -/
def execSwl (base : BitVec 5) (rt : BitVec 5) (imm : BitVec 16) (s : State) : Out :=
  (s.storeLeft (s.ea base imm) 4 (zextLow 32 (s.readGpr rt))).finish s fun t => .next t.advance

/-- SWR (40_loadstore.md rule R319). -/
def execSwr (base : BitVec 5) (rt : BitVec 5) (imm : BitVec 16) (s : State) : Out :=
  (s.storeRight (s.ea base imm) 4 (s.readGpr rt)).finish s fun t => .next t.advance

/-- SD (40_loadstore.md rule R320). -/
def execSd (base : BitVec 5) (rt : BitVec 5) (imm : BitVec 16) (s : State) : Out :=
  need64 s (s.storeFrom (s.ea base imm) 8 (s.readGpr rt))

/-- SDL (40_loadstore.md rule R321). -/
def execSdl (base : BitVec 5) (rt : BitVec 5) (imm : BitVec 16) (s : State) : Out :=
  need64 s ((s.storeLeft (s.ea base imm) 8 (s.readGpr rt)).finish s fun t => .next t.advance)

/-- SDR (40_loadstore.md rule R322). -/
def execSdr (base : BitVec 5) (rt : BitVec 5) (imm : BitVec 16) (s : State) : Out :=
  need64 s ((s.storeRight (s.ea base imm) 8 (s.readGpr rt)).finish s fun t => .next t.advance)

/-- SC (40_loadstore.md rule R323). -/
def execSc (base : BitVec 5) (rt : BitVec 5) (imm : BitVec 16) (s : State) : Out :=
  s.storeConditional rt (s.ea base imm) 4

/-- SCD (40_loadstore.md rule R324). -/
def execScd (base : BitVec 5) (rt : BitVec 5) (imm : BitVec 16) (s : State) : Out :=
  need64 s (s.storeConditional rt (s.ea base imm) 8)

/-- PREF (40_loadstore.md rule R325): a NOP, whatever the hint (30_encoding.md rule R282). -/
def execPref (_base : BitVec 5) (_hint : BitVec 5) (_imm : BitVec 16) (s : State) : Out := .next s.advance

/-- PREFX (40_loadstore.md rule R326): a NOP (log 24). -/
def execPrefx (_base : BitVec 5) (_index : BitVec 5) (_hint : BitVec 5) (s : State) : Out :=
  if s.copUsable 1 || !Config.prefxRaisesCpU then .next s.advance else raise (.cpU 1) s

end Sys2Proof.Machine
end

