-- ==== Sys2Proof/Machine/CustomMem.lean ====
section
/-!
DEFINITION. Custom memory instructions on general registers (47_custom_int.md rules R600 to R634).
-/
namespace Sys2Proof.Machine

/-- The upper-bound comparison, signed or unsigned by choice (47_custom_int.md rule R633; log 27). -/
def boundLe (a b : Dword) : Bool := if Config.boundSigned then a.sle b else a.ule b

/-- A bound check before an access (47_custom_int.md rule R633). -/
def checkBound (ok store : Bool) : Res Unit := if ok then .ok () else .exc (.boundError store)

/-- A bound-checked load to a general register (47_custom_int.md rules R602, R633). The Address Error of a failed
check counts as an exception of the access: to register 0 it may be silent, by the same choice as the others
(DESIGN CHOICE, logs 28, 58). -/
def State.loadBound (s : State) (rt : BitVec 5) (va : Dword) (n : Nat) (ok : Bool) (ext : Dword → Dword) : Out :=
  finishLoad rt ((checkBound ok false).bind fun _ => s.loadVirt va n) s fun p => p.2.putGpr rt (ext p.1)

/-- A bound-checked store (47_custom_int.md rules R602, R633). -/
def State.storeBound (s : State) (va : Dword) (n : Nat) (ok : Bool) (v : Dword) : Out :=
  ((checkBound ok true).bind fun _ => s.storeVirt va n v).finish s fun t => .next t.advance

/-- The alignment of a quad access; 8 modulo 16 by choice (47_custom_int.md rule R612; log 25). -/
def alignedQuad (va : Dword) (store : Bool) : Res Unit :=
  if va.toNat % 16 = 0 || (va.toNat % 8 = 0 && !Config.quadHalfAlignedRaises) then .ok ()
  else .exc (.addressError store va)

/-- The two doublewords of a quad load, the low address first (47_custom_int.md rule R615). -/
def State.loadQuad (s : State) (va : Dword) : Res ((Dword × Dword) × State) :=
  (alignedQuad va false).bind fun _ =>
    (s.loadVirt va 8).bind fun p => (p.2.loadVirt (va + 8) 8).bind fun q => .ok ((p.1, q.1), q.2)

/-- A quad store: no byte is written if either half raises (47_custom_int.md rule R628). -/
def State.storeQuad (s : State) (va : Dword) (lo hi : Dword) : Res State :=
  (alignedQuad va true).bind fun _ =>
    (s.reach va .store).bind fun p => (p.2.reach (va + 8) .store).bind fun q =>
      (q.2.checkPhys p.1.pa.toNat 8 true .dbe).bind fun _ =>
        (q.2.checkPhys q.1.pa.toNat 8 true .dbe).bind fun _ =>
          (q.2.memWrite p.1 8 lo).bind fun u => u.memWrite q.1 8 hi

/-- What a register named twice by a quad load holds: one of the two values (47_custom_int.md rule R615;
log 10). -/
def State.quadPick (s : State) (lo hi : Dword) : Dword := if (s.free Slot.quad).getLsbD 0 then hi else lo

/-- GSLE (47_custom_int.md rule R604). -/
def execGsle (rs : BitVec 5) (rt : BitVec 5) (s : State) : Out :=
  needCop 2 s (if boundLe (s.readGpr rs) (s.readGpr rt) then raise (.boundError false) s else .next s.advance)

/-- GSGT (47_custom_int.md rule R605). -/
def execGsgt (rs : BitVec 5) (rt : BitVec 5) (s : State) : Out :=
  needCop 2 s (if boundLe (s.readGpr rs) (s.readGpr rt) then .next s.advance else raise (.boundError false) s)

/-- GSLBLE (47_custom_int.md rule R606). -/
def execGslble (base : BitVec 5) (rt : BitVec 5) (rd : BitVec 5) (s : State) : Out :=
  needCop 2 s (s.loadBound rt (s.readGpr base) 1 (boundLe (s.readGpr base) (s.readGpr rd)) (sextLow 8))

/-- GSLBGT (47_custom_int.md rule R607). -/
def execGslbgt (base : BitVec 5) (rt : BitVec 5) (rd : BitVec 5) (s : State) : Out :=
  needCop 2 s (s.loadBound rt (s.readGpr base) 1 (!(boundLe (s.readGpr base) (s.readGpr rd))) (sextLow 8))

/-- GSLHLE (47_custom_int.md rule R608). -/
def execGslhle (base : BitVec 5) (rt : BitVec 5) (rd : BitVec 5) (s : State) : Out :=
  needCop 2 s (s.loadBound rt (s.readGpr base) 2 (boundLe (s.readGpr base) (s.readGpr rd)) (sextLow 16))

/-- GSLHGT (47_custom_int.md rule R609). -/
def execGslhgt (base : BitVec 5) (rt : BitVec 5) (rd : BitVec 5) (s : State) : Out :=
  needCop 2 s (s.loadBound rt (s.readGpr base) 2 (!(boundLe (s.readGpr base) (s.readGpr rd))) (sextLow 16))

/-- GSLWLE (47_custom_int.md rule R610). -/
def execGslwle (base : BitVec 5) (rt : BitVec 5) (rd : BitVec 5) (s : State) : Out :=
  needCop 2 s (s.loadBound rt (s.readGpr base) 4 (boundLe (s.readGpr base) (s.readGpr rd)) (sextLow 32))

/-- GSLWGT (47_custom_int.md rule R611). -/
def execGslwgt (base : BitVec 5) (rt : BitVec 5) (rd : BitVec 5) (s : State) : Out :=
  needCop 2 s (s.loadBound rt (s.readGpr base) 4 (!(boundLe (s.readGpr base) (s.readGpr rd))) (sextLow 32))

/-- GSLDLE (47_custom_int.md rule R613). -/
def execGsldle (base : BitVec 5) (rt : BitVec 5) (rd : BitVec 5) (s : State) : Out :=
  needCop 2 s (need64 s (s.loadBound rt (s.readGpr base) 8 (boundLe (s.readGpr base) (s.readGpr rd)) id))

/-- GSLDGT (47_custom_int.md rule R614). -/
def execGsldgt (base : BitVec 5) (rt : BitVec 5) (rd : BitVec 5) (s : State) : Out :=
  needCop 2 s (need64 s (s.loadBound rt (s.readGpr base) 8 (!(boundLe (s.readGpr base) (s.readGpr rd))) id))

/-- GSLQ (47_custom_int.md rule R615). -/
def execGslq (base : BitVec 5) (rt : BitVec 5) (off : BitVec 9) (rq : BitVec 5) (s : State) : Out :=
  needCop 2 s (need64 s (finishLoad (rt ||| rq) (s.loadQuad (s.ea9 base off)) s fun p =>
    if rt = rq then p.2.putGpr rt (s.quadPick p.1.1 p.1.2)
    else (p.2.writeGpr rt p.1.1).putGpr rq p.1.2))

/-- GSLBX (47_custom_int.md rule R616). -/
def execGslbx (base : BitVec 5) (rt : BitVec 5) (index : BitVec 5) (off : BitVec 8) (s : State) : Out :=
  needCop 2 s (s.loadTo rt (s.eaIndexed8 base index off) 1 (sextLow 8))

/-- GSLHX (47_custom_int.md rule R617). -/
def execGslhx (base : BitVec 5) (rt : BitVec 5) (index : BitVec 5) (off : BitVec 8) (s : State) : Out :=
  needCop 2 s (s.loadTo rt (s.eaIndexed8 base index off) 2 (sextLow 16))

/-- GSLWX (47_custom_int.md rule R618). -/
def execGslwx (base : BitVec 5) (rt : BitVec 5) (index : BitVec 5) (off : BitVec 8) (s : State) : Out :=
  needCop 2 s (s.loadTo rt (s.eaIndexed8 base index off) 4 (sextLow 32))

/-- GSLDX (47_custom_int.md rule R619). -/
def execGsldx (base : BitVec 5) (rt : BitVec 5) (index : BitVec 5) (off : BitVec 8) (s : State) : Out :=
  needCop 2 s (need64 s (s.loadTo rt (s.eaIndexed8 base index off) 8 id))

/-- GSSBLE (47_custom_int.md rule R620). -/
def execGssble (base : BitVec 5) (rt : BitVec 5) (rd : BitVec 5) (s : State) : Out :=
  needCop 2 s (s.storeBound (s.readGpr base) 1 (boundLe (s.readGpr base) (s.readGpr rd)) (s.readGpr rt))

/-- GSSBGT (47_custom_int.md rule R621). -/
def execGssbgt (base : BitVec 5) (rt : BitVec 5) (rd : BitVec 5) (s : State) : Out :=
  needCop 2 s (s.storeBound (s.readGpr base) 1 (!(boundLe (s.readGpr base) (s.readGpr rd))) (s.readGpr rt))

/-- GSSHLE (47_custom_int.md rule R622). -/
def execGsshle (base : BitVec 5) (rt : BitVec 5) (rd : BitVec 5) (s : State) : Out :=
  needCop 2 s (s.storeBound (s.readGpr base) 2 (boundLe (s.readGpr base) (s.readGpr rd)) (s.readGpr rt))

/-- GSSHGT (47_custom_int.md rule R623). -/
def execGsshgt (base : BitVec 5) (rt : BitVec 5) (rd : BitVec 5) (s : State) : Out :=
  needCop 2 s (s.storeBound (s.readGpr base) 2 (!(boundLe (s.readGpr base) (s.readGpr rd))) (s.readGpr rt))

/-- GSSWLE (47_custom_int.md rule R624). -/
def execGsswle (base : BitVec 5) (rt : BitVec 5) (rd : BitVec 5) (s : State) : Out :=
  needCop 2 s (s.storeBound (s.readGpr base) 4 (boundLe (s.readGpr base) (s.readGpr rd)) (s.readGpr rt))

/-- GSSWGT (47_custom_int.md rule R625). -/
def execGsswgt (base : BitVec 5) (rt : BitVec 5) (rd : BitVec 5) (s : State) : Out :=
  needCop 2 s (s.storeBound (s.readGpr base) 4 (!(boundLe (s.readGpr base) (s.readGpr rd))) (s.readGpr rt))

/-- GSSDLE (47_custom_int.md rule R626). -/
def execGssdle (base : BitVec 5) (rt : BitVec 5) (rd : BitVec 5) (s : State) : Out :=
  needCop 2 s (need64 s (s.storeBound (s.readGpr base) 8 (boundLe (s.readGpr base) (s.readGpr rd)) (s.readGpr rt)))

/-- GSSDGT (47_custom_int.md rule R627). -/
def execGssdgt (base : BitVec 5) (rt : BitVec 5) (rd : BitVec 5) (s : State) : Out :=
  needCop 2 s (need64 s (s.storeBound (s.readGpr base) 8 (!(boundLe (s.readGpr base) (s.readGpr rd))) (s.readGpr rt)))

/-- GSSQ (47_custom_int.md rule R628). -/
def execGssq (base : BitVec 5) (rt : BitVec 5) (off : BitVec 9) (rq : BitVec 5) (s : State) : Out :=
  needCop 2 s (need64 s ((s.storeQuad (s.ea9 base off) (s.readGpr rt) (s.readGpr rq)).finish s
    fun t => .next t.advance))

/-- GSSBX (47_custom_int.md rule R629). -/
def execGssbx (base : BitVec 5) (rt : BitVec 5) (index : BitVec 5) (off : BitVec 8) (s : State) : Out :=
  needCop 2 s (s.storeFrom (s.eaIndexed8 base index off) 1 (s.readGpr rt))

/-- GSSHX (47_custom_int.md rule R630). -/
def execGsshx (base : BitVec 5) (rt : BitVec 5) (index : BitVec 5) (off : BitVec 8) (s : State) : Out :=
  needCop 2 s (s.storeFrom (s.eaIndexed8 base index off) 2 (s.readGpr rt))

/-- GSSWX (47_custom_int.md rule R631). -/
def execGsswx (base : BitVec 5) (rt : BitVec 5) (index : BitVec 5) (off : BitVec 8) (s : State) : Out :=
  needCop 2 s (s.storeFrom (s.eaIndexed8 base index off) 4 (s.readGpr rt))

/-- GSSDX (47_custom_int.md rule R632). -/
def execGssdx (base : BitVec 5) (rt : BitVec 5) (index : BitVec 5) (off : BitVec 8) (s : State) : Out :=
  needCop 2 s (need64 s (s.storeFrom (s.eaIndexed8 base index off) 8 (s.readGpr rt)))

end Sys2Proof.Machine
end

