-- ==== Sys2Proof/Machine/MulDiv.lean ====
section
/-!
DEFINITION. Multiply and divide with HI and LO (42_muldiv.md rules R400 to R419).
-/
namespace Sys2Proof.Machine

/-- A 64-bit result as HI and LO of sign-extended words (42_muldiv.md rule R404); an operand that is not a
sign-extended word leaves both open (rule R402; log 5). -/
def State.putHiLoWords (s : State) (ok : Bool) (p : Dword) : Out :=
  .next ((if ok then s.writeHiLo (sextWord (highWord p)) (sextWord (lowWord p))
    else s.writeHiLo (s.free Slot.result2) (s.free Slot.result)).advance)

/-- A 128-bit product as HI and LO (42_muldiv.md rule R405). -/
def State.putHiLo (s : State) (p : BitVec 128) : Out :=
  .next (s.writeHiLo (p.extractLsb' 64 64) (p.setWidth 64)).advance

/-- Quotient to LO and remainder to HI; both open where the division has no stated result
(42_muldiv.md rule R402; log 7). -/
def State.putDivision (s : State) (ok : Bool) (r q : Dword) : Out :=
  .next ((if ok then s.writeHiLo r q
    else s.writeHiLo (s.free Slot.result2) (s.free Slot.result)).advance)

/-- The accumulator HI[31:0] || LO[31:0] (42_muldiv.md rule R408). -/
def State.accumulator (s : State) : Dword := (lowWord s.hi ++ lowWord s.lo : BitVec 64)

/-- The signed product of two words (42_muldiv.md rule R404). -/
def State.productWords (s : State) (i j : BitVec 5) : Dword :=
  BitVec.ofInt 64 ((s.gprWord i).toInt * (s.gprWord j).toInt)

/-- The unsigned product of two words (42_muldiv.md rule R406). -/
def State.productWordsU (s : State) (i j : BitVec 5) : Dword :=
  BitVec.ofNat 64 ((s.gprWord i).toNat * (s.gprWord j).toNat)

/-- A signed division has a stated result: the divisor is not 0 and the quotient fits
(42_muldiv.md rule R402). -/
def divides (w : Nat) (a b : Int) : Bool := b != 0 && !(a == -(2 ^ (w - 1) : Int) && b == -1)

/-- MUL (42_muldiv.md rule R403): HI and LO take any value (rule R402; log 7). -/
def execMul (rs : BitVec 5) (rt : BitVec 5) (rd : BitVec 5) (s : State) : Out :=
  let ok := s.wordValues rs rt
  .next ((s.writeGpr rd (s.wordResult ok (lowWord (s.productWords rs rt)))).writeHiLo
    (s.free Slot.result2) (s.free Slot.result3)).advance

/-- MULT (42_muldiv.md rule R404). -/
def execMult (rs : BitVec 5) (rt : BitVec 5) (s : State) : Out :=
  s.putHiLoWords (s.wordValues rs rt) (s.productWords rs rt)

/-- DMULT (42_muldiv.md rule R405). -/
def execDmult (rs : BitVec 5) (rt : BitVec 5) (s : State) : Out :=
  need64 s (s.putHiLo (BitVec.ofInt 128 ((s.readGpr rs).toInt * (s.readGpr rt).toInt)))

/-- MULTU (42_muldiv.md rule R406). -/
def execMultu (rs : BitVec 5) (rt : BitVec 5) (s : State) : Out :=
  s.putHiLoWords (s.wordValues rs rt) (s.productWordsU rs rt)

/-- DMULTU (42_muldiv.md rule R407). -/
def execDmultu (rs : BitVec 5) (rt : BitVec 5) (s : State) : Out :=
  need64 s (s.putHiLo (BitVec.ofNat 128 ((s.readGpr rs).toNat * (s.readGpr rt).toNat)))

/-- MADD (42_muldiv.md rule R408). -/
def execMadd (rs : BitVec 5) (rt : BitVec 5) (s : State) : Out :=
  s.putHiLoWords (s.wordValues rs rt) (s.accumulator + s.productWords rs rt)

/-- MADDU (42_muldiv.md rule R409). -/
def execMaddu (rs : BitVec 5) (rt : BitVec 5) (s : State) : Out :=
  s.putHiLoWords (s.wordValues rs rt) (s.accumulator + s.productWordsU rs rt)

/-- MSUB (42_muldiv.md rule R410). -/
def execMsub (rs : BitVec 5) (rt : BitVec 5) (s : State) : Out :=
  s.putHiLoWords (s.wordValues rs rt) (s.accumulator - s.productWords rs rt)

/-- MSUBU (42_muldiv.md rule R411). -/
def execMsubu (rs : BitVec 5) (rt : BitVec 5) (s : State) : Out :=
  s.putHiLoWords (s.wordValues rs rt) (s.accumulator - s.productWordsU rs rt)

/-- DIV (42_muldiv.md rule R412). -/
def execDiv (rs : BitVec 5) (rt : BitVec 5) (s : State) : Out :=
  let a := (s.gprWord rs).toInt
  let b := (s.gprWord rt).toInt
  s.putDivision (s.wordValues rs rt && divides 32 a b)
    (BitVec.ofInt 64 (a.tmod b)) (BitVec.ofInt 64 (a.tdiv b))

/-- DDIV (42_muldiv.md rule R413). -/
def execDdiv (rs : BitVec 5) (rt : BitVec 5) (s : State) : Out :=
  let a := (s.readGpr rs).toInt
  let b := (s.readGpr rt).toInt
  need64 s (s.putDivision (divides 64 a b) (BitVec.ofInt 64 (a.tmod b)) (BitVec.ofInt 64 (a.tdiv b)))

/-- DIVU (42_muldiv.md rule R414). -/
def execDivu (rs : BitVec 5) (rt : BitVec 5) (s : State) : Out :=
  let a := s.gprWord rs
  let b := s.gprWord rt
  s.putDivision (s.wordValues rs rt && b != 0) (sextWord (a % b)) (sextWord (a / b))

/-- DDIVU (42_muldiv.md rule R415). -/
def execDdivu (rs : BitVec 5) (rt : BitVec 5) (s : State) : Out :=
  let a := s.readGpr rs
  let b := s.readGpr rt
  need64 s (s.putDivision (b != 0) (a % b) (a / b))

/-- MFHI (42_muldiv.md rule R416). -/
def execMfhi (rd : BitVec 5) (s : State) : Out := s.putGpr rd s.hi

/-- MTHI (42_muldiv.md rule R417). -/
def execMthi (rs : BitVec 5) (s : State) : Out := .next (s.writeHiLo (s.readGpr rs) s.lo).advance

/-- MFLO (42_muldiv.md rule R418). -/
def execMflo (rd : BitVec 5) (s : State) : Out := s.putGpr rd s.lo

/-- MTLO (42_muldiv.md rule R419). -/
def execMtlo (rs : BitVec 5) (s : State) : Out := .next (s.writeHiLo s.hi (s.readGpr rs)).advance

end Sys2Proof.Machine
end

