-- ==== Sys2Proof/Machine/CustomMulDiv.lean ====
section
/-!
DEFINITION. Multiply and divide that write one general register (47_custom_int.md rules R580 to R593).
-/
namespace Sys2Proof.Machine

/-- A quotient or remainder written to one register; open where the division has no stated result
(47_custom_int.md rule R592; log 7). -/
def State.putQuotient (s : State) (rd : BitVec 5) (ok : Bool) (v : Dword) : Out :=
  s.putGpr rd (if ok then v else s.free Slot.result)

/-- GSMULT (47_custom_int.md rule R580). -/
def execGsmult (rs : BitVec 5) (rt : BitVec 5) (rd : BitVec 5) (s : State) : Out :=
  s.putGpr rd (s.wordResult (s.wordValues rs rt) (lowWord (s.productWords rs rt)))

/-- GSDMULT (47_custom_int.md rule R581). -/
def execGsdmult (rs : BitVec 5) (rt : BitVec 5) (rd : BitVec 5) (s : State) : Out :=
  need64 s (s.putGpr rd (BitVec.ofInt 64 ((s.readGpr rs).toInt * (s.readGpr rt).toInt)))

/-- GSMULTU (47_custom_int.md rule R582). -/
def execGsmultu (rs : BitVec 5) (rt : BitVec 5) (rd : BitVec 5) (s : State) : Out :=
  s.putGpr rd (s.wordResult (s.wordValues rs rt) (lowWord (s.productWordsU rs rt)))

/-- GSDMULTU (47_custom_int.md rule R583). -/
def execGsdmultu (rs : BitVec 5) (rt : BitVec 5) (rd : BitVec 5) (s : State) : Out :=
  need64 s (s.putGpr rd (s.readGpr rs * s.readGpr rt))

/-- GSDIV (47_custom_int.md rule R584). -/
def execGsdiv (rs : BitVec 5) (rt : BitVec 5) (rd : BitVec 5) (s : State) : Out :=
  let a := (s.gprWord rs).toInt
  let b := (s.gprWord rt).toInt
  s.putQuotient rd (s.wordValues rs rt && divides 32 a b) (BitVec.ofInt 64 (a.tdiv b))

/-- GSDDIV (47_custom_int.md rule R585). -/
def execGsddiv (rs : BitVec 5) (rt : BitVec 5) (rd : BitVec 5) (s : State) : Out :=
  let a := (s.readGpr rs).toInt
  let b := (s.readGpr rt).toInt
  need64 s (s.putQuotient rd (divides 64 a b) (BitVec.ofInt 64 (a.tdiv b)))

/-- GSDIVU (47_custom_int.md rule R586). -/
def execGsdivu (rs : BitVec 5) (rt : BitVec 5) (rd : BitVec 5) (s : State) : Out :=
  let a := s.gprWord rs
  let b := s.gprWord rt
  s.putQuotient rd (s.wordValues rs rt && b != 0) (sextWord (a / b))

/-- GSDDIVU (47_custom_int.md rule R587). -/
def execGsddivu (rs : BitVec 5) (rt : BitVec 5) (rd : BitVec 5) (s : State) : Out :=
  let a := s.readGpr rs
  let b := s.readGpr rt
  need64 s (s.putQuotient rd (b != 0) (a / b))

/-- GSMOD (47_custom_int.md rule R588). -/
def execGsmod (rs : BitVec 5) (rt : BitVec 5) (rd : BitVec 5) (s : State) : Out :=
  let a := (s.gprWord rs).toInt
  let b := (s.gprWord rt).toInt
  s.putQuotient rd (s.wordValues rs rt && divides 32 a b) (BitVec.ofInt 64 (a.tmod b))

/-- GSDMOD (47_custom_int.md rule R589). -/
def execGsdmod (rs : BitVec 5) (rt : BitVec 5) (rd : BitVec 5) (s : State) : Out :=
  let a := (s.readGpr rs).toInt
  let b := (s.readGpr rt).toInt
  need64 s (s.putQuotient rd (divides 64 a b) (BitVec.ofInt 64 (a.tmod b)))

/-- GSMODU (47_custom_int.md rule R590). -/
def execGsmodu (rs : BitVec 5) (rt : BitVec 5) (rd : BitVec 5) (s : State) : Out :=
  let a := s.gprWord rs
  let b := s.gprWord rt
  s.putQuotient rd (s.wordValues rs rt && b != 0) (sextWord (a % b))

/-- GSDMODU (47_custom_int.md rule R591). -/
def execGsdmodu (rs : BitVec 5) (rt : BitVec 5) (rd : BitVec 5) (s : State) : Out :=
  let a := s.readGpr rs
  let b := s.readGpr rt
  need64 s (s.putQuotient rd (b != 0) (a % b))

end Sys2Proof.Machine
end

