-- ==== Sys2Proof/Machine/Float.lean ====
section
/-!
DEFINITION. Floating-point numbers: formats, exact arithmetic, rounding, and the exception procedure
(49_fpu.md rules R800 to R811, R848, R888; 10_state.md rules R46 to R48, R57, R58).
-/
namespace Sys2Proof.Machine

/-! ### Formats (49_fpu.md rules R801, R802) -/

/-- A binary floating-point format: the widths of its exponent and of its fraction. -/
structure Fmt where
  expBits : Nat
  fracBits : Nat
  deriving DecidableEq, Repr

/-- Single. -/
def Fmt.single : Fmt := ⟨8, 23⟩

/-- Double. -/
def Fmt.double : Fmt := ⟨11, 52⟩

/-- The exponent bias. -/
def Fmt.bias (f : Fmt) : Int := (2 : Int) ^ (f.expBits - 1) - 1

/-- Bits of the significand, the hidden bit included. -/
def Fmt.precision (f : Fmt) : Nat := f.fracBits + 1

/-- The biased exponent of a bit pattern. -/
def Fmt.expField (f : Fmt) (v : Nat) : Nat := v / 2 ^ f.fracBits % 2 ^ f.expBits

/-- The fraction of a bit pattern. -/
def Fmt.fracField (f : Fmt) (v : Nat) : Nat := v % 2 ^ f.fracBits

/-- The sign of a bit pattern. -/
def Fmt.sign (f : Fmt) (v : Nat) : Bool := v.testBit (f.expBits + f.fracBits)

/-- A bit pattern from its fields. -/
def Fmt.pack (f : Fmt) (neg : Bool) (e frac : Nat) : Nat :=
  neg.toNat * 2 ^ (f.expBits + f.fracBits) + e * 2 ^ f.fracBits + frac

/-- A NaN. -/
def Fmt.isNan (f : Fmt) (v : Nat) : Bool := f.expField v == 2 ^ f.expBits - 1 && f.fracField v != 0

/-- A signaling NaN has the top bit of its fraction set (49_fpu.md rule R802). -/
def Fmt.isSignaling (f : Fmt) (v : Nat) : Bool := f.isNan v && v.testBit (f.fracBits - 1)

/-- A quiet NaN has it clear. -/
def Fmt.isQuiet (f : Fmt) (v : Nat) : Bool := f.isNan v && !v.testBit (f.fracBits - 1)

/-- A denormalised number. -/
def Fmt.isDenormal (f : Fmt) (v : Nat) : Bool := f.expField v == 0 && f.fracField v != 0

/-- The default quiet NaN: 0x7FBFFFFF or 0x7FF7FFFFFFFFFFFF (49_fpu.md rule R802). -/
def Fmt.quietNan (f : Fmt) : Nat := f.pack false (2 ^ f.expBits - 1) (2 ^ (f.fracBits - 1) - 1)

/-- An infinity. -/
def Fmt.infinity (f : Fmt) (neg : Bool) : Nat := f.pack neg (2 ^ f.expBits - 1) 0

/-- The largest finite number. -/
def Fmt.largest (f : Fmt) (neg : Bool) : Nat := f.pack neg (2 ^ f.expBits - 2) (2 ^ f.fracBits - 1)

/-- The smallest normal number. -/
def Fmt.smallestNormal (f : Fmt) (neg : Bool) : Nat := f.pack neg 1 0

/-- A zero. -/
def Fmt.zero (f : Fmt) (neg : Bool) : Nat := f.pack neg 0 0

/-- A number that is no NaN: an infinity, or `m * 2^e` with a sign. -/
inductive Num where
  | inf (neg : Bool)
  | fin (neg : Bool) (m : Nat) (e : Int)
  deriving DecidableEq, Repr

/-- The number a bit pattern stands for; a NaN is screened before (49_fpu.md rule R801). -/
def Fmt.toNum (f : Fmt) (v : Nat) : Num :=
  let e := f.expField v
  if e = 2 ^ f.expBits - 1 then .inf (f.sign v)
  else if e = 0 then .fin (f.sign v) (f.fracField v) (1 - f.bias - f.fracBits)
  else .fin (f.sign v) (2 ^ f.fracBits + f.fracField v) (e - f.bias - f.fracBits)

/-- The sign of a number. -/
def Num.neg : Num → Bool
  | .inf n => n
  | .fin n _ _ => n

/-- The number with its sign changed. -/
def Num.negate : Num → Num
  | .inf n => .inf (!n)
  | .fin n m e => .fin (!n) m e

/-- The number is a zero. -/
def Num.isZero : Num → Bool
  | .inf _ => false
  | .fin _ m _ => m == 0

/-! ### Rounding (10_state.md rule R58) -/

/-- A rounding mode. -/
inductive Rounding where
  | nearest
  | zero
  | up
  | down
  deriving DecidableEq, Repr

/-- The mode FCSR.RM selects. -/
def Rounding.ofBits (b : BitVec 2) : Rounding :=
  if b = 0 then .nearest else if b = 1 then .zero else if b = 2 then .up else .down

/-- Whether the magnitude is rounded away from zero: `q` is the truncated magnitude, `r` of `2^k` what it
leaves, `sticky` says that still more is left. -/
def Rounding.away (rm : Rounding) (neg : Bool) (q r k : Nat) (sticky : Bool) : Bool :=
  match rm with
  | .nearest => decide (2 ^ k < 2 * r) || (2 * r == 2 ^ k && (sticky || q.testBit 0))
  | .zero => false
  | .up => !neg && (r != 0 || sticky)
  | .down => neg && (r != 0 || sticky)

/-- The conditions of FCSR.Cause in its order E V Z O U I. -/
abbrev Conds := BitVec 6

/-- Unimplemented Operation. -/
def condE : Conds := 32
/-- Invalid Operation. -/
def condV : Conds := 16
/-- Divide by Zero. -/
def condZ : Conds := 8
/-- Overflow. -/
def condO : Conds := 4
/-- Underflow. -/
def condU : Conds := 2
/-- Inexact. -/
def condI : Conds := 1

/-- What an operation gives: the conditions it signals and the bits of its result. -/
structure FpOut where
  conds : Conds
  bits : Nat
  deriving DecidableEq, Repr

/-- What a result depends on beside the operands: the mode, and whether a tiny result is flushed. -/
structure FpEnv where
  rounding : Rounding
  flush : Bool
  deriving DecidableEq, Repr

/-- Inexact, if it is. -/
def inexact (b : Bool) : Conds := if b then condI else 0

/-- Overflow (49_fpu.md rules R806, R809). -/
def Fmt.overflow (f : Fmt) (rm : Rounding) (neg : Bool) : FpOut :=
  let toInfinity := match rm with
    | .nearest => true
    | .zero => false
    | .up => !neg
    | .down => neg
  ⟨condO ||| condI, if toInfinity then f.infinity neg else f.largest neg⟩

/-- A tiny result: Unimplemented Operation, or the flush of 49_fpu.md rules R806 and R807 (c). -/
def Fmt.tiny (f : Fmt) (env : FpEnv) (neg : Bool) : FpOut :=
  if env.flush then
    ⟨condU ||| condI, match env.rounding with
      | .nearest => f.zero neg
      | .zero => f.zero neg
      | .up => if neg then f.zero true else f.smallestNormal false
      | .down => if neg then f.smallestNormal true else f.zero false⟩
  else ⟨condE, 0⟩

/-- The result for a significand of full precision: the tests for a tiny and for a too large number come
after rounding with unbounded exponent (49_fpu.md rules R807, R809). -/
def Fmt.finish (f : Fmt) (env : FpEnv) (neg : Bool) (sig : Nat) (e : Int) (c : Conds) : FpOut :=
  let biased := e + f.fracBits + f.bias
  if biased < 1 then f.tiny env neg
  else if (2 : Int) ^ f.expBits - 1 ≤ biased then f.overflow env.rounding neg
  else ⟨c, f.pack neg biased.toNat (sig - 2 ^ f.fracBits)⟩

/-- A magnitude `m * 2^e` cut to full precision: the significand, its exponent, the rest and its width. -/
def Fmt.truncate (f : Fmt) (m : Nat) (e : Int) : Nat × Int × Nat × Nat :=
  let len := Nat.log2 m + 1
  if len ≤ f.precision then (m * 2 ^ (f.precision - len), e - (f.precision - len : Nat), 0, 0)
  else
    let k := len - f.precision
    (m / 2 ^ k, e + k, m % 2 ^ k, k)

/-- The significand `n` steps further from zero, in the same or a neighbouring binade. -/
def Fmt.stepBy (f : Fmt) (sig : Nat) (e : Int) (n : Int) : Nat × Int :=
  let t := sig + n
  if (2 : Int) ^ f.precision ≤ t then ((t - 2 ^ f.precision + 2 ^ f.fracBits).toNat, e + 1)
  else if t < 2 ^ f.fracBits then ((2 ^ f.precision - (2 ^ f.fracBits - t)).toNat, e - 1)
  else (t.toNat, e)

/-- `round` of a magnitude that is `m * 2^e`, or, with `sticky`, lies strictly between that and
`(m + 1) * 2^e`; a sticky magnitude carries at least two bits more than the precision
(49_fpu.md rules R804, R888). -/
def Fmt.roundMag (f : Fmt) (env : FpEnv) (neg : Bool) (m : Nat) (e : Int) (sticky : Bool) : FpOut :=
  if m = 0 then ⟨0, f.zero neg⟩
  else
    let t := f.truncate m e
    let c := inexact (t.2.2.1 != 0 || sticky)
    let r := f.stepBy t.1 t.2.1
      (if env.rounding.away neg t.1 t.2.2.1 t.2.2.2 sticky then 1 else 0)
    f.finish env neg r.1 r.2 c

/-- `round` of an exact number. -/
def Fmt.round (f : Fmt) (env : FpEnv) : Num → FpOut
  | .inf n => ⟨0, f.infinity n⟩
  | .fin n m e => f.roundMag env n m e false

/-- Invalid Operation with its default result (49_fpu.md rules R806, R808). -/
def Fmt.invalid (f : Fmt) : FpOut := ⟨condV, f.quietNan⟩

/-- `round` of a result, or Invalid Operation. -/
def Fmt.roundOr (f : Fmt) (env : FpEnv) : Option Num → FpOut
  | some n => f.round env n
  | none => f.invalid

/-! ### Exact arithmetic -/

/-- The product; zero times infinity is invalid (49_fpu.md rules R804, R808). -/
def Num.mul : Num → Num → Option Num
  | .inf a, y => if y.isZero then none else some (.inf (a ^^ y.neg))
  | .fin a m _, .inf b => if m = 0 then none else some (.inf (a ^^ b))
  | .fin a m e, .fin b n k => some (.fin (a ^^ b) (m * n) (e + k))

/-- A signed magnitude as an integer. -/
def signed (neg : Bool) (m : Nat) : Int := if neg then -(m : Int) else m

/-- The sum; opposite infinities are invalid; a sum of opposite-signed equal operands is +0, in mode RM -0
(49_fpu.md rules R804, R808). -/
def Num.add (rm : Rounding) : Num → Num → Option Num
  | .inf a, .inf b => if a = b then some (.inf a) else none
  | .inf a, .fin _ _ _ => some (.inf a)
  | .fin _ _ _, .inf b => some (.inf b)
  | .fin a m e, .fin b n k =>
    let low := min e k
    let t := signed a (m * 2 ^ (e - low).toNat) + signed b (n * 2 ^ (k - low).toNat)
    if t = 0 then some (.fin (if a = b then a else rm = .down) 0 0)
    else some (.fin (decide (t < 0)) t.natAbs low)

/-- The integer square root: `n` more bits of the root, `r` the root so far. -/
def sqrtBits (v : Nat) : Nat → Nat → Nat
  | 0, r => r
  | n + 1, r => sqrtBits v n (if (r + 2 ^ n) * (r + 2 ^ n) ≤ v then r + 2 ^ n else r)

/-- The largest integer whose square is not above `v`. -/
def natSqrt (v : Nat) : Nat := sqrtBits v (Nat.log2 v / 2 + 1) 0

/-- The quotient of two magnitudes: its truncation to `w` bits more than the operands differ, its exponent,
and whether something is left. -/
def quotient (w m : Nat) (e : Int) (n : Nat) (k : Int) : Nat × Int × Bool :=
  let q := m * 2 ^ w
  (q / n, e - k - w, q % n != 0)

/-- The square root of a magnitude, cut after many bits: the exponent is made even first. -/
def rootOf (w m : Nat) (e : Int) : Nat × Int × Bool :=
  let odd := (e % 2).toNat
  let v := m * 2 ^ (2 * w + odd)
  let r := natSqrt v
  (r, (e - odd) / 2 - w, r * r != v)

/-- Enough extra bits for every format. -/
abbrev guardBits : Nat := 64

/-- Division (49_fpu.md rules R804, R808, R809). -/
def Fmt.div (f : Fmt) (env : FpEnv) : Num → Num → FpOut
  | .inf _, .inf _ => f.invalid
  | .inf a, .fin b _ _ => ⟨0, f.infinity (a ^^ b)⟩
  | .fin a _ _, .inf b => ⟨0, f.zero (a ^^ b)⟩
  | .fin a m e, .fin b n k =>
    if n = 0 then
      if m = 0 then f.invalid else ⟨condZ, f.infinity (a ^^ b)⟩
    else
      let q := quotient (guardBits + f.precision) m e n k
      f.roundMag env (a ^^ b) q.1 q.2.1 q.2.2

/-- Square root (49_fpu.md rules R808, R843). -/
def Fmt.sqrt (f : Fmt) (env : FpEnv) : Num → FpOut
  | .inf n => if n then f.invalid else ⟨0, f.infinity false⟩
  | .fin n m e =>
    if m = 0 then ⟨0, f.zero n⟩
    else if n then f.invalid
    else
      let r := rootOf guardBits m e
      f.roundMag env false r.1 r.2.1 r.2.2

/-- An approximate result within `ulps` units in the last place: `pick` chooses among the values within
that distance, counted in neighbouring numbers of the format (log 72), `noisy` says whether an exact case signals
inexact (49_fpu.md rules R839 to R842). -/
def Fmt.approximate (f : Fmt) (env : FpEnv) (neg : Bool) (m : Nat) (e : Int) (sticky : Bool) (ulps pick : Nat)
    (noisy : Bool) : FpOut :=
  let t := f.truncate m e
  let exact := t.2.2.1 == 0 && !sticky
  let off : Int := if exact then (pick % (2 * ulps + 1) : Nat) - ulps else (pick % (2 * ulps) : Nat) - ulps + 1
  let r := f.stepBy t.1 t.2.1 off
  f.finish env neg r.1 r.2 (inexact (!exact || noisy))

/-- RECIP (49_fpu.md rules R839, R840). -/
def Fmt.recip (f : Fmt) (env : FpEnv) (pick : Nat) (noisy : Bool) : Num → FpOut
  | .inf n => ⟨0, f.zero n⟩
  | .fin n m e =>
    if m = 0 then ⟨condZ, f.infinity n⟩
    else
      let q := quotient (guardBits + 2 * f.precision) 1 0 m e
      f.approximate env n q.1 q.2.1 q.2.2 1 pick noisy

/-- RSQRT (49_fpu.md rules R841, R842): the root of the reciprocal, cut after many bits. -/
def Fmt.rsqrt (f : Fmt) (env : FpEnv) (pick : Nat) (noisy : Bool) : Num → FpOut
  | .inf n => if n then f.invalid else ⟨0, f.zero false⟩
  | .fin n m e =>
    if m = 0 then ⟨condZ, f.infinity n⟩
    else if n then f.invalid
    else
      let odd := (e % 2).toNat
      let v := m * 2 ^ odd
      let w := 2 * (guardBits + 2 * f.precision)
      let r := natSqrt (2 ^ (2 * w) / v)
      f.approximate env false r (-((e - odd) / 2) - w) (r * r * v != 2 ^ (2 * w)) 2 pick noisy

/-! ### Conversions (49_fpu.md rule R811) -/

/-- A number rounded to an integer; whether that changed it. -/
def Num.toInteger (rm : Rounding) (neg : Bool) (m : Nat) (e : Int) : Int × Bool :=
  if 0 ≤ e then (signed neg (m * 2 ^ e.toNat), false)
  else
    let k := (-e).toNat
    let q := m / 2 ^ k
    let r := m % 2 ^ k
    (signed neg (if rm.away neg q r k false then q + 1 else q), r != 0)

/-- `to_int`: an infinity or a value out of range is invalid, with the largest integer as its default. -/
def toInt (w : Nat) (rm : Rounding) : Num → FpOut
  | .inf _ => ⟨condV, 2 ^ (w - 1) - 1⟩
  | .fin n m e =>
    let t := Num.toInteger rm n m e
    if overflows w t.1 then ⟨condV ||| inexact t.2, 2 ^ (w - 1) - 1⟩
    else ⟨inexact t.2, (BitVec.ofInt w t.1).toNat⟩

/-- `round` of an integer. -/
def Fmt.ofInt (f : Fmt) (env : FpEnv) (t : Int) : FpOut :=
  f.roundMag env (decide (t < 0)) t.natAbs 0 false

/-! ### Screening of operands (49_fpu.md rules R807, R808) -/

/-- A denormalised or quiet NaN operand is not implemented, a signaling NaN is invalid, with the default
result given; other operands go to the operation. -/
def screen (src : Fmt) (vs : List Nat) (default : Nat) (k : FpOut) : FpOut :=
  if vs.any (fun v => src.isDenormal v || src.isQuiet v) then ⟨condE, 0⟩
  else if vs.any src.isSignaling then ⟨condV, default⟩
  else k

/-- The arithmetic operations of 49_fpu.md section 2 on the operands `x`, `y`, `z` from FPR[fs], FPR[ft],
FPR[fr]. -/
inductive FpOp where
  | abs
  | neg
  | add
  | sub
  | mul
  | div
  | sqrt
  | recip
  | rsqrt
  | madd
  | msub
  | nmadd
  | nmsub
  deriving DecidableEq, Repr

/-- The number of operands. -/
def FpOp.arity : FpOp → Nat
  | .abs => 1
  | .neg => 1
  | .sqrt => 1
  | .recip => 1
  | .rsqrt => 1
  | .add => 2
  | .sub => 2
  | .mul => 2
  | .div => 2
  | .madd => 3
  | .msub => 3
  | .nmadd => 3
  | .nmsub => 3

/-- The sign bit of a bit pattern turned over. -/
def Fmt.flipSign (f : Fmt) (v : Nat) : Nat := v ^^^ 2 ^ (f.expBits + f.fracBits)

/-- `x * y + z` rounded once; `minus` subtracts `z` (49_fpu.md rule R804). -/
def Fmt.fused (f : Fmt) (env : FpEnv) (x y z : Num) (minus : Bool) : FpOut :=
  f.roundOr env ((x.mul y).bind fun p => p.add env.rounding (if minus then z.negate else z))

/-- The result negated; the quiet NaN of an invalid operation stays as it is (49_fpu.md rules R806, R833). -/
def Fmt.negated (f : Fmt) (o : FpOut) : FpOut :=
  if o.conds &&& condV != 0 then o else ⟨o.conds, f.flipSign o.bits⟩

/-- An arithmetic operation on screened operands. -/
def Fmt.compute (f : Fmt) (env : FpEnv) (pick : Nat) (noisy : Bool) (op : FpOp) (x y z : Nat) : FpOut :=
  match op with
  | .abs => ⟨0, x % 2 ^ (f.expBits + f.fracBits)⟩
  | .neg => ⟨0, f.flipSign x⟩
  | .add => f.roundOr env ((f.toNum x).add env.rounding (f.toNum y))
  | .sub => f.roundOr env ((f.toNum x).add env.rounding (f.toNum y).negate)
  | .mul => f.roundOr env ((f.toNum x).mul (f.toNum y))
  | .div => f.div env (f.toNum x) (f.toNum y)
  | .sqrt => f.sqrt env (f.toNum x)
  | .recip => f.recip env pick noisy (f.toNum x)
  | .rsqrt => f.rsqrt env pick noisy (f.toNum x)
  | .madd => f.fused env (f.toNum x) (f.toNum y) (f.toNum z) false
  | .msub => f.fused env (f.toNum x) (f.toNum y) (f.toNum z) true
  | .nmadd => f.negated (f.fused env (f.toNum x) (f.toNum y) (f.toNum z) false)
  | .nmsub => f.negated (f.fused env (f.toNum x) (f.toNum y) (f.toNum z) true)

/-- An arithmetic operation: its operands are screened first. -/
def Fmt.operate (f : Fmt) (env : FpEnv) (pick : Nat) (noisy : Bool) (op : FpOp) (x y z : Nat) : FpOut :=
  screen f ([x, y, z].take op.arity) f.quietNan (f.compute env pick noisy op x y z)

/-! ### Compares (49_fpu.md rule R848) -/

/-- The relation of two numbers: less, equal. -/
def Num.compare : Num → Num → Bool × Bool
  | .inf a, .inf b => (a && !b, a == b)
  | .inf a, .fin _ _ _ => (a, false)
  | .fin _ _ _, .inf b => (!b, false)
  | .fin a m e, .fin b n k =>
    let low := min e k
    let x := signed a (m * 2 ^ (e - low).toNat)
    let y := signed b (n * 2 ^ (k - low).toNat)
    (decide (x < y), decide (x = y))

/-- `cond_result` and the condition signalled. -/
def Fmt.condition (f : Fmt) (cond : BitVec 4) (x y : Nat) : Conds × Bool :=
  if f.isNan x || f.isNan y then
    (if cond.getLsbD 3 || f.isSignaling x || f.isSignaling y then condV else 0, cond.getLsbD 0)
  else
    let r := (f.toNum x).compare (f.toNum y)
    (0, (cond.getLsbD 1 && r.2) || (cond.getLsbD 2 && r.1))

/-! ### The state -/

/-- What the operation depends on: a tiny result is flushed with FS = 1 and the U and I enables 0
(49_fpu.md rule R807). -/
def State.fpEnv (s : State) : FpEnv :=
  { rounding := Rounding.ofBits s.roundingMode
    flush := s.flushToZero && !s.fpEnables.getLsbD 0 && !s.fpEnables.getLsbD 1 }

/-- The Cause field for the signalled conditions; beside E the other bits take any value (49_fpu.md rule
R807; log 4). -/
def State.causeOf (s : State) (c : Conds) : Conds :=
  if c.getLsbD 5 then condE ||| ((s.free Slot.fcsrCause).setWidth 5).setWidth 6 else c

/-- The exception procedure (49_fpu.md rule R805): `write` stores the result. -/
def State.fpFinish (s : State) (c : Conds) (write : State → State) : Out :=
  let f := setFpCause s.fcsr (s.causeOf c)
  if trapPending f then raise .fpe (s.setFcsr f)
  else .next (write (s.setFcsr (addFpFlags f (c.setWidth 5)))).advance

/-- With Status.FR = 0 only even floating-point registers may be named (10_state.md rules R46, R47,
92_eei_decisions.md D12; log 54); another has no stated effect. -/
def needEven (s : State) (regs : List (BitVec 5)) (k : Out) : Out :=
  if s.fr || regs.all (fun r => !r.getLsbD 0) then k else .fault .floatRegisterPair

/-- The gate of a floating-point instruction in format S, W or D (49_fpu.md rules R800, R803). -/
def fpGate (s : State) (regs : List (BitVec 5)) (k : Out) : Out := needCop 1 s (needEven s regs k)

/-- The gate of a floating-point instruction in format L or PS (49_fpu.md rules R800, R803). -/
def fpGate64 (s : State) (k : Out) : Out :=
  needCop 1 s (if s.fr then k else .fault .floatRegisterPair)

/-- The single or word in a register (10_state.md rule R48). -/
def State.readSingle (s : State) (i : BitVec 5) : Nat := (lowWord (s.readFpr i)).toNat

/-- Writes a single or word result; bits 63:32 take any value (10_state.md rule R48, 49_fpu.md rule R803;
log 4). -/
def State.writeSingle (s : State) (i : BitVec 5) (v : Word) : State :=
  s.writeFpr i (highWord (s.free Slot.fprHigh) ++ v)

/-- Writes a 64-bit result. -/
def State.writeDouble (s : State) (i : BitVec 5) (v : Nat) : State := s.writeFpr i (BitVec.ofNat 64 v)

/-- Which approximation a reciprocal takes. -/
def State.recipPick (s : State) : Nat := (s.free Slot.recip).toNat

/-- Whether an exact reciprocal signals inexact. -/
def State.recipNoisy (s : State) : Bool := (s.free Slot.recipInexact).getLsbD 0

/-- An arithmetic instruction in format S. -/
def State.fpSingle (s : State) (op : FpOp) (fr ft fs fd : BitVec 5) : Out :=
  let o := Fmt.single.operate s.fpEnv s.recipPick s.recipNoisy op (s.readSingle fs) (s.readSingle ft)
    (s.readSingle fr)
  s.fpFinish o.conds fun t => t.writeSingle fd (BitVec.ofNat 32 o.bits)

/-- An arithmetic instruction in format D. -/
def State.fpDouble (s : State) (op : FpOp) (fr ft fs fd : BitVec 5) : Out :=
  let o := Fmt.double.operate s.fpEnv s.recipPick s.recipNoisy op (s.readFpr fs).toNat (s.readFpr ft).toNat
    (s.readFpr fr).toNat
  s.fpFinish o.conds fun t => t.writeDouble fd o.bits

/-- An arithmetic instruction in format PS: both halves, their conditions together (49_fpu.md rule R810). -/
def State.fpPaired (s : State) (op : FpOp) (fr ft fs fd : BitVec 5) : Out :=
  let half (h : Dword → Word) : FpOut :=
    Fmt.single.operate s.fpEnv s.recipPick s.recipNoisy op (h (s.readFpr fs)).toNat (h (s.readFpr ft)).toNat
      (h (s.readFpr fr)).toNat
  let u := half highWord
  let l := half lowWord
  s.fpFinish (u.conds ||| l.conds) fun t =>
    t.writeFpr fd (BitVec.ofNat 32 u.bits ++ BitVec.ofNat 32 l.bits)

/-- A compare in format S or D: the condition goes to FCC[cc] (49_fpu.md rule R848). -/
def State.fpCompare (s : State) (f : Fmt) (cond : BitVec 4) (x y : Nat) (cc : BitVec 3) : Out :=
  let r := f.condition cond x y
  s.fpFinish r.1 fun t => t.setFcsr (setFcc t.fcsr cc.toNat r.2)

/-- The condition codes after a PS compare: the lower halves' in FCC[cc], the upper halves' in FCC[cc + 1]; with
an odd `cc` every condition code takes any value (49_fpu.md rule R851; log 6). -/
def State.pairCodes (s : State) (cc : BitVec 3) (lower upper : Bool) : State :=
  if cc.getLsbD 0 then s.setFcsr (writeFccr s.fcsr (lowWord (s.free Slot.result)))
  else s.setFcsr (setFcc (setFcc s.fcsr cc.toNat lower) (cc.toNat + 1) upper)

/-- A compare in format PS (49_fpu.md rule R851). -/
def State.fpComparePaired (s : State) (cond : BitVec 4) (ft fs : BitVec 5) (cc : BitVec 3) : Out :=
  let half (h : Dword → Word) : Conds × Bool :=
    Fmt.single.condition cond (h (s.readFpr fs)).toNat (h (s.readFpr ft)).toNat
  let u := half highWord
  let l := half lowWord
  s.fpFinish (u.1 ||| l.1) fun t => t.pairCodes cc l.2 u.2

/-- A conversion to an integer of `w` bits (49_fpu.md rule R811). -/
def State.fpToInt (s : State) (src : Fmt) (w : Nat) (rm : Rounding) (x : Nat) (write : State → Nat → State) : Out :=
  let o := screen src [x] (2 ^ (w - 1) - 1) (toInt w rm (src.toNum x))
  s.fpFinish o.conds fun t => write t o.bits

/-- A conversion between formats (49_fpu.md rules R855 to R861). -/
def State.fpConvert (s : State) (src dst : Fmt) (x : Nat) (write : State → Nat → State) : Out :=
  let o := screen src [x] dst.quietNan (dst.round s.fpEnv (src.toNum x))
  s.fpFinish o.conds fun t => write t o.bits

/-- A conversion from an integer (49_fpu.md rules R857 to R863). -/
def State.fpFromInt (s : State) (dst : Fmt) (t : Int) (write : State → Nat → State) : Out :=
  let o := dst.ofInt s.fpEnv t
  s.fpFinish o.conds fun u => write u o.bits

/-- Writes a single or a word held as a number. -/
def State.writeSingleNat (s : State) (i : BitVec 5) (v : Nat) : State := s.writeSingle i (BitVec.ofNat 32 v)

end Sys2Proof.Machine
end

