-- ==== Sys2Proof/Machine/FpArith.lean ====
section
/-!
DEFINITION. Floating-point arithmetic (49_fpu.md rules R813 to R847).
-/
namespace Sys2Proof.Machine

/-- ABS.S (49_fpu.md rule R813). -/
def execAbsS (fs : BitVec 5) (fd : BitVec 5) (s : State) : Out :=
  fpGate s [fs, fd] (s.fpSingle .abs fs fs fs fd)

/-- ABS.D (49_fpu.md rule R814). -/
def execAbsD (fs : BitVec 5) (fd : BitVec 5) (s : State) : Out :=
  fpGate s [fs, fd] (s.fpDouble .abs fs fs fs fd)

/-- ABS.PS (49_fpu.md rule R815). -/
def execAbsPs (fs : BitVec 5) (fd : BitVec 5) (s : State) : Out :=
  fpGate64 s (s.fpPaired .abs fs fs fs fd)

/-- ADD.S (49_fpu.md rule R816). -/
def execAddS (ft : BitVec 5) (fs : BitVec 5) (fd : BitVec 5) (s : State) : Out :=
  fpGate s [ft, fs, fd] (s.fpSingle .add fs ft fs fd)

/-- ADD.D (49_fpu.md rule R817). -/
def execAddD (ft : BitVec 5) (fs : BitVec 5) (fd : BitVec 5) (s : State) : Out :=
  fpGate s [ft, fs, fd] (s.fpDouble .add fs ft fs fd)

/-- ADD.PS (49_fpu.md rule R818). -/
def execAddPs (ft : BitVec 5) (fs : BitVec 5) (fd : BitVec 5) (s : State) : Out :=
  fpGate64 s (s.fpPaired .add fs ft fs fd)

/-- DIV.S (49_fpu.md rule R819). -/
def execDivS (ft : BitVec 5) (fs : BitVec 5) (fd : BitVec 5) (s : State) : Out :=
  fpGate s [ft, fs, fd] (s.fpSingle .div fs ft fs fd)

/-- DIV.D (49_fpu.md rule R820). -/
def execDivD (ft : BitVec 5) (fs : BitVec 5) (fd : BitVec 5) (s : State) : Out :=
  fpGate s [ft, fs, fd] (s.fpDouble .div fs ft fs fd)

/-- MADD.S (49_fpu.md rule R821). -/
def execMaddS (fr : BitVec 5) (ft : BitVec 5) (fs : BitVec 5) (fd : BitVec 5) (s : State) : Out :=
  fpGate s [fr, ft, fs, fd] (s.fpSingle .madd fr ft fs fd)

/-- MADD.D (49_fpu.md rule R822). -/
def execMaddD (fr : BitVec 5) (ft : BitVec 5) (fs : BitVec 5) (fd : BitVec 5) (s : State) : Out :=
  fpGate s [fr, ft, fs, fd] (s.fpDouble .madd fr ft fs fd)

/-- MADD.PS (49_fpu.md rule R823). -/
def execMaddPs (fr : BitVec 5) (ft : BitVec 5) (fs : BitVec 5) (fd : BitVec 5) (s : State) : Out :=
  fpGate64 s (s.fpPaired .madd fr ft fs fd)

/-- MSUB.S (49_fpu.md rule R824). -/
def execMsubS (fr : BitVec 5) (ft : BitVec 5) (fs : BitVec 5) (fd : BitVec 5) (s : State) : Out :=
  fpGate s [fr, ft, fs, fd] (s.fpSingle .msub fr ft fs fd)

/-- MSUB.D (49_fpu.md rule R825). -/
def execMsubD (fr : BitVec 5) (ft : BitVec 5) (fs : BitVec 5) (fd : BitVec 5) (s : State) : Out :=
  fpGate s [fr, ft, fs, fd] (s.fpDouble .msub fr ft fs fd)

/-- MSUB.PS (49_fpu.md rule R826). -/
def execMsubPs (fr : BitVec 5) (ft : BitVec 5) (fs : BitVec 5) (fd : BitVec 5) (s : State) : Out :=
  fpGate64 s (s.fpPaired .msub fr ft fs fd)

/-- MUL.S (49_fpu.md rule R827). -/
def execMulS (ft : BitVec 5) (fs : BitVec 5) (fd : BitVec 5) (s : State) : Out :=
  fpGate s [ft, fs, fd] (s.fpSingle .mul fs ft fs fd)

/-- MUL.D (49_fpu.md rule R828). -/
def execMulD (ft : BitVec 5) (fs : BitVec 5) (fd : BitVec 5) (s : State) : Out :=
  fpGate s [ft, fs, fd] (s.fpDouble .mul fs ft fs fd)

/-- MUL.PS (49_fpu.md rule R829). -/
def execMulPs (ft : BitVec 5) (fs : BitVec 5) (fd : BitVec 5) (s : State) : Out :=
  fpGate64 s (s.fpPaired .mul fs ft fs fd)

/-- NEG.S (49_fpu.md rule R830). -/
def execNegS (fs : BitVec 5) (fd : BitVec 5) (s : State) : Out :=
  fpGate s [fs, fd] (s.fpSingle .neg fs fs fs fd)

/-- NEG.D (49_fpu.md rule R831). -/
def execNegD (fs : BitVec 5) (fd : BitVec 5) (s : State) : Out :=
  fpGate s [fs, fd] (s.fpDouble .neg fs fs fs fd)

/-- NEG.PS (49_fpu.md rule R832). -/
def execNegPs (fs : BitVec 5) (fd : BitVec 5) (s : State) : Out :=
  fpGate64 s (s.fpPaired .neg fs fs fs fd)

/-- NMADD.S (49_fpu.md rule R833). -/
def execNmaddS (fr : BitVec 5) (ft : BitVec 5) (fs : BitVec 5) (fd : BitVec 5) (s : State) : Out :=
  fpGate s [fr, ft, fs, fd] (s.fpSingle .nmadd fr ft fs fd)

/-- NMADD.D (49_fpu.md rule R834). -/
def execNmaddD (fr : BitVec 5) (ft : BitVec 5) (fs : BitVec 5) (fd : BitVec 5) (s : State) : Out :=
  fpGate s [fr, ft, fs, fd] (s.fpDouble .nmadd fr ft fs fd)

/-- NMADD.PS (49_fpu.md rule R835). -/
def execNmaddPs (fr : BitVec 5) (ft : BitVec 5) (fs : BitVec 5) (fd : BitVec 5) (s : State) : Out :=
  fpGate64 s (s.fpPaired .nmadd fr ft fs fd)

/-- NMSUB.S (49_fpu.md rule R836). -/
def execNmsubS (fr : BitVec 5) (ft : BitVec 5) (fs : BitVec 5) (fd : BitVec 5) (s : State) : Out :=
  fpGate s [fr, ft, fs, fd] (s.fpSingle .nmsub fr ft fs fd)

/-- NMSUB.D (49_fpu.md rule R837). -/
def execNmsubD (fr : BitVec 5) (ft : BitVec 5) (fs : BitVec 5) (fd : BitVec 5) (s : State) : Out :=
  fpGate s [fr, ft, fs, fd] (s.fpDouble .nmsub fr ft fs fd)

/-- NMSUB.PS (49_fpu.md rule R838). -/
def execNmsubPs (fr : BitVec 5) (ft : BitVec 5) (fs : BitVec 5) (fd : BitVec 5) (s : State) : Out :=
  fpGate64 s (s.fpPaired .nmsub fr ft fs fd)

/-- RECIP.S (49_fpu.md rule R839). -/
def execRecipS (fs : BitVec 5) (fd : BitVec 5) (s : State) : Out :=
  fpGate s [fs, fd] (s.fpSingle .recip fs fs fs fd)

/-- RECIP.D (49_fpu.md rule R840). -/
def execRecipD (fs : BitVec 5) (fd : BitVec 5) (s : State) : Out :=
  fpGate s [fs, fd] (s.fpDouble .recip fs fs fs fd)

/-- RSQRT.S (49_fpu.md rule R841). -/
def execRsqrtS (fs : BitVec 5) (fd : BitVec 5) (s : State) : Out :=
  fpGate s [fs, fd] (s.fpSingle .rsqrt fs fs fs fd)

/-- RSQRT.D (49_fpu.md rule R842). -/
def execRsqrtD (fs : BitVec 5) (fd : BitVec 5) (s : State) : Out :=
  fpGate s [fs, fd] (s.fpDouble .rsqrt fs fs fs fd)

/-- SQRT.S (49_fpu.md rule R843). -/
def execSqrtS (fs : BitVec 5) (fd : BitVec 5) (s : State) : Out :=
  fpGate s [fs, fd] (s.fpSingle .sqrt fs fs fs fd)

/-- SQRT.D (49_fpu.md rule R844). -/
def execSqrtD (fs : BitVec 5) (fd : BitVec 5) (s : State) : Out :=
  fpGate s [fs, fd] (s.fpDouble .sqrt fs fs fs fd)

/-- SUB.S (49_fpu.md rule R845). -/
def execSubS (ft : BitVec 5) (fs : BitVec 5) (fd : BitVec 5) (s : State) : Out :=
  fpGate s [ft, fs, fd] (s.fpSingle .sub fs ft fs fd)

/-- SUB.D (49_fpu.md rule R846). -/
def execSubD (ft : BitVec 5) (fs : BitVec 5) (fd : BitVec 5) (s : State) : Out :=
  fpGate s [ft, fs, fd] (s.fpDouble .sub fs ft fs fd)

/-- SUB.PS (49_fpu.md rule R847). -/
def execSubPs (ft : BitVec 5) (fs : BitVec 5) (fd : BitVec 5) (s : State) : Out :=
  fpGate64 s (s.fpPaired .sub fs ft fs fd)

end Sys2Proof.Machine
end

