-- ==== Sys2Proof/Machine/FpCompare.lean ====
section
/-!
DEFINITION. Floating-point compares (49_fpu.md rules R848 to R851).
-/
namespace Sys2Proof.Machine

/-- C.F.S (49_fpu.md rule R849). -/
def execCFS (ft : BitVec 5) (fs : BitVec 5) (cc : BitVec 3) (s : State) : Out :=
  fpGate s [ft, fs] (s.fpCompare .single 0 (s.readSingle fs) (s.readSingle ft) cc)

/-- C.F.D (49_fpu.md rule R850). -/
def execCFD (ft : BitVec 5) (fs : BitVec 5) (cc : BitVec 3) (s : State) : Out :=
  fpGate s [ft, fs] (s.fpCompare .double 0 (s.readFpr fs).toNat (s.readFpr ft).toNat cc)

/-- C.F.PS (49_fpu.md rule R851). -/
def execCFPs (ft : BitVec 5) (fs : BitVec 5) (cc : BitVec 3) (s : State) : Out :=
  fpGate64 s (s.fpComparePaired 0 ft fs cc)

/-- C.UN.S (49_fpu.md rule R849). -/
def execCUnS (ft : BitVec 5) (fs : BitVec 5) (cc : BitVec 3) (s : State) : Out :=
  fpGate s [ft, fs] (s.fpCompare .single 1 (s.readSingle fs) (s.readSingle ft) cc)

/-- C.UN.D (49_fpu.md rule R850). -/
def execCUnD (ft : BitVec 5) (fs : BitVec 5) (cc : BitVec 3) (s : State) : Out :=
  fpGate s [ft, fs] (s.fpCompare .double 1 (s.readFpr fs).toNat (s.readFpr ft).toNat cc)

/-- C.UN.PS (49_fpu.md rule R851). -/
def execCUnPs (ft : BitVec 5) (fs : BitVec 5) (cc : BitVec 3) (s : State) : Out :=
  fpGate64 s (s.fpComparePaired 1 ft fs cc)

/-- C.EQ.S (49_fpu.md rule R849). -/
def execCEqS (ft : BitVec 5) (fs : BitVec 5) (cc : BitVec 3) (s : State) : Out :=
  fpGate s [ft, fs] (s.fpCompare .single 2 (s.readSingle fs) (s.readSingle ft) cc)

/-- C.EQ.D (49_fpu.md rule R850). -/
def execCEqD (ft : BitVec 5) (fs : BitVec 5) (cc : BitVec 3) (s : State) : Out :=
  fpGate s [ft, fs] (s.fpCompare .double 2 (s.readFpr fs).toNat (s.readFpr ft).toNat cc)

/-- C.EQ.PS (49_fpu.md rule R851). -/
def execCEqPs (ft : BitVec 5) (fs : BitVec 5) (cc : BitVec 3) (s : State) : Out :=
  fpGate64 s (s.fpComparePaired 2 ft fs cc)

/-- C.UEQ.S (49_fpu.md rule R849). -/
def execCUeqS (ft : BitVec 5) (fs : BitVec 5) (cc : BitVec 3) (s : State) : Out :=
  fpGate s [ft, fs] (s.fpCompare .single 3 (s.readSingle fs) (s.readSingle ft) cc)

/-- C.UEQ.D (49_fpu.md rule R850). -/
def execCUeqD (ft : BitVec 5) (fs : BitVec 5) (cc : BitVec 3) (s : State) : Out :=
  fpGate s [ft, fs] (s.fpCompare .double 3 (s.readFpr fs).toNat (s.readFpr ft).toNat cc)

/-- C.UEQ.PS (49_fpu.md rule R851). -/
def execCUeqPs (ft : BitVec 5) (fs : BitVec 5) (cc : BitVec 3) (s : State) : Out :=
  fpGate64 s (s.fpComparePaired 3 ft fs cc)

/-- C.OLT.S (49_fpu.md rule R849). -/
def execCOltS (ft : BitVec 5) (fs : BitVec 5) (cc : BitVec 3) (s : State) : Out :=
  fpGate s [ft, fs] (s.fpCompare .single 4 (s.readSingle fs) (s.readSingle ft) cc)

/-- C.OLT.D (49_fpu.md rule R850). -/
def execCOltD (ft : BitVec 5) (fs : BitVec 5) (cc : BitVec 3) (s : State) : Out :=
  fpGate s [ft, fs] (s.fpCompare .double 4 (s.readFpr fs).toNat (s.readFpr ft).toNat cc)

/-- C.OLT.PS (49_fpu.md rule R851). -/
def execCOltPs (ft : BitVec 5) (fs : BitVec 5) (cc : BitVec 3) (s : State) : Out :=
  fpGate64 s (s.fpComparePaired 4 ft fs cc)

/-- C.ULT.S (49_fpu.md rule R849). -/
def execCUltS (ft : BitVec 5) (fs : BitVec 5) (cc : BitVec 3) (s : State) : Out :=
  fpGate s [ft, fs] (s.fpCompare .single 5 (s.readSingle fs) (s.readSingle ft) cc)

/-- C.ULT.D (49_fpu.md rule R850). -/
def execCUltD (ft : BitVec 5) (fs : BitVec 5) (cc : BitVec 3) (s : State) : Out :=
  fpGate s [ft, fs] (s.fpCompare .double 5 (s.readFpr fs).toNat (s.readFpr ft).toNat cc)

/-- C.ULT.PS (49_fpu.md rule R851). -/
def execCUltPs (ft : BitVec 5) (fs : BitVec 5) (cc : BitVec 3) (s : State) : Out :=
  fpGate64 s (s.fpComparePaired 5 ft fs cc)

/-- C.OLE.S (49_fpu.md rule R849). -/
def execCOleS (ft : BitVec 5) (fs : BitVec 5) (cc : BitVec 3) (s : State) : Out :=
  fpGate s [ft, fs] (s.fpCompare .single 6 (s.readSingle fs) (s.readSingle ft) cc)

/-- C.OLE.D (49_fpu.md rule R850). -/
def execCOleD (ft : BitVec 5) (fs : BitVec 5) (cc : BitVec 3) (s : State) : Out :=
  fpGate s [ft, fs] (s.fpCompare .double 6 (s.readFpr fs).toNat (s.readFpr ft).toNat cc)

/-- C.OLE.PS (49_fpu.md rule R851). -/
def execCOlePs (ft : BitVec 5) (fs : BitVec 5) (cc : BitVec 3) (s : State) : Out :=
  fpGate64 s (s.fpComparePaired 6 ft fs cc)

/-- C.ULE.S (49_fpu.md rule R849). -/
def execCUleS (ft : BitVec 5) (fs : BitVec 5) (cc : BitVec 3) (s : State) : Out :=
  fpGate s [ft, fs] (s.fpCompare .single 7 (s.readSingle fs) (s.readSingle ft) cc)

/-- C.ULE.D (49_fpu.md rule R850). -/
def execCUleD (ft : BitVec 5) (fs : BitVec 5) (cc : BitVec 3) (s : State) : Out :=
  fpGate s [ft, fs] (s.fpCompare .double 7 (s.readFpr fs).toNat (s.readFpr ft).toNat cc)

/-- C.ULE.PS (49_fpu.md rule R851). -/
def execCUlePs (ft : BitVec 5) (fs : BitVec 5) (cc : BitVec 3) (s : State) : Out :=
  fpGate64 s (s.fpComparePaired 7 ft fs cc)

/-- C.SF.S (49_fpu.md rule R849). -/
def execCSfS (ft : BitVec 5) (fs : BitVec 5) (cc : BitVec 3) (s : State) : Out :=
  fpGate s [ft, fs] (s.fpCompare .single 8 (s.readSingle fs) (s.readSingle ft) cc)

/-- C.SF.D (49_fpu.md rule R850). -/
def execCSfD (ft : BitVec 5) (fs : BitVec 5) (cc : BitVec 3) (s : State) : Out :=
  fpGate s [ft, fs] (s.fpCompare .double 8 (s.readFpr fs).toNat (s.readFpr ft).toNat cc)

/-- C.SF.PS (49_fpu.md rule R851). -/
def execCSfPs (ft : BitVec 5) (fs : BitVec 5) (cc : BitVec 3) (s : State) : Out :=
  fpGate64 s (s.fpComparePaired 8 ft fs cc)

/-- C.NGLE.S (49_fpu.md rule R849). -/
def execCNgleS (ft : BitVec 5) (fs : BitVec 5) (cc : BitVec 3) (s : State) : Out :=
  fpGate s [ft, fs] (s.fpCompare .single 9 (s.readSingle fs) (s.readSingle ft) cc)

/-- C.NGLE.D (49_fpu.md rule R850). -/
def execCNgleD (ft : BitVec 5) (fs : BitVec 5) (cc : BitVec 3) (s : State) : Out :=
  fpGate s [ft, fs] (s.fpCompare .double 9 (s.readFpr fs).toNat (s.readFpr ft).toNat cc)

/-- C.NGLE.PS (49_fpu.md rule R851). -/
def execCNglePs (ft : BitVec 5) (fs : BitVec 5) (cc : BitVec 3) (s : State) : Out :=
  fpGate64 s (s.fpComparePaired 9 ft fs cc)

/-- C.SEQ.S (49_fpu.md rule R849). -/
def execCSeqS (ft : BitVec 5) (fs : BitVec 5) (cc : BitVec 3) (s : State) : Out :=
  fpGate s [ft, fs] (s.fpCompare .single 10 (s.readSingle fs) (s.readSingle ft) cc)

/-- C.SEQ.D (49_fpu.md rule R850). -/
def execCSeqD (ft : BitVec 5) (fs : BitVec 5) (cc : BitVec 3) (s : State) : Out :=
  fpGate s [ft, fs] (s.fpCompare .double 10 (s.readFpr fs).toNat (s.readFpr ft).toNat cc)

/-- C.SEQ.PS (49_fpu.md rule R851). -/
def execCSeqPs (ft : BitVec 5) (fs : BitVec 5) (cc : BitVec 3) (s : State) : Out :=
  fpGate64 s (s.fpComparePaired 10 ft fs cc)

/-- C.NGL.S (49_fpu.md rule R849). -/
def execCNglS (ft : BitVec 5) (fs : BitVec 5) (cc : BitVec 3) (s : State) : Out :=
  fpGate s [ft, fs] (s.fpCompare .single 11 (s.readSingle fs) (s.readSingle ft) cc)

/-- C.NGL.D (49_fpu.md rule R850). -/
def execCNglD (ft : BitVec 5) (fs : BitVec 5) (cc : BitVec 3) (s : State) : Out :=
  fpGate s [ft, fs] (s.fpCompare .double 11 (s.readFpr fs).toNat (s.readFpr ft).toNat cc)

/-- C.NGL.PS (49_fpu.md rule R851). -/
def execCNglPs (ft : BitVec 5) (fs : BitVec 5) (cc : BitVec 3) (s : State) : Out :=
  fpGate64 s (s.fpComparePaired 11 ft fs cc)

/-- C.LT.S (49_fpu.md rule R849). -/
def execCLtS (ft : BitVec 5) (fs : BitVec 5) (cc : BitVec 3) (s : State) : Out :=
  fpGate s [ft, fs] (s.fpCompare .single 12 (s.readSingle fs) (s.readSingle ft) cc)

/-- C.LT.D (49_fpu.md rule R850). -/
def execCLtD (ft : BitVec 5) (fs : BitVec 5) (cc : BitVec 3) (s : State) : Out :=
  fpGate s [ft, fs] (s.fpCompare .double 12 (s.readFpr fs).toNat (s.readFpr ft).toNat cc)

/-- C.LT.PS (49_fpu.md rule R851). -/
def execCLtPs (ft : BitVec 5) (fs : BitVec 5) (cc : BitVec 3) (s : State) : Out :=
  fpGate64 s (s.fpComparePaired 12 ft fs cc)

/-- C.NGE.S (49_fpu.md rule R849). -/
def execCNgeS (ft : BitVec 5) (fs : BitVec 5) (cc : BitVec 3) (s : State) : Out :=
  fpGate s [ft, fs] (s.fpCompare .single 13 (s.readSingle fs) (s.readSingle ft) cc)

/-- C.NGE.D (49_fpu.md rule R850). -/
def execCNgeD (ft : BitVec 5) (fs : BitVec 5) (cc : BitVec 3) (s : State) : Out :=
  fpGate s [ft, fs] (s.fpCompare .double 13 (s.readFpr fs).toNat (s.readFpr ft).toNat cc)

/-- C.NGE.PS (49_fpu.md rule R851). -/
def execCNgePs (ft : BitVec 5) (fs : BitVec 5) (cc : BitVec 3) (s : State) : Out :=
  fpGate64 s (s.fpComparePaired 13 ft fs cc)

/-- C.LE.S (49_fpu.md rule R849). -/
def execCLeS (ft : BitVec 5) (fs : BitVec 5) (cc : BitVec 3) (s : State) : Out :=
  fpGate s [ft, fs] (s.fpCompare .single 14 (s.readSingle fs) (s.readSingle ft) cc)

/-- C.LE.D (49_fpu.md rule R850). -/
def execCLeD (ft : BitVec 5) (fs : BitVec 5) (cc : BitVec 3) (s : State) : Out :=
  fpGate s [ft, fs] (s.fpCompare .double 14 (s.readFpr fs).toNat (s.readFpr ft).toNat cc)

/-- C.LE.PS (49_fpu.md rule R851). -/
def execCLePs (ft : BitVec 5) (fs : BitVec 5) (cc : BitVec 3) (s : State) : Out :=
  fpGate64 s (s.fpComparePaired 14 ft fs cc)

/-- C.NGT.S (49_fpu.md rule R849). -/
def execCNgtS (ft : BitVec 5) (fs : BitVec 5) (cc : BitVec 3) (s : State) : Out :=
  fpGate s [ft, fs] (s.fpCompare .single 15 (s.readSingle fs) (s.readSingle ft) cc)

/-- C.NGT.D (49_fpu.md rule R850). -/
def execCNgtD (ft : BitVec 5) (fs : BitVec 5) (cc : BitVec 3) (s : State) : Out :=
  fpGate s [ft, fs] (s.fpCompare .double 15 (s.readFpr fs).toNat (s.readFpr ft).toNat cc)

/-- C.NGT.PS (49_fpu.md rule R851). -/
def execCNgtPs (ft : BitVec 5) (fs : BitVec 5) (cc : BitVec 3) (s : State) : Out :=
  fpGate64 s (s.fpComparePaired 15 ft fs cc)

end Sys2Proof.Machine
end

