-- ==== Sys2Proof/Machine/FpConvert.lean ====
section
/-!
DEFINITION. Floating-point conversions (49_fpu.md rules R852 to R887).
-/
namespace Sys2Proof.Machine

/-- A pair formed from two words, without arithmetic (49_fpu.md rules R878 to R887). -/
def State.fpPair (s : State) (fd : BitVec 5) (upper lower : Word) : Out :=
  fpGate64 s (.next (s.writeFpr fd (upper ++ lower)).advance)

/-- CEIL.L.S (49_fpu.md rule R852). -/
def execCeilLS (fs : BitVec 5) (fd : BitVec 5) (s : State) : Out :=
  fpGate64 s (s.fpToInt .single 64 .up (s.readSingle fs) (fun t v => t.writeDouble fd v))

/-- CEIL.L.D (49_fpu.md rule R853). -/
def execCeilLD (fs : BitVec 5) (fd : BitVec 5) (s : State) : Out :=
  fpGate64 s (s.fpToInt .double 64 .up (s.readFpr fs).toNat (fun t v => t.writeDouble fd v))

/-- CEIL.W.S (49_fpu.md rule R854). -/
def execCeilWS (fs : BitVec 5) (fd : BitVec 5) (s : State) : Out :=
  fpGate s [fs, fd] (s.fpToInt .single 32 .up (s.readSingle fs) (fun t v => t.writeSingleNat fd v))

/-- CEIL.W.D (49_fpu.md rule R855). -/
def execCeilWD (fs : BitVec 5) (fd : BitVec 5) (s : State) : Out :=
  fpGate s [fs, fd] (s.fpToInt .double 32 .up (s.readFpr fs).toNat (fun t v => t.writeSingleNat fd v))

/-- CVT.L.S (49_fpu.md rule R859). -/
def execCvtLS (fs : BitVec 5) (fd : BitVec 5) (s : State) : Out :=
  fpGate64 s (s.fpToInt .single 64 (.ofBits s.roundingMode) (s.readSingle fs) (fun t v => t.writeDouble fd v))

/-- CVT.L.D (49_fpu.md rule R860). -/
def execCvtLD (fs : BitVec 5) (fd : BitVec 5) (s : State) : Out :=
  fpGate64 s (s.fpToInt .double 64 (.ofBits s.roundingMode) (s.readFpr fs).toNat (fun t v => t.writeDouble fd v))

/-- CVT.W.S (49_fpu.md rule R864). -/
def execCvtWS (fs : BitVec 5) (fd : BitVec 5) (s : State) : Out :=
  fpGate s [fs, fd] (s.fpToInt .single 32 (.ofBits s.roundingMode) (s.readSingle fs) (fun t v => t.writeSingleNat fd v))

/-- CVT.W.D (49_fpu.md rule R865). -/
def execCvtWD (fs : BitVec 5) (fd : BitVec 5) (s : State) : Out :=
  fpGate s [fs, fd] (s.fpToInt .double 32 (.ofBits s.roundingMode) (s.readFpr fs).toNat (fun t v => t.writeSingleNat fd v))

/-- FLOOR.L.S (49_fpu.md rule R866). -/
def execFloorLS (fs : BitVec 5) (fd : BitVec 5) (s : State) : Out :=
  fpGate64 s (s.fpToInt .single 64 .down (s.readSingle fs) (fun t v => t.writeDouble fd v))

/-- FLOOR.L.D (49_fpu.md rule R867). -/
def execFloorLD (fs : BitVec 5) (fd : BitVec 5) (s : State) : Out :=
  fpGate64 s (s.fpToInt .double 64 .down (s.readFpr fs).toNat (fun t v => t.writeDouble fd v))

/-- FLOOR.W.S (49_fpu.md rule R868). -/
def execFloorWS (fs : BitVec 5) (fd : BitVec 5) (s : State) : Out :=
  fpGate s [fs, fd] (s.fpToInt .single 32 .down (s.readSingle fs) (fun t v => t.writeSingleNat fd v))

/-- FLOOR.W.D (49_fpu.md rule R869). -/
def execFloorWD (fs : BitVec 5) (fd : BitVec 5) (s : State) : Out :=
  fpGate s [fs, fd] (s.fpToInt .double 32 .down (s.readFpr fs).toNat (fun t v => t.writeSingleNat fd v))

/-- ROUND.L.S (49_fpu.md rule R870). -/
def execRoundLS (fs : BitVec 5) (fd : BitVec 5) (s : State) : Out :=
  fpGate64 s (s.fpToInt .single 64 .nearest (s.readSingle fs) (fun t v => t.writeDouble fd v))

/-- ROUND.L.D (49_fpu.md rule R871). -/
def execRoundLD (fs : BitVec 5) (fd : BitVec 5) (s : State) : Out :=
  fpGate64 s (s.fpToInt .double 64 .nearest (s.readFpr fs).toNat (fun t v => t.writeDouble fd v))

/-- ROUND.W.S (49_fpu.md rule R872). -/
def execRoundWS (fs : BitVec 5) (fd : BitVec 5) (s : State) : Out :=
  fpGate s [fs, fd] (s.fpToInt .single 32 .nearest (s.readSingle fs) (fun t v => t.writeSingleNat fd v))

/-- ROUND.W.D (49_fpu.md rule R873). -/
def execRoundWD (fs : BitVec 5) (fd : BitVec 5) (s : State) : Out :=
  fpGate s [fs, fd] (s.fpToInt .double 32 .nearest (s.readFpr fs).toNat (fun t v => t.writeSingleNat fd v))

/-- TRUNC.L.S (49_fpu.md rule R874). -/
def execTruncLS (fs : BitVec 5) (fd : BitVec 5) (s : State) : Out :=
  fpGate64 s (s.fpToInt .single 64 .zero (s.readSingle fs) (fun t v => t.writeDouble fd v))

/-- TRUNC.L.D (49_fpu.md rule R875). -/
def execTruncLD (fs : BitVec 5) (fd : BitVec 5) (s : State) : Out :=
  fpGate64 s (s.fpToInt .double 64 .zero (s.readFpr fs).toNat (fun t v => t.writeDouble fd v))

/-- TRUNC.W.S (49_fpu.md rule R876). -/
def execTruncWS (fs : BitVec 5) (fd : BitVec 5) (s : State) : Out :=
  fpGate s [fs, fd] (s.fpToInt .single 32 .zero (s.readSingle fs) (fun t v => t.writeSingleNat fd v))

/-- TRUNC.W.D (49_fpu.md rule R877). -/
def execTruncWD (fs : BitVec 5) (fd : BitVec 5) (s : State) : Out :=
  fpGate s [fs, fd] (s.fpToInt .double 32 .zero (s.readFpr fs).toNat (fun t v => t.writeSingleNat fd v))

/-- CVT.D.S (49_fpu.md rule R856). -/
def execCvtDS (fs : BitVec 5) (fd : BitVec 5) (s : State) : Out :=
  fpGate s [fs, fd] (s.fpConvert .single .double (s.readSingle fs) (fun t v => t.writeDouble fd v))

/-- CVT.S.D (49_fpu.md rule R861). -/
def execCvtSD (fs : BitVec 5) (fd : BitVec 5) (s : State) : Out :=
  fpGate s [fs, fd] (s.fpConvert .double .single (s.readFpr fs).toNat (fun t v => t.writeSingleNat fd v))

/-- CVT.D.W (49_fpu.md rule R857). -/
def execCvtDW (fs : BitVec 5) (fd : BitVec 5) (s : State) : Out :=
  fpGate s [fs, fd] (s.fpFromInt .double (lowWord (s.readFpr fs)).toInt (fun t v => t.writeDouble fd v))

/-- CVT.S.W (49_fpu.md rule R862). -/
def execCvtSW (fs : BitVec 5) (fd : BitVec 5) (s : State) : Out :=
  fpGate s [fs, fd] (s.fpFromInt .single (lowWord (s.readFpr fs)).toInt (fun t v => t.writeSingleNat fd v))

/-- CVT.D.L (49_fpu.md rule R858). -/
def execCvtDL (fs : BitVec 5) (fd : BitVec 5) (s : State) : Out :=
  fpGate64 s (s.fpFromInt .double (s.readFpr fs).toInt (fun t v => t.writeDouble fd v))

/-- CVT.S.L (49_fpu.md rule R863). -/
def execCvtSL (fs : BitVec 5) (fd : BitVec 5) (s : State) : Out :=
  fpGate64 s (s.fpFromInt .single (s.readFpr fs).toInt (fun t v => t.writeSingleNat fd v))

/-- CVT.PS.S (49_fpu.md rule R878). -/
def execCvtPsS (ft : BitVec 5) (fs : BitVec 5) (fd : BitVec 5) (s : State) : Out :=
  s.fpPair fd (lowWord (s.readFpr fs)) (lowWord (s.readFpr ft))

/-- CVT.S.PL (49_fpu.md rule R879). -/
def execCvtSPl (fs : BitVec 5) (fd : BitVec 5) (s : State) : Out :=
  fpGate64 s (.next (s.writeSingle fd (lowWord (s.readFpr fs))).advance)

/-- CVT.S.PU (49_fpu.md rule R883). -/
def execCvtSPu (fs : BitVec 5) (fd : BitVec 5) (s : State) : Out :=
  fpGate64 s (.next (s.writeSingle fd (highWord (s.readFpr fs))).advance)

/-- PLL.PS (49_fpu.md rule R884). -/
def execPllPs (ft : BitVec 5) (fs : BitVec 5) (fd : BitVec 5) (s : State) : Out :=
  s.fpPair fd (lowWord (s.readFpr fs)) (lowWord (s.readFpr ft))

/-- PLU.PS (49_fpu.md rule R885). -/
def execPluPs (ft : BitVec 5) (fs : BitVec 5) (fd : BitVec 5) (s : State) : Out :=
  s.fpPair fd (lowWord (s.readFpr fs)) (highWord (s.readFpr ft))

/-- PUL.PS (49_fpu.md rule R886). -/
def execPulPs (ft : BitVec 5) (fs : BitVec 5) (fd : BitVec 5) (s : State) : Out :=
  s.fpPair fd (highWord (s.readFpr fs)) (lowWord (s.readFpr ft))

/-- PUU.PS (49_fpu.md rule R887). -/
def execPuuPs (ft : BitVec 5) (fs : BitVec 5) (fd : BitVec 5) (s : State) : Out :=
  s.fpPair fd (highWord (s.readFpr fs)) (highWord (s.readFpr ft))

/-- CVT.D.LD (49_fpu.md rule R880). -/
def execCvtDLd (_s : State) : Out := .refused .extendedDoubleUnknown

/-- CVT.LD.D (49_fpu.md rule R881). -/
def execCvtLdD (_s : State) : Out := .refused .extendedDoubleUnknown

/-- CVT.UD.D (49_fpu.md rule R882). -/
def execCvtUdD (_s : State) : Out := .refused .extendedDoubleUnknown

end Sys2Proof.Machine
end

