-- ==== Sys2Proof/Machine/FpMove.lean ====
section
/-!
DEFINITION. Floating-point moves and branches (49_fpu_move_mem.md rules R905 to R929, R1100 to R1103).
-/
namespace Sys2Proof.Machine

/-- `F32(n)`: with Status.FR = 0 an odd number is the high word of the even register below
(49_fpu_move_mem.md rule R902). -/
def State.readF32 (s : State) (n : BitVec 5) : Word :=
  if s.fr || !n.getLsbD 0 then lowWord (s.readFpr n) else highWord (s.readFpr (n &&& 0x1E#5))

/-- `F32(n) <- v`: with FR = 1 bits 63:32 take any value, with FR = 0 the other half stays
(49_fpu_move_mem.md rule R902; log 4). -/
def State.writeF32 (s : State) (n : BitVec 5) (v : Word) : State :=
  if s.fr then s.writeSingle n v
  else if n.getLsbD 0 then s.writeFpr (n &&& 0x1E#5) (v ++ lowWord (s.readFpr (n &&& 0x1E#5)))
  else s.writeFpr n (highWord (s.readFpr n) ++ v)

/-- The control registers CFC1 reads (49_fpu_move_mem.md rule R905). -/
def State.readFcr (s : State) (n : BitVec 5) : Option Word :=
  if n = 0 then some Config.fir
  else if n = 25 then some (readFccr s.fcsr)
  else if n = 26 then some (readFexr s.fcsr)
  else if n = 28 then some (readFenr s.fcsr)
  else if n = 31 then some s.fcsr
  else none

/-- What CTC1 leaves in FCSR through each of its views (49_fpu_move_mem.md rule R906). -/
def State.writeFcr (s : State) (n : BitVec 5) (v : Word) : Res Word :=
  if n = 25 then .ok (writeFccr s.fcsr v)
  else if n = 26 then .ok (writeFexr s.fcsr v)
  else if n = 28 then .ok (writeFenr s.fcsr v)
  else if n = 31 then (if v.getLsbD 21 then .refused .topMode else .ok (writeFcsr v))
  else .refused .noSuchFpuRegister

/-- A move of a single on a condition: else the register is unchanged (49_fpu_move_mem.md rules R902, R914). -/
def State.movSingle (s : State) (c : Bool) (fs fd : BitVec 5) : Out :=
  fpGate s [fs, fd] (.next (if c then s.writeF32 fd (s.readF32 fs) else s).advance)

/-- A move of a double on a condition. -/
def State.movDouble (s : State) (c : Bool) (fs fd : BitVec 5) : Out :=
  fpGate s [fs, fd] (.next (if c then s.writeFpr fd (s.readFpr fs) else s).advance)

/-- A move of a pair: the lower half on `l`, the upper on `u`. -/
def State.movPair (s : State) (l u : Bool) (fs fd : BitVec 5) : Out :=
  fpGate64 s (.next (s.writeFpr fd
    ((if u then highWord (s.readFpr fs) else highWord (s.readFpr fd)) ++
     (if l then lowWord (s.readFpr fs) else lowWord (s.readFpr fd)))).advance)

/-- MOVF.PS and MOVT.PS: the halves move on FCC[cc] and FCC[cc + 1]; with an odd `cc` the result takes any
value (49_fpu_move_mem.md rules R919, R925; log 6). -/
def State.movPairOn (s : State) (sense : Bool) (cc : BitVec 3) (fs fd : BitVec 5) : Out :=
  if cc.getLsbD 0 then fpGate64 s (.next (s.writeFpr fd (s.free Slot.result)).advance)
  else s.movPair (s.fcc cc == sense) (s.fcc (cc + 1) == sense) fs fd

/-- The result of ALNV.PS; an alignment other than 0 and 4 leaves it open (49_fpu_move_mem.md rule R913;
log 6). -/
def State.alignPair (s : State) (n : BitVec 3) (fs ft : BitVec 5) : Dword :=
  if n = 0 then s.readFpr fs
  else if n = 4 then lowWord (s.readFpr ft) ++ highWord (s.readFpr fs)
  else s.free Slot.result

/-- A branch on FCC[cc] (49_fpu_move_mem.md rule R929). -/
def State.branchFcc (s : State) (sense : Bool) (cc : BitVec 3) (imm : BitVec 16) : Out :=
  needCop 1 s (s.branchIf (s.fcc cc == sense) (s.branchTarget imm))

/-- The likely form of `branchFcc`. -/
def State.branchFccLikely (s : State) (sense : Bool) (cc : BitVec 3) (imm : BitVec 16) : Out :=
  needCop 1 s (s.branchLikelyIf (s.fcc cc == sense) (s.branchTarget imm))

/-- CFC1 (49_fpu_move_mem.md rule R905). -/
def execCfc1 (rt : BitVec 5) (fs : BitVec 5) (s : State) : Out :=
  needCop 1 s (match s.readFcr fs with
    | some v => s.putGpr rt (sextWord v)
    | none => .refused .noSuchFpuRegister)

/-- CTC1 (49_fpu_move_mem.md rule R906): the register is written before the exception is raised. -/
def execCtc1 (rt : BitVec 5) (fs : BitVec 5) (s : State) : Out :=
  needCop 1 s ((s.writeFcr fs (lowWord (s.readGpr rt))).finish s fun v =>
    if trapPending v then raise .fpe (s.setFcsr v) else .next (s.setFcsr v).advance)

/-- DMFC1 (49_fpu_move_mem.md rule R907). -/
def execDmfc1 (rt : BitVec 5) (fs : BitVec 5) (s : State) : Out :=
  needCop 1 s (need64 s (needEven s [fs] (s.putGpr rt (s.readFpr fs))))

/-- DMTC1 (49_fpu_move_mem.md rule R908). -/
def execDmtc1 (rt : BitVec 5) (fs : BitVec 5) (s : State) : Out :=
  needCop 1 s (need64 s (needEven s [fs] (.next (s.writeFpr fs (s.readGpr rt)).advance)))

/-- MFC1 (49_fpu_move_mem.md rule R909). -/
def execMfc1 (rt : BitVec 5) (fs : BitVec 5) (s : State) : Out :=
  needCop 1 s (s.putGpr rt (sextWord (s.readF32 fs)))

/-- MFHC1 (49_fpu_move_mem.md rule R910). -/
def execMfhc1 (rt : BitVec 5) (fs : BitVec 5) (s : State) : Out :=
  needCop 1 s (needEven s [fs] (s.putGpr rt (sextWord (highWord (s.readFpr fs)))))

/-- MTC1 (49_fpu_move_mem.md rule R911). -/
def execMtc1 (rt : BitVec 5) (fs : BitVec 5) (s : State) : Out :=
  needCop 1 s (.next (s.writeF32 fs (lowWord (s.readGpr rt))).advance)

/-- MTHC1 (49_fpu_move_mem.md rule R912). -/
def execMthc1 (rt : BitVec 5) (fs : BitVec 5) (s : State) : Out :=
  needCop 1 s (needEven s [fs]
    (.next (s.writeFpr fs (lowWord (s.readGpr rt) ++ lowWord (s.readFpr fs))).advance))

/-- ALNV.PS (49_fpu_move_mem.md rule R913). -/
def execAlnvPs (rs : BitVec 5) (ft : BitVec 5) (fs : BitVec 5) (fd : BitVec 5) (s : State) : Out :=
  fpGate64 s (.next (s.writeFpr fd (s.alignPair ((s.readGpr rs).setWidth 3) fs ft)).advance)

/-- MOV.S (49_fpu_move_mem.md rule R914). -/
def execMovS (fs : BitVec 5) (fd : BitVec 5) (s : State) : Out := s.movSingle true fs fd

/-- MOV.D (49_fpu_move_mem.md rule R915). -/
def execMovD (fs : BitVec 5) (fd : BitVec 5) (s : State) : Out := s.movDouble true fs fd

/-- MOV.PS (49_fpu_move_mem.md rule R916). -/
def execMovPs (fs : BitVec 5) (fd : BitVec 5) (s : State) : Out := s.movPair true true fs fd

/-- MOVF.S (49_fpu_move_mem.md rule R917). -/
def execMovfS (cc : BitVec 3) (fs : BitVec 5) (fd : BitVec 5) (s : State) : Out :=
  s.movSingle (s.fcc cc == false) fs fd

/-- MOVF.D (49_fpu_move_mem.md rule R918). -/
def execMovfD (cc : BitVec 3) (fs : BitVec 5) (fd : BitVec 5) (s : State) : Out :=
  s.movDouble (s.fcc cc == false) fs fd

/-- MOVF.PS (49_fpu_move_mem.md rule R919). -/
def execMovfPs (cc : BitVec 3) (fs : BitVec 5) (fd : BitVec 5) (s : State) : Out :=
  s.movPairOn false cc fs fd

/-- MOVT.S (49_fpu_move_mem.md rule R923). -/
def execMovtS (cc : BitVec 3) (fs : BitVec 5) (fd : BitVec 5) (s : State) : Out :=
  s.movSingle (s.fcc cc == true) fs fd

/-- MOVT.D (49_fpu_move_mem.md rule R924). -/
def execMovtD (cc : BitVec 3) (fs : BitVec 5) (fd : BitVec 5) (s : State) : Out :=
  s.movDouble (s.fcc cc == true) fs fd

/-- MOVT.PS (49_fpu_move_mem.md rule R925). -/
def execMovtPs (cc : BitVec 3) (fs : BitVec 5) (fd : BitVec 5) (s : State) : Out :=
  s.movPairOn true cc fs fd

/-- MOVN.S (49_fpu_move_mem.md rule R920). -/
def execMovnS (rt : BitVec 5) (fs : BitVec 5) (fd : BitVec 5) (s : State) : Out :=
  s.movSingle (s.readGpr rt != 0) fs fd

/-- MOVN.D (49_fpu_move_mem.md rule R921). -/
def execMovnD (rt : BitVec 5) (fs : BitVec 5) (fd : BitVec 5) (s : State) : Out :=
  s.movDouble (s.readGpr rt != 0) fs fd

/-- MOVN.PS (49_fpu_move_mem.md rule R922). -/
def execMovnPs (rt : BitVec 5) (fs : BitVec 5) (fd : BitVec 5) (s : State) : Out :=
  s.movPair (s.readGpr rt != 0) (s.readGpr rt != 0) fs fd

/-- MOVZ.S (49_fpu_move_mem.md rule R926). -/
def execMovzS (rt : BitVec 5) (fs : BitVec 5) (fd : BitVec 5) (s : State) : Out :=
  s.movSingle (s.readGpr rt == 0) fs fd

/-- MOVZ.D (49_fpu_move_mem.md rule R927). -/
def execMovzD (rt : BitVec 5) (fs : BitVec 5) (fd : BitVec 5) (s : State) : Out :=
  s.movDouble (s.readGpr rt == 0) fs fd

/-- MOVZ.PS (49_fpu_move_mem.md rule R928). -/
def execMovzPs (rt : BitVec 5) (fs : BitVec 5) (fd : BitVec 5) (s : State) : Out :=
  s.movPair (s.readGpr rt == 0) (s.readGpr rt == 0) fs fd

/-- BC1F (49_fpu_move_mem.md rule R1100). -/
def execBc1f (cc : BitVec 3) (imm : BitVec 16) (s : State) : Out := s.branchFcc false cc imm

/-- BC1FL (49_fpu_move_mem.md rule R1101). -/
def execBc1fl (cc : BitVec 3) (imm : BitVec 16) (s : State) : Out := s.branchFccLikely false cc imm

/-- BC1T (49_fpu_move_mem.md rule R1102). -/
def execBc1t (cc : BitVec 3) (imm : BitVec 16) (s : State) : Out := s.branchFcc true cc imm

/-- BC1TL (49_fpu_move_mem.md rule R1103). -/
def execBc1tl (cc : BitVec 3) (imm : BitVec 16) (s : State) : Out := s.branchFccLikely true cc imm

end Sys2Proof.Machine
end

