-- ==== Sys2Proof/Machine/FpMemory.lean ====
section
/-!
DEFINITION. Floating-point loads and stores (49_fpu_move_mem.md rules R1104 to R1143).
-/
namespace Sys2Proof.Machine

/-- A load of a word to a floating-point register (49_fpu_move_mem.md rule R1104). -/
def State.loadF32 (s : State) (n : BitVec 5) (r : Res (Dword × State)) : Out :=
  r.finish s fun p => .next (p.2.writeF32 n (lowWord p.1)).advance

/-- A load of a doubleword to a floating-point register (49_fpu_move_mem.md rules R902, R1104). -/
def State.loadF64 (s : State) (n : BitVec 5) (r : Res (Dword × State)) : Out :=
  needEven s [n] (r.finish s fun p => .next (p.2.writeFpr n p.1).advance)

/-- A store that has its address and its value. -/
def State.storeDone (s : State) (r : Res State) : Out := r.finish s fun t => .next t.advance

/-- The word in a floating-point register as a store takes it. -/
def State.f32 (s : State) (n : BitVec 5) : Dword := (s.readF32 n).setWidth 64

/-- `Gate21()` (49_fpu_move_mem.md rule R1142). -/
def gate21 (s : State) (k : Out) : Out := needCop 2 s (needCop 1 s k)

/-- A bound-checked load (49_fpu_move_mem.md rule R1142, 47_custom_int.md rule R633). -/
def State.boundLoad (s : State) (va : Dword) (n : Nat) (ok : Bool) : Res (Dword × State) :=
  (checkBound ok false).bind fun _ => s.loadVirt va n

/-- A bound-checked store. -/
def State.boundStore (s : State) (va : Dword) (n : Nat) (ok : Bool) (v : Dword) : Res State :=
  (checkBound ok true).bind fun _ => s.storeVirt va n v

/-- A load of the left part of an aligned block, joined with the old value (49_fpu_move_mem.md rule R1143). -/
def State.leftLoad (s : State) (va : Dword) (n : Nat) (old : Dword) : Res (Dword × State) :=
  (s.loadAround va n).bind fun p => .ok (mergeLeft n va p.1 old, p.2)

/-- The right part. -/
def State.rightLoad (s : State) (va : Dword) (n : Nat) (old : Dword) : Res (Dword × State) :=
  (s.loadAround va n).bind fun p => .ok (mergeRight n va p.1 old, p.2)

/-- LWC1 (49_fpu_move_mem.md rule R1113). -/
def execLwc1 (base : BitVec 5) (ft : BitVec 5) (imm : BitVec 16) (s : State) : Out :=
  needCop 1 s (s.loadF32 ft (s.loadVirt (s.ea base imm) 4))

/-- LDC1 (49_fpu_move_mem.md rule R1110). -/
def execLdc1 (base : BitVec 5) (ft : BitVec 5) (imm : BitVec 16) (s : State) : Out :=
  needCop 1 s (s.loadF64 ft (s.loadVirt (s.ea base imm) 8))

/-- SWC1 (49_fpu_move_mem.md rule R1118). -/
def execSwc1 (base : BitVec 5) (ft : BitVec 5) (imm : BitVec 16) (s : State) : Out :=
  needCop 1 s (s.storeDone (s.storeVirt (s.ea base imm) 4 (s.f32 ft)))

/-- SDC1 (49_fpu_move_mem.md rule R1115). -/
def execSdc1 (base : BitVec 5) (ft : BitVec 5) (imm : BitVec 16) (s : State) : Out :=
  needCop 1 s (needEven s [ft] (s.storeDone (s.storeVirt (s.ea base imm) 8 (s.readFpr ft))))

/-- LWXC1 (49_fpu_move_mem.md rule R1114). -/
def execLwxc1 (base : BitVec 5) (index : BitVec 5) (fd : BitVec 5) (s : State) : Out :=
  needCop 1 s (s.loadF32 fd (s.loadVirt (s.eaIndexed base index) 4))

/-- LDXC1 (49_fpu_move_mem.md rule R1111). -/
def execLdxc1 (base : BitVec 5) (index : BitVec 5) (fd : BitVec 5) (s : State) : Out :=
  needCop 1 s (s.loadF64 fd (s.loadVirt (s.eaIndexed base index) 8))

/-- SWXC1 (49_fpu_move_mem.md rule R1119). -/
def execSwxc1 (base : BitVec 5) (index : BitVec 5) (fs : BitVec 5) (s : State) : Out :=
  needCop 1 s (s.storeDone (s.storeVirt (s.eaIndexed base index) 4 (s.f32 fs)))

/-- SDXC1 (49_fpu_move_mem.md rule R1116). -/
def execSdxc1 (base : BitVec 5) (index : BitVec 5) (fs : BitVec 5) (s : State) : Out :=
  needCop 1 s (needEven s [fs] (s.storeDone (s.storeVirt (s.eaIndexed base index) 8 (s.readFpr fs))))

/-- LUXC1 (49_fpu_move_mem.md rule R1112). -/
def execLuxc1 (base : BitVec 5) (index : BitVec 5) (fd : BitVec 5) (s : State) : Out :=
  needCop 1 s (s.loadF64 fd (s.loadVirt (s.eaIndexed base index &&& ~~~7#64) 8))

/-- SUXC1 (49_fpu_move_mem.md rule R1117). -/
def execSuxc1 (base : BitVec 5) (index : BitVec 5) (fs : BitVec 5) (s : State) : Out :=
  needCop 1 s (needEven s [fs] (s.storeDone (s.storeVirt (s.eaIndexed base index &&& ~~~7#64) 8 (s.readFpr fs))))

/-- GSLWLEC1 (49_fpu_move_mem.md rule R1124). -/
def execGslwlec1 (base : BitVec 5) (ft : BitVec 5) (rd : BitVec 5) (s : State) : Out :=
  gate21 s (s.loadF32 ft (s.boundLoad (s.readGpr base) 4 (boundLe (s.readGpr base) (s.readGpr rd))))

/-- GSLDLEC1 (49_fpu_move_mem.md rule R1130). -/
def execGsldlec1 (base : BitVec 5) (ft : BitVec 5) (rd : BitVec 5) (s : State) : Out :=
  gate21 s (s.loadF64 ft (s.boundLoad (s.readGpr base) 8 (boundLe (s.readGpr base) (s.readGpr rd))))

/-- GSSWLEC1 (49_fpu_move_mem.md rule R1121). -/
def execGsswlec1 (base : BitVec 5) (ft : BitVec 5) (rd : BitVec 5) (s : State) : Out :=
  gate21 s (s.storeDone (s.boundStore (s.readGpr base) 4 (boundLe (s.readGpr base) (s.readGpr rd)) (s.f32 ft)))

/-- GSSDLEC1 (49_fpu_move_mem.md rule R1138). -/
def execGssdlec1 (base : BitVec 5) (ft : BitVec 5) (rd : BitVec 5) (s : State) : Out :=
  gate21 s (needEven s [ft] (s.storeDone (s.boundStore (s.readGpr base) 8 (boundLe (s.readGpr base) (s.readGpr rd)) (s.readFpr ft))))

/-- GSLWGTC1 (49_fpu_move_mem.md rule R1129). -/
def execGslwgtc1 (base : BitVec 5) (ft : BitVec 5) (rd : BitVec 5) (s : State) : Out :=
  gate21 s (s.loadF32 ft (s.boundLoad (s.readGpr base) 4 (!boundLe (s.readGpr base) (s.readGpr rd))))

/-- GSLDGTC1 (49_fpu_move_mem.md rule R1131). -/
def execGsldgtc1 (base : BitVec 5) (ft : BitVec 5) (rd : BitVec 5) (s : State) : Out :=
  gate21 s (s.loadF64 ft (s.boundLoad (s.readGpr base) 8 (!boundLe (s.readGpr base) (s.readGpr rd))))

/-- GSSWGTC1 (49_fpu_move_mem.md rule R1137). -/
def execGsswgtc1 (base : BitVec 5) (ft : BitVec 5) (rd : BitVec 5) (s : State) : Out :=
  gate21 s (s.storeDone (s.boundStore (s.readGpr base) 4 (!boundLe (s.readGpr base) (s.readGpr rd)) (s.f32 ft)))

/-- GSSDGTC1 (49_fpu_move_mem.md rule R1139). -/
def execGssdgtc1 (base : BitVec 5) (ft : BitVec 5) (rd : BitVec 5) (s : State) : Out :=
  gate21 s (needEven s [ft] (s.storeDone (s.boundStore (s.readGpr base) 8 (!boundLe (s.readGpr base) (s.readGpr rd)) (s.readFpr ft))))

/-- GSLWXC1 (49_fpu_move_mem.md rule R1122). -/
def execGslwxc1 (base : BitVec 5) (ft : BitVec 5) (index : BitVec 5) (off : BitVec 8) (s : State) : Out :=
  gate21 s (s.loadF32 ft (s.loadVirt (s.eaIndexed8 base index off) 4))

/-- GSLDXC1 (49_fpu_move_mem.md rule R1132). -/
def execGsldxc1 (base : BitVec 5) (ft : BitVec 5) (index : BitVec 5) (off : BitVec 8) (s : State) : Out :=
  gate21 s (s.loadF64 ft (s.loadVirt (s.eaIndexed8 base index off) 8))

/-- GSSWXC1 (49_fpu_move_mem.md rule R1140). -/
def execGsswxc1 (base : BitVec 5) (ft : BitVec 5) (index : BitVec 5) (off : BitVec 8) (s : State) : Out :=
  gate21 s (s.storeDone (s.storeVirt (s.eaIndexed8 base index off) 4 (s.f32 ft)))

/-- GSSDXC1 (49_fpu_move_mem.md rule R1141). -/
def execGssdxc1 (base : BitVec 5) (ft : BitVec 5) (index : BitVec 5) (off : BitVec 8) (s : State) : Out :=
  gate21 s (needEven s [ft] (s.storeDone (s.storeVirt (s.eaIndexed8 base index off) 8 (s.readFpr ft))))

/-- GSLWLC1 (49_fpu_move_mem.md rule R1125). -/
def execGslwlc1 (base : BitVec 5) (ft : BitVec 5) (off : BitVec 8) (s : State) : Out :=
  gate21 s (s.loadF32 ft (s.leftLoad (s.ea8 base off) 4 (s.f32 ft)))

/-- GSLDLC1 (49_fpu_move_mem.md rule R1127). -/
def execGsldlc1 (base : BitVec 5) (ft : BitVec 5) (off : BitVec 8) (s : State) : Out :=
  gate21 s (s.loadF64 ft (s.leftLoad (s.ea8 base off) 8 (s.readFpr ft)))

/-- GSSWLC1 (49_fpu_move_mem.md rule R1133). -/
def execGsswlc1 (base : BitVec 5) (ft : BitVec 5) (off : BitVec 8) (s : State) : Out :=
  gate21 s (s.storeDone (s.storeLeft (s.ea8 base off) 4 (s.f32 ft)))

/-- GSSDLC1 (49_fpu_move_mem.md rule R1135). -/
def execGssdlc1 (base : BitVec 5) (ft : BitVec 5) (off : BitVec 8) (s : State) : Out :=
  gate21 s (needEven s [ft] (s.storeDone (s.storeLeft (s.ea8 base off) 8 (s.readFpr ft))))

/-- GSLWRC1 (49_fpu_move_mem.md rule R1126). -/
def execGslwrc1 (base : BitVec 5) (ft : BitVec 5) (off : BitVec 8) (s : State) : Out :=
  gate21 s (s.loadF32 ft (s.rightLoad (s.ea8 base off) 4 (s.f32 ft)))

/-- GSLDRC1 (49_fpu_move_mem.md rule R1128). -/
def execGsldrc1 (base : BitVec 5) (ft : BitVec 5) (off : BitVec 8) (s : State) : Out :=
  gate21 s (s.loadF64 ft (s.rightLoad (s.ea8 base off) 8 (s.readFpr ft)))

/-- GSSWRC1 (49_fpu_move_mem.md rule R1134). -/
def execGsswrc1 (base : BitVec 5) (ft : BitVec 5) (off : BitVec 8) (s : State) : Out :=
  gate21 s (s.storeDone (s.storeRight (s.ea8 base off) 4 (s.f32 ft)))

/-- GSSDRC1 (49_fpu_move_mem.md rule R1136). -/
def execGssdrc1 (base : BitVec 5) (ft : BitVec 5) (off : BitVec 8) (s : State) : Out :=
  gate21 s (needEven s [ft] (s.storeDone (s.storeRight (s.ea8 base off) 8 (s.readFpr ft))))

/-- GSLQC1 (49_fpu_move_mem.md rule R1123). -/
def execGslqc1 (base : BitVec 5) (ft : BitVec 5) (off : BitVec 9) (rq : BitVec 5) (s : State) : Out :=
  gate21 s (needEven s [ft, rq] ((s.loadQuad (s.ea9 base off)).finish s fun p =>
    if ft = rq then .next (p.2.writeFpr ft (s.quadPick p.1.1 p.1.2)).advance
    else .next ((p.2.writeFpr ft p.1.1).writeFpr rq p.1.2).advance))

/-- GSSQC1 (49_fpu_move_mem.md rule R1120). -/
def execGssqc1 (base : BitVec 5) (ft : BitVec 5) (off : BitVec 9) (rq : BitVec 5) (s : State) : Out :=
  gate21 s (needEven s [ft, rq]
    (s.storeDone (s.storeQuad (s.ea9 base off) (s.readFpr ft) (s.readFpr rq))))

end Sys2Proof.Machine
end

