-- ==== Sys2Proof/Machine/Misc.lean ====
section
/-!
DEFINITION. System call, breakpoint, barriers, traps, conditional moves (46_misc_trap_cmov.md rules R540 to R563).
-/
namespace Sys2Proof.Machine

/-- A conditional trap (46_misc_trap_cmov.md rule R547). -/
def State.trapIf (s : State) (c : Bool) : Out := if c then raise .tr s else .next s.advance

/-- A conditional move (46_misc_trap_cmov.md rules R560 to R563). -/
def State.moveIf (s : State) (c : Bool) (rd rs : BitVec 5) : Out :=
  .next ((if c then s.writeGpr rd (s.readGpr rs) else s).advance)

/-- NOP (46_misc_trap_cmov.md rule R543). -/
def execNop (s : State) : Out := .next s.advance

/-- SSNOP (46_misc_trap_cmov.md rule R544). -/
def execSsnop (s : State) : Out := .next s.advance

/-- EHB (46_misc_trap_cmov.md rule R540). -/
def execEhb (s : State) : Out := .next s.advance

/-- SYSCALL (46_misc_trap_cmov.md rule R541). -/
def execSyscall (_code : BitVec 20) (s : State) : Out := raise .sys s

/-- BREAK (46_misc_trap_cmov.md rule R542). -/
def execBrk (_code : BitVec 20) (s : State) : Out := raise .bp s

/-- SYNC (46_misc_trap_cmov.md rule R545): logs 19, 20. -/
def execSync (stype : BitVec 5) (s : State) : Out :=
  let allowed := s.isKernel || s.cu 0
  if stype = 0 then
    if allowed || !Config.syncUserRaisesCpU then .next s.synchronise.advance else raise (.cpU 0) s
  else if !allowed && Config.syncUserRaisesCpU && Config.syncPrivilegeFirst then raise (.cpU 0) s
  else raise .ri s

/-- SYNCI (46_misc_trap_cmov.md rule R546): no effect beside the exceptions of a translation (log 23). -/
def execSynci (base : BitVec 5) (imm : BitVec 16) (s : State) : Out :=
  if Config.syncITranslates then
    (s.translate (s.ea base imm) .load).finish s fun _ => .next s.advance
  else .next s.advance

/-- TGE (46_misc_trap_cmov.md rule R548). -/
def execTge (rs : BitVec 5) (rt : BitVec 5) (_code : BitVec 10) (s : State) : Out :=
  s.trapIf ((s.readGpr rt).sle (s.readGpr rs))

/-- TGEU (46_misc_trap_cmov.md rule R549). -/
def execTgeu (rs : BitVec 5) (rt : BitVec 5) (_code : BitVec 10) (s : State) : Out :=
  s.trapIf ((s.readGpr rt).ule (s.readGpr rs))

/-- TLT (46_misc_trap_cmov.md rule R550). -/
def execTlt (rs : BitVec 5) (rt : BitVec 5) (_code : BitVec 10) (s : State) : Out :=
  s.trapIf ((s.readGpr rs).slt (s.readGpr rt))

/-- TLTU (46_misc_trap_cmov.md rule R551). -/
def execTltu (rs : BitVec 5) (rt : BitVec 5) (_code : BitVec 10) (s : State) : Out :=
  s.trapIf ((s.readGpr rs).ult (s.readGpr rt))

/-- TEQ (46_misc_trap_cmov.md rule R552). -/
def execTeq (rs : BitVec 5) (rt : BitVec 5) (_code : BitVec 10) (s : State) : Out :=
  s.trapIf (s.readGpr rs == s.readGpr rt)

/-- TNE (46_misc_trap_cmov.md rule R553). -/
def execTne (rs : BitVec 5) (rt : BitVec 5) (_code : BitVec 10) (s : State) : Out :=
  s.trapIf (s.readGpr rs != s.readGpr rt)

/-- TGEI (46_misc_trap_cmov.md rule R554). -/
def execTgei (rs : BitVec 5) (imm : BitVec 16) (s : State) : Out :=
  s.trapIf ((simm imm).sle (s.readGpr rs))

/-- TGEIU (46_misc_trap_cmov.md rule R555). -/
def execTgeiu (rs : BitVec 5) (imm : BitVec 16) (s : State) : Out :=
  s.trapIf ((simm imm).ule (s.readGpr rs))

/-- TLTI (46_misc_trap_cmov.md rule R556). -/
def execTlti (rs : BitVec 5) (imm : BitVec 16) (s : State) : Out :=
  s.trapIf ((s.readGpr rs).slt (simm imm))

/-- TLTIU (46_misc_trap_cmov.md rule R557). -/
def execTltiu (rs : BitVec 5) (imm : BitVec 16) (s : State) : Out :=
  s.trapIf ((s.readGpr rs).ult (simm imm))

/-- TEQI (46_misc_trap_cmov.md rule R558). -/
def execTeqi (rs : BitVec 5) (imm : BitVec 16) (s : State) : Out := s.trapIf (s.readGpr rs == simm imm)

/-- TNEI (46_misc_trap_cmov.md rule R559). -/
def execTnei (rs : BitVec 5) (imm : BitVec 16) (s : State) : Out := s.trapIf (s.readGpr rs != simm imm)

/-- MOVN (46_misc_trap_cmov.md rule R560). -/
def execMovn (rs : BitVec 5) (rt : BitVec 5) (rd : BitVec 5) (s : State) : Out :=
  s.moveIf (s.readGpr rt != 0) rd rs

/-- MOVZ (46_misc_trap_cmov.md rule R561). -/
def execMovz (rs : BitVec 5) (rt : BitVec 5) (rd : BitVec 5) (s : State) : Out :=
  s.moveIf (s.readGpr rt == 0) rd rs

/-- MOVF (46_misc_trap_cmov.md rule R562). -/
def execMovf (rs : BitVec 5) (cc : BitVec 3) (rd : BitVec 5) (s : State) : Out :=
  needCop 1 s (s.moveIf (!s.fcc cc) rd rs)

/-- MOVT (46_misc_trap_cmov.md rule R563). -/
def execMovt (rs : BitVec 5) (cc : BitVec 3) (rd : BitVec 5) (s : State) : Out :=
  needCop 1 s (s.moveIf (s.fcc cc) rd rs)

end Sys2Proof.Machine
end

