-- ==== Sys2Proof/Machine/Mmi.lean ====
section
/-!
DEFINITION. Multimedia instructions on floating-point registers (48_custom_mmi.md rules R700 to R791).
-/
namespace Sys2Proof.Machine

/-- The gate of the multimedia instructions (48_custom_mmi.md rule R700); CU2 = 1 with CU1 = 0 by choice
(log 26). -/
def mmiGate (s : State) (regs : List (BitVec 5)) (k : Out) : Out :=
  needCop 2 s
    (if !s.copUsable 1 && Config.mmiRaisesCpU1 then raise (.cpU 1) s else needEven s regs k)

/-- A three-register multimedia instruction. -/
def State.mmi (s : State) (ft fs fd : BitVec 5) (f : Dword → Dword → Dword) : Out :=
  mmiGate s [ft, fs, fd] (.next (s.writeFpr fd (f (s.readFpr fs) (s.readFpr ft))).advance)

/-- A two-register multimedia instruction. -/
def State.mmi1 (s : State) (fs fd : BitVec 5) (f : Dword → Dword) : Out :=
  mmiGate s [fs, fd] (.next (s.writeFpr fd (f (s.readFpr fs))).advance)

/-- A compare-and-set form: the result is condition code 0 (48_custom_mmi.md rules R775, R790). -/
def State.mmiCompare (s : State) (ft fs : BitVec 5) (f : Dword → Dword → Bool) : Out :=
  mmiGate s [ft, fs]
    (.next (s.setFcsr (setFcc s.fcsr 0 (f (s.readFpr fs) (s.readFpr ft)))).advance)

/-- A signed add or subtract that traps on overflow (48_custom_mmi.md rule R703). -/
def State.mmiTrap (s : State) (ft fs fd : BitVec 5) (w : Nat) (t : Int) : Out :=
  mmiGate s [ft, fs, fd]
    (if overflows w t then raise .ov s else .next (s.writeFpr fd (sextLow w (BitVec.ofInt 64 t))).advance)

/-! ### Lanes (48_custom_mmi.md rule R701) -/

/-- `f` on each pair of halfwords. -/
def onHalves (f : BitVec 16 → BitVec 16 → BitVec 16) (a b : Dword) : Dword :=
  ofHalves fun i => f (lane 16 a i) (lane 16 b i)

/-- `f` on each pair of words. -/
def onWords (f : BitVec 32 → BitVec 32 → BitVec 32) (a b : Dword) : Dword :=
  ofWords fun i => f (lane 32 a i) (lane 32 b i)

/-- `f` on each pair of bytes. -/
def onBytes (f : BitVec 8 → BitVec 8 → BitVec 8) (a b : Dword) : Dword :=
  ofBytes fun i => f (lane 8 a i) (lane 8 b i)

/-- `sat_s<w>` (48_custom_mmi.md rule R701). -/
def satS (w : Nat) (v : Int) : BitVec w :=
  BitVec.ofInt w (max (-(2 ^ (w - 1) : Int)) (min ((2 ^ (w - 1) : Int) - 1) v))

/-- `sat_u<w>` (48_custom_mmi.md rule R701). -/
def satU (w : Nat) (v : Int) : BitVec w := BitVec.ofInt w (max 0 (min ((2 ^ w : Int) - 1) v))

/-- Signed saturating sum. -/
def addS {w : Nat} (a b : BitVec w) : BitVec w := satS w (a.toInt + b.toInt)
/-- Unsigned saturating sum. -/
def addU {w : Nat} (a b : BitVec w) : BitVec w := satU w (a.toNat + b.toNat)
/-- Signed saturating difference. -/
def subS {w : Nat} (a b : BitVec w) : BitVec w := satS w (a.toInt - b.toInt)
/-- Unsigned saturating difference. -/
def subU {w : Nat} (a b : BitVec w) : BitVec w := satU w (a.toNat - b.toNat)
/-- All ones or all zeros. -/
def onesIf {w : Nat} (c : Bool) : BitVec w := if c then BitVec.allOnes w else 0
/-- The rounded average (48_custom_mmi.md rule R739). -/
def avgU {w : Nat} (a b : BitVec w) : BitVec w := BitVec.ofNat w ((a.toNat + b.toNat + 1) / 2)
/-- The absolute difference (48_custom_mmi.md rule R763). -/
def absDiff {w : Nat} (a b : BitVec w) : BitVec w := if a.ult b then b - a else a - b

/-- The shift count ft[6:0] (48_custom_mmi.md rule R751). -/
def count7 (v : Dword) : Nat := (v.setWidth 7).toNat
/-- A left shift; a count above the lane gives 0 (48_custom_mmi.md rule R751). -/
def shl {w : Nat} (n : Nat) (a : BitVec w) : BitVec w := if n < w then a <<< n else 0
/-- A logical right shift; a count above the lane gives 0 (48_custom_mmi.md rule R757). -/
def shr {w : Nat} (n : Nat) (a : BitVec w) : BitVec w := if n < w then a >>> n else 0
/-- An arithmetic right shift; a count above the lane acts as the largest (48_custom_mmi.md rule R759). -/
def sar {w : Nat} (n : Nat) (a : BitVec w) : BitVec w := a.sshiftRight (min n (w - 1))

/-- `fs` with halfword `i` replaced by the low halfword of `ft` (48_custom_mmi.md rule R735). -/
def insertHalf (i : Nat) (a b : Dword) : Dword := ofHalves fun k => if k = i then lane 16 b 0 else lane 16 a k

/-- The sum of two products of halfwords (48_custom_mmi.md rule R765). -/
def maddHalves (a b : Dword) (i : Nat) : BitVec 32 :=
  BitVec.ofInt 32 ((lane 16 a (2 * i)).toInt * (lane 16 b (2 * i)).toInt +
    (lane 16 a (2 * i + 1)).toInt * (lane 16 b (2 * i + 1)).toInt)

/-- The signed halfword product, as 32 bits (48_custom_mmi.md rules R753, R754). -/
def mulHalvesS (a b : BitVec 16) : BitVec 32 := BitVec.ofInt 32 (a.toInt * b.toInt)
/-- The unsigned halfword product, as 32 bits (48_custom_mmi.md rule R756). -/
def mulHalvesU (a b : BitVec 16) : BitVec 32 := BitVec.ofNat 32 (a.toNat * b.toNat)

/-- The sum of the eight bytes (48_custom_mmi.md rule R766). -/
def sumBytes (a : Dword) : Nat :=
  (List.range 8).foldl (fun t i => t + (lane 8 a i).toNat) 0

/-- The sign bits of the eight bytes (48_custom_mmi.md rule R767). -/
def signBits (a : Dword) : Dword :=
  BitVec.ofNat 64 ((List.range 8).foldl (fun t i => t + (lane 8 a i).msb.toNat * 2 ^ i) 0)

/-- PADDSH (48_custom_mmi.md rule R710). -/
def execPaddsh (ft : BitVec 5) (fs : BitVec 5) (fd : BitVec 5) (s : State) : Out :=
  s.mmi ft fs fd (onHalves addS)

/-- PADDUSH (48_custom_mmi.md rule R711). -/
def execPaddush (ft : BitVec 5) (fs : BitVec 5) (fd : BitVec 5) (s : State) : Out :=
  s.mmi ft fs fd (onHalves addU)

/-- PADDH (48_custom_mmi.md rule R712). -/
def execPaddh (ft : BitVec 5) (fs : BitVec 5) (fd : BitVec 5) (s : State) : Out :=
  s.mmi ft fs fd (onHalves (· + ·))

/-- PADDW (48_custom_mmi.md rule R713). -/
def execPaddw (ft : BitVec 5) (fs : BitVec 5) (fd : BitVec 5) (s : State) : Out :=
  s.mmi ft fs fd (onWords (· + ·))

/-- PADDSB (48_custom_mmi.md rule R714). -/
def execPaddsb (ft : BitVec 5) (fs : BitVec 5) (fd : BitVec 5) (s : State) : Out :=
  s.mmi ft fs fd (onBytes addS)

/-- PADDUSB (48_custom_mmi.md rule R715). -/
def execPaddusb (ft : BitVec 5) (fs : BitVec 5) (fd : BitVec 5) (s : State) : Out :=
  s.mmi ft fs fd (onBytes addU)

/-- PADDB (48_custom_mmi.md rule R716). -/
def execPaddb (ft : BitVec 5) (fs : BitVec 5) (fd : BitVec 5) (s : State) : Out :=
  s.mmi ft fs fd (onBytes (· + ·))

/-- PADDD (48_custom_mmi.md rule R717). -/
def execPaddd (ft : BitVec 5) (fs : BitVec 5) (fd : BitVec 5) (s : State) : Out := s.mmi ft fs fd (· + ·)

/-- PSUBSH (48_custom_mmi.md rule R718). -/
def execPsubsh (ft : BitVec 5) (fs : BitVec 5) (fd : BitVec 5) (s : State) : Out :=
  s.mmi ft fs fd (onHalves subS)

/-- PSUBUSH (48_custom_mmi.md rule R719). -/
def execPsubush (ft : BitVec 5) (fs : BitVec 5) (fd : BitVec 5) (s : State) : Out :=
  s.mmi ft fs fd (onHalves subU)

/-- PSUBH (48_custom_mmi.md rule R720). -/
def execPsubh (ft : BitVec 5) (fs : BitVec 5) (fd : BitVec 5) (s : State) : Out :=
  s.mmi ft fs fd (onHalves (· - ·))

/-- PSUBW (48_custom_mmi.md rule R721). -/
def execPsubw (ft : BitVec 5) (fs : BitVec 5) (fd : BitVec 5) (s : State) : Out :=
  s.mmi ft fs fd (onWords (· - ·))

/-- PSUBSB (48_custom_mmi.md rule R722). -/
def execPsubsb (ft : BitVec 5) (fs : BitVec 5) (fd : BitVec 5) (s : State) : Out :=
  s.mmi ft fs fd (onBytes subS)

/-- PSUBUSB (48_custom_mmi.md rule R723). -/
def execPsubusb (ft : BitVec 5) (fs : BitVec 5) (fd : BitVec 5) (s : State) : Out :=
  s.mmi ft fs fd (onBytes subU)

/-- PSUBB (48_custom_mmi.md rule R724). -/
def execPsubb (ft : BitVec 5) (fs : BitVec 5) (fd : BitVec 5) (s : State) : Out :=
  s.mmi ft fs fd (onBytes (· - ·))

/-- PSUBD (48_custom_mmi.md rule R725). -/
def execPsubd (ft : BitVec 5) (fs : BitVec 5) (fd : BitVec 5) (s : State) : Out := s.mmi ft fs fd (· - ·)

/-- PSHUFH (48_custom_mmi.md rule R726). -/
def execPshufh (ft : BitVec 5) (fs : BitVec 5) (fd : BitVec 5) (s : State) : Out :=
  s.mmi ft fs fd fun a b => ofHalves fun i => lane 16 a (b.extractLsb' (2 * i) 2).toNat

/-- PACKSSWH (48_custom_mmi.md rule R727). -/
def execPacksswh (ft : BitVec 5) (fs : BitVec 5) (fd : BitVec 5) (s : State) : Out :=
  s.mmi ft fs fd fun a b => ofHalves fun i =>
    satS 16 (lane 32 (if i < 2 then a else b) (i % 2)).toInt

/-- PACKSSHB (48_custom_mmi.md rule R728). -/
def execPacksshb (ft : BitVec 5) (fs : BitVec 5) (fd : BitVec 5) (s : State) : Out :=
  s.mmi ft fs fd fun a b => ofBytes fun i =>
    satS 8 (lane 16 (if i < 4 then a else b) (i % 4)).toInt

/-- PACKUSHB (48_custom_mmi.md rule R729). -/
def execPackushb (ft : BitVec 5) (fs : BitVec 5) (fd : BitVec 5) (s : State) : Out :=
  s.mmi ft fs fd fun a b => ofBytes fun i =>
    satU 8 (lane 16 (if i < 4 then a else b) (i % 4)).toInt

/-- PANDN (48_custom_mmi.md rule R730). -/
def execPandn (ft : BitVec 5) (fs : BitVec 5) (fd : BitVec 5) (s : State) : Out :=
  s.mmi ft fs fd fun a b => ~~~a &&& b

/-- PUNPCKLHW (48_custom_mmi.md rule R731). -/
def execPunpcklhw (ft : BitVec 5) (fs : BitVec 5) (fd : BitVec 5) (s : State) : Out :=
  s.mmi ft fs fd fun a b => ofHalves fun i => lane 16 (if i % 2 = 0 then a else b) (i / 2)

/-- PUNPCKHHW (48_custom_mmi.md rule R732). -/
def execPunpckhhw (ft : BitVec 5) (fs : BitVec 5) (fd : BitVec 5) (s : State) : Out :=
  s.mmi ft fs fd fun a b => ofHalves fun i => lane 16 (if i % 2 = 0 then a else b) (i / 2 + 2)

/-- PUNPCKLBH (48_custom_mmi.md rule R733). -/
def execPunpcklbh (ft : BitVec 5) (fs : BitVec 5) (fd : BitVec 5) (s : State) : Out :=
  s.mmi ft fs fd fun a b => ofBytes fun i => lane 8 (if i % 2 = 0 then a else b) (i / 2)

/-- PUNPCKHBH (48_custom_mmi.md rule R734). -/
def execPunpckhbh (ft : BitVec 5) (fs : BitVec 5) (fd : BitVec 5) (s : State) : Out :=
  s.mmi ft fs fd fun a b => ofBytes fun i => lane 8 (if i % 2 = 0 then a else b) (i / 2 + 4)

/-- PINSRH_0 (48_custom_mmi.md rule R735). -/
def execPinsrh0 (ft : BitVec 5) (fs : BitVec 5) (fd : BitVec 5) (s : State) : Out :=
  s.mmi ft fs fd (insertHalf 0)

/-- PINSRH_1 (48_custom_mmi.md rule R736). -/
def execPinsrh1 (ft : BitVec 5) (fs : BitVec 5) (fd : BitVec 5) (s : State) : Out :=
  s.mmi ft fs fd (insertHalf 1)

/-- PINSRH_2 (48_custom_mmi.md rule R737). -/
def execPinsrh2 (ft : BitVec 5) (fs : BitVec 5) (fd : BitVec 5) (s : State) : Out :=
  s.mmi ft fs fd (insertHalf 2)

/-- PINSRH_3 (48_custom_mmi.md rule R738). -/
def execPinsrh3 (ft : BitVec 5) (fs : BitVec 5) (fd : BitVec 5) (s : State) : Out :=
  s.mmi ft fs fd (insertHalf 3)

/-- PAVGH (48_custom_mmi.md rule R739). -/
def execPavgh (ft : BitVec 5) (fs : BitVec 5) (fd : BitVec 5) (s : State) : Out :=
  s.mmi ft fs fd (onHalves avgU)

/-- PAVGB (48_custom_mmi.md rule R740). -/
def execPavgb (ft : BitVec 5) (fs : BitVec 5) (fd : BitVec 5) (s : State) : Out :=
  s.mmi ft fs fd (onBytes avgU)

/-- PMAXSH (48_custom_mmi.md rule R741). -/
def execPmaxsh (ft : BitVec 5) (fs : BitVec 5) (fd : BitVec 5) (s : State) : Out :=
  s.mmi ft fs fd (onHalves fun a b => if b.sle a then a else b)

/-- PMINSH (48_custom_mmi.md rule R742). -/
def execPminsh (ft : BitVec 5) (fs : BitVec 5) (fd : BitVec 5) (s : State) : Out :=
  s.mmi ft fs fd (onHalves fun a b => if a.sle b then a else b)

/-- PMAXUB (48_custom_mmi.md rule R743). -/
def execPmaxub (ft : BitVec 5) (fs : BitVec 5) (fd : BitVec 5) (s : State) : Out :=
  s.mmi ft fs fd (onBytes fun a b => if b.ule a then a else b)

/-- PMINUB (48_custom_mmi.md rule R744). -/
def execPminub (ft : BitVec 5) (fs : BitVec 5) (fd : BitVec 5) (s : State) : Out :=
  s.mmi ft fs fd (onBytes fun a b => if a.ule b then a else b)

/-- PCMPEQW (48_custom_mmi.md rule R745). -/
def execPcmpeqw (ft : BitVec 5) (fs : BitVec 5) (fd : BitVec 5) (s : State) : Out :=
  s.mmi ft fs fd (onWords fun a b => onesIf (a == b))

/-- PCMPGTW (48_custom_mmi.md rule R746). -/
def execPcmpgtw (ft : BitVec 5) (fs : BitVec 5) (fd : BitVec 5) (s : State) : Out :=
  s.mmi ft fs fd (onWords fun a b => onesIf (b.slt a))

/-- PCMPEQH (48_custom_mmi.md rule R747). -/
def execPcmpeqh (ft : BitVec 5) (fs : BitVec 5) (fd : BitVec 5) (s : State) : Out :=
  s.mmi ft fs fd (onHalves fun a b => onesIf (a == b))

/-- PCMPGTH (48_custom_mmi.md rule R748). -/
def execPcmpgth (ft : BitVec 5) (fs : BitVec 5) (fd : BitVec 5) (s : State) : Out :=
  s.mmi ft fs fd (onHalves fun a b => onesIf (b.slt a))

/-- PCMPEQB (48_custom_mmi.md rule R749). -/
def execPcmpeqb (ft : BitVec 5) (fs : BitVec 5) (fd : BitVec 5) (s : State) : Out :=
  s.mmi ft fs fd (onBytes fun a b => onesIf (a == b))

/-- PCMPGTB (48_custom_mmi.md rule R750). -/
def execPcmpgtb (ft : BitVec 5) (fs : BitVec 5) (fd : BitVec 5) (s : State) : Out :=
  s.mmi ft fs fd (onBytes fun a b => onesIf (b.slt a))

/-- PSLLW (48_custom_mmi.md rule R751). -/
def execPsllw (ft : BitVec 5) (fs : BitVec 5) (fd : BitVec 5) (s : State) : Out :=
  s.mmi ft fs fd fun a b => onWords (fun x _ => shl (count7 b) x) a b

/-- PSLLH (48_custom_mmi.md rule R752). -/
def execPsllh (ft : BitVec 5) (fs : BitVec 5) (fd : BitVec 5) (s : State) : Out :=
  s.mmi ft fs fd fun a b => onHalves (fun x _ => shl (count7 b) x) a b

/-- PSRLW (48_custom_mmi.md rule R757). -/
def execPsrlw (ft : BitVec 5) (fs : BitVec 5) (fd : BitVec 5) (s : State) : Out :=
  s.mmi ft fs fd fun a b => onWords (fun x _ => shr (count7 b) x) a b

/-- PSRLH (48_custom_mmi.md rule R758). -/
def execPsrlh (ft : BitVec 5) (fs : BitVec 5) (fd : BitVec 5) (s : State) : Out :=
  s.mmi ft fs fd fun a b => onHalves (fun x _ => shr (count7 b) x) a b

/-- PSRAW (48_custom_mmi.md rule R759). -/
def execPsraw (ft : BitVec 5) (fs : BitVec 5) (fd : BitVec 5) (s : State) : Out :=
  s.mmi ft fs fd fun a b => onWords (fun x _ => sar (count7 b) x) a b

/-- PSRAH (48_custom_mmi.md rule R760). -/
def execPsrah (ft : BitVec 5) (fs : BitVec 5) (fd : BitVec 5) (s : State) : Out :=
  s.mmi ft fs fd fun a b => onHalves (fun x _ => sar (count7 b) x) a b

/-- PMULLH (48_custom_mmi.md rule R753). -/
def execPmullh (ft : BitVec 5) (fs : BitVec 5) (fd : BitVec 5) (s : State) : Out :=
  s.mmi ft fs fd (onHalves fun a b => (mulHalvesS a b).setWidth 16)

/-- PMULHH (48_custom_mmi.md rule R754). -/
def execPmulhh (ft : BitVec 5) (fs : BitVec 5) (fd : BitVec 5) (s : State) : Out :=
  s.mmi ft fs fd (onHalves fun a b => (mulHalvesS a b).extractLsb' 16 16)

/-- PMULUW (48_custom_mmi.md rule R755). -/
def execPmuluw (ft : BitVec 5) (fs : BitVec 5) (fd : BitVec 5) (s : State) : Out :=
  s.mmi ft fs fd fun a b => zextLow 32 a * zextLow 32 b

/-- PMULHUH (48_custom_mmi.md rule R756). -/
def execPmulhuh (ft : BitVec 5) (fs : BitVec 5) (fd : BitVec 5) (s : State) : Out :=
  s.mmi ft fs fd (onHalves fun a b => (mulHalvesU a b).extractLsb' 16 16)

/-- PUNPCKLWD (48_custom_mmi.md rule R761). -/
def execPunpcklwd (ft : BitVec 5) (fs : BitVec 5) (fd : BitVec 5) (s : State) : Out :=
  s.mmi ft fs fd fun a b => ofWords fun i => lane 32 (if i = 0 then a else b) 0

/-- PUNPCKHWD (48_custom_mmi.md rule R762). -/
def execPunpckhwd (ft : BitVec 5) (fs : BitVec 5) (fd : BitVec 5) (s : State) : Out :=
  s.mmi ft fs fd fun a b => ofWords fun i => lane 32 (if i = 0 then a else b) 1

/-- PASUBUB (48_custom_mmi.md rule R763). -/
def execPasubub (ft : BitVec 5) (fs : BitVec 5) (fd : BitVec 5) (s : State) : Out :=
  s.mmi ft fs fd (onBytes absDiff)

/-- PEXTRH (48_custom_mmi.md rule R764). -/
def execPextrh (ft : BitVec 5) (fs : BitVec 5) (fd : BitVec 5) (s : State) : Out :=
  s.mmi ft fs fd fun a b => (lane 16 a (b.setWidth 2).toNat).setWidth 64

/-- PMADDHW (48_custom_mmi.md rule R765). -/
def execPmaddhw (ft : BitVec 5) (fs : BitVec 5) (fd : BitVec 5) (s : State) : Out :=
  s.mmi ft fs fd fun a b => ofWords (maddHalves a b)

/-- BIADD (48_custom_mmi.md rule R766). -/
def execBiadd (fs : BitVec 5) (fd : BitVec 5) (s : State) : Out :=
  s.mmi1 fs fd fun a => BitVec.ofNat 64 (sumBytes a)

/-- PMOVMSKB (48_custom_mmi.md rule R767). -/
def execPmovmskb (fs : BitVec 5) (fd : BitVec 5) (s : State) : Out := s.mmi1 fs fd signBits

/-- GSXOR (48_custom_mmi.md rule R768). -/
def execGsxor (ft : BitVec 5) (fs : BitVec 5) (fd : BitVec 5) (s : State) : Out :=
  s.mmi ft fs fd (· ^^^ ·)

/-- GSNOR (48_custom_mmi.md rule R769). -/
def execGsnor (ft : BitVec 5) (fs : BitVec 5) (fd : BitVec 5) (s : State) : Out :=
  s.mmi ft fs fd fun a b => ~~~(a ||| b)

/-- GSAND (48_custom_mmi.md rule R770). -/
def execGsand (ft : BitVec 5) (fs : BitVec 5) (fd : BitVec 5) (s : State) : Out :=
  s.mmi ft fs fd (· &&& ·)

/-- GSOR (48_custom_mmi.md rule R772). -/
def execGsor (ft : BitVec 5) (fs : BitVec 5) (fd : BitVec 5) (s : State) : Out := s.mmi ft fs fd (· ||| ·)

/-- GSADDU (48_custom_mmi.md rule R771). -/
def execGsaddu (ft : BitVec 5) (fs : BitVec 5) (fd : BitVec 5) (s : State) : Out :=
  s.mmi ft fs fd fun a b => sextLow 32 (a + b)

/-- GSSUBU (48_custom_mmi.md rule R777). -/
def execGssubu (ft : BitVec 5) (fs : BitVec 5) (fd : BitVec 5) (s : State) : Out :=
  s.mmi ft fs fd fun a b => sextLow 32 (a - b)

/-- GSADD (48_custom_mmi.md rule R773). -/
def execGsadd (ft : BitVec 5) (fs : BitVec 5) (fd : BitVec 5) (s : State) : Out :=
  s.mmiTrap ft fs fd 32 ((lowWord (s.readFpr fs)).toInt + (lowWord (s.readFpr ft)).toInt)

/-- GSDADD (48_custom_mmi.md rule R774). -/
def execGsdadd (ft : BitVec 5) (fs : BitVec 5) (fd : BitVec 5) (s : State) : Out :=
  s.mmiTrap ft fs fd 64 ((s.readFpr fs).toInt + (s.readFpr ft).toInt)

/-- GSSUB (48_custom_mmi.md rule R778). -/
def execGssub (ft : BitVec 5) (fs : BitVec 5) (fd : BitVec 5) (s : State) : Out :=
  s.mmiTrap ft fs fd 32 ((lowWord (s.readFpr fs)).toInt - (lowWord (s.readFpr ft)).toInt)

/-- GSDSUB (48_custom_mmi.md rule R779). -/
def execGsdsub (ft : BitVec 5) (fs : BitVec 5) (fd : BitVec 5) (s : State) : Out :=
  s.mmiTrap ft fs fd 64 ((s.readFpr fs).toInt - (s.readFpr ft).toInt)

/-- GSSEQU (48_custom_mmi.md rule R775). -/
def execGssequ (ft : BitVec 5) (fs : BitVec 5) (s : State) : Out := s.mmiCompare ft fs (· == ·)

/-- GSSEQ (48_custom_mmi.md rule R776). -/
def execGsseq (ft : BitVec 5) (fs : BitVec 5) (s : State) : Out := s.mmiCompare ft fs (· == ·)

/-- GSSLTU (48_custom_mmi.md rule R780). -/
def execGssltu (ft : BitVec 5) (fs : BitVec 5) (s : State) : Out := s.mmiCompare ft fs BitVec.ult

/-- GSSLT (48_custom_mmi.md rule R781). -/
def execGsslt (ft : BitVec 5) (fs : BitVec 5) (s : State) : Out := s.mmiCompare ft fs BitVec.slt

/-- GSSLEU (48_custom_mmi.md rule R788). -/
def execGssleu (ft : BitVec 5) (fs : BitVec 5) (s : State) : Out := s.mmiCompare ft fs BitVec.ule

/-- GSSLE (48_custom_mmi.md rule R789). -/
def execGssle (ft : BitVec 5) (fs : BitVec 5) (s : State) : Out := s.mmiCompare ft fs BitVec.sle

/-- GSSLL (48_custom_mmi.md rule R782). -/
def execGssll (ft : BitVec 5) (fs : BitVec 5) (fd : BitVec 5) (s : State) : Out :=
  s.mmi ft fs fd fun a b => sextWord (shl (count7 b) (lowWord a))

/-- GSDSLL (48_custom_mmi.md rule R783). -/
def execGsdsll (ft : BitVec 5) (fs : BitVec 5) (fd : BitVec 5) (s : State) : Out :=
  s.mmi ft fs fd fun a b => shl (count7 b) a

/-- GSSRL (48_custom_mmi.md rule R784). -/
def execGssrl (ft : BitVec 5) (fs : BitVec 5) (fd : BitVec 5) (s : State) : Out :=
  s.mmi ft fs fd fun a b => sextWord (shr (count7 b) (lowWord a))

/-- GSDSRL (48_custom_mmi.md rule R785). -/
def execGsdsrl (ft : BitVec 5) (fs : BitVec 5) (fd : BitVec 5) (s : State) : Out :=
  s.mmi ft fs fd fun a b => shr (count7 b) a

/-- GSSRA (48_custom_mmi.md rule R786): a count above 31 leaves the result open (log 6). -/
def execGssra (ft : BitVec 5) (fs : BitVec 5) (fd : BitVec 5) (s : State) : Out :=
  s.mmi ft fs fd fun a b =>
    if count7 b ≤ 31 then sextWord ((lowWord a).sshiftRight (count7 b)) else s.free Slot.result

/-- GSDSRA (48_custom_mmi.md rule R787): a count above 63 leaves the result open (log 6). -/
def execGsdsra (ft : BitVec 5) (fs : BitVec 5) (fd : BitVec 5) (s : State) : Out :=
  s.mmi ft fs fd fun a b =>
    if count7 b ≤ 63 then a.sshiftRight (count7 b) else s.free Slot.result

end Sys2Proof.Machine
end

