-- ==== Sys2Proof/Machine/Shift.lean ====
section
/-!
DEFINITION. Shifts, rotates and bit fields (43_shift.md rules R430 to R459).
-/
namespace Sys2Proof.Machine

/-- A word shift; an operand that is not a sign-extended word leaves the result open (43_shift.md rule R458;
log 5). -/
def State.putShift (s : State) (rd rt : BitVec 5) (f : Word → Word) : Out :=
  s.putGpr rd (s.wordResult (isWordValue (s.readGpr rt)) (f (s.gprWord rt)))

/-- The shift amount of the variable word shifts: GPR[rs][4:0] (43_shift.md rule R458). -/
def State.shift5 (s : State) (rs : BitVec 5) : Nat := ((s.readGpr rs).setWidth 5).toNat

/-- The shift amount of the variable doubleword shifts: GPR[rs][5:0] (43_shift.md rule R458). -/
def State.shift6 (s : State) (rs : BitVec 5) : Nat := ((s.readGpr rs).setWidth 6).toNat

/-- An extracted field (43_shift.md rule R459): `size` bits from `pos`. -/
def extractField (v : Dword) (pos size : Nat) : Dword := (v >>> pos) &&& fieldMask 64 0 size

/-- A doubleword extract; a field beyond bit 63 leaves the result open (43_shift.md rule R459; log 6). -/
def State.putExtract (s : State) (rt rs : BitVec 5) (lsb msbd : Nat) : Out :=
  s.putGpr rt (if lsb + msbd ≤ 63 then extractField (s.readGpr rs) lsb (msbd + 1)
    else s.free Slot.result)

/-- A doubleword insert; lsb above msb leaves the result open (43_shift.md rule R459; log 6). -/
def State.putInsert (s : State) (rt rs : BitVec 5) (lsb msb : Nat) : Out :=
  s.putGpr rt (if lsb ≤ msb then putField (s.readGpr rt) lsb (msb - lsb + 1) (s.readGpr rs)
    else s.free Slot.result)

/-- SLL (43_shift.md rule R430). -/
def execSll (rt : BitVec 5) (rd : BitVec 5) (sa : BitVec 5) (s : State) : Out :=
  s.putGpr rd (sextWord (s.gprWord rt <<< sa.toNat))

/-- SRL (43_shift.md rule R431). -/
def execSrl (rt : BitVec 5) (rd : BitVec 5) (sa : BitVec 5) (s : State) : Out :=
  s.putShift rd rt (· >>> sa.toNat)

/-- SRA (43_shift.md rule R432). -/
def execSra (rt : BitVec 5) (rd : BitVec 5) (sa : BitVec 5) (s : State) : Out :=
  s.putShift rd rt (·.sshiftRight sa.toNat)

/-- SLLV (43_shift.md rule R433). -/
def execSllv (rs : BitVec 5) (rt : BitVec 5) (rd : BitVec 5) (s : State) : Out :=
  s.putGpr rd (sextWord (s.gprWord rt <<< s.shift5 rs))

/-- SRLV (43_shift.md rule R434). -/
def execSrlv (rs : BitVec 5) (rt : BitVec 5) (rd : BitVec 5) (s : State) : Out :=
  s.putShift rd rt (· >>> s.shift5 rs)

/-- SRAV (43_shift.md rule R435). -/
def execSrav (rs : BitVec 5) (rt : BitVec 5) (rd : BitVec 5) (s : State) : Out :=
  s.putShift rd rt (·.sshiftRight (s.shift5 rs))

/-- ROTR (43_shift.md rule R436). -/
def execRotr (rt : BitVec 5) (rd : BitVec 5) (sa : BitVec 5) (s : State) : Out :=
  s.putShift rd rt (·.rotateRight sa.toNat)

/-- ROTRV (43_shift.md rule R437). -/
def execRotrv (rs : BitVec 5) (rt : BitVec 5) (rd : BitVec 5) (s : State) : Out :=
  s.putShift rd rt (·.rotateRight (s.shift5 rs))

/-- DSLL (43_shift.md rule R438). -/
def execDsll (rt : BitVec 5) (rd : BitVec 5) (sa : BitVec 5) (s : State) : Out :=
  need64 s (s.putGpr rd (s.readGpr rt <<< sa.toNat))

/-- DSRL (43_shift.md rule R439). -/
def execDsrl (rt : BitVec 5) (rd : BitVec 5) (sa : BitVec 5) (s : State) : Out :=
  need64 s (s.putGpr rd (s.readGpr rt >>> sa.toNat))

/-- DSRA (43_shift.md rule R440). -/
def execDsra (rt : BitVec 5) (rd : BitVec 5) (sa : BitVec 5) (s : State) : Out :=
  need64 s (s.putGpr rd ((s.readGpr rt).sshiftRight sa.toNat))

/-- DSLLV (43_shift.md rule R441). -/
def execDsllv (rs : BitVec 5) (rt : BitVec 5) (rd : BitVec 5) (s : State) : Out :=
  need64 s (s.putGpr rd (s.readGpr rt <<< s.shift6 rs))

/-- DSRLV (43_shift.md rule R442). -/
def execDsrlv (rs : BitVec 5) (rt : BitVec 5) (rd : BitVec 5) (s : State) : Out :=
  need64 s (s.putGpr rd (s.readGpr rt >>> s.shift6 rs))

/-- DSRAV (43_shift.md rule R443). -/
def execDsrav (rs : BitVec 5) (rt : BitVec 5) (rd : BitVec 5) (s : State) : Out :=
  need64 s (s.putGpr rd ((s.readGpr rt).sshiftRight (s.shift6 rs)))

/-- DSLL32 (43_shift.md rule R444). -/
def execDsll32 (rt : BitVec 5) (rd : BitVec 5) (sa : BitVec 5) (s : State) : Out :=
  need64 s (s.putGpr rd (s.readGpr rt <<< (sa.toNat + 32)))

/-- DSRL32 (43_shift.md rule R445). -/
def execDsrl32 (rt : BitVec 5) (rd : BitVec 5) (sa : BitVec 5) (s : State) : Out :=
  need64 s (s.putGpr rd (s.readGpr rt >>> (sa.toNat + 32)))

/-- DSRA32 (43_shift.md rule R446). -/
def execDsra32 (rt : BitVec 5) (rd : BitVec 5) (sa : BitVec 5) (s : State) : Out :=
  need64 s (s.putGpr rd ((s.readGpr rt).sshiftRight (sa.toNat + 32)))

/-- DROTR (43_shift.md rule R447). -/
def execDrotr (rt : BitVec 5) (rd : BitVec 5) (sa : BitVec 5) (s : State) : Out :=
  need64 s (s.putGpr rd ((s.readGpr rt).rotateRight sa.toNat))

/-- DROTR32 (43_shift.md rule R448). -/
def execDrotr32 (rt : BitVec 5) (rd : BitVec 5) (sa : BitVec 5) (s : State) : Out :=
  need64 s (s.putGpr rd ((s.readGpr rt).rotateRight (sa.toNat + 32)))

/-- DROTRV (43_shift.md rule R449). -/
def execDrotrv (rs : BitVec 5) (rt : BitVec 5) (rd : BitVec 5) (s : State) : Out :=
  need64 s (s.putGpr rd ((s.readGpr rt).rotateRight (s.shift6 rs)))

/-- EXT (43_shift.md rule R450). -/
def execExt (rs : BitVec 5) (rt : BitVec 5) (msb : BitVec 5) (lsb : BitVec 5) (s : State) : Out :=
  let v := s.readGpr rs
  s.putGpr rt (if lsb.toNat + msb.toNat ≤ 31 && isWordValue v then
      sextLow 32 (extractField v lsb.toNat (msb.toNat + 1))
    else s.free Slot.result)

/-- DEXTM (43_shift.md rule R451). -/
def execDextm (rs : BitVec 5) (rt : BitVec 5) (msb : BitVec 5) (lsb : BitVec 5) (s : State) : Out :=
  need64 s (s.putExtract rt rs lsb.toNat (msb.toNat + 32))

/-- DEXTU (43_shift.md rule R452). -/
def execDextu (rs : BitVec 5) (rt : BitVec 5) (msb : BitVec 5) (lsb : BitVec 5) (s : State) : Out :=
  need64 s (s.putExtract rt rs (lsb.toNat + 32) msb.toNat)

/-- DEXT (43_shift.md rule R453). -/
def execDext (rs : BitVec 5) (rt : BitVec 5) (msb : BitVec 5) (lsb : BitVec 5) (s : State) : Out :=
  need64 s (s.putExtract rt rs lsb.toNat msb.toNat)

/-- INS (43_shift.md rule R454). -/
def execIns (rs : BitVec 5) (rt : BitVec 5) (msb : BitVec 5) (lsb : BitVec 5) (s : State) : Out :=
  s.putGpr rt (if decide (lsb.toNat ≤ msb.toNat) && s.wordValues rs rt then
      sextLow 32 (putField (s.readGpr rt) lsb.toNat (msb.toNat - lsb.toNat + 1) (s.readGpr rs))
    else s.free Slot.result)

/-- DINSM (43_shift.md rule R455). -/
def execDinsm (rs : BitVec 5) (rt : BitVec 5) (msb : BitVec 5) (lsb : BitVec 5) (s : State) : Out :=
  need64 s (s.putInsert rt rs lsb.toNat (msb.toNat + 32))

/-- DINSU (43_shift.md rule R456). -/
def execDinsu (rs : BitVec 5) (rt : BitVec 5) (msb : BitVec 5) (lsb : BitVec 5) (s : State) : Out :=
  need64 s (s.putInsert rt rs (lsb.toNat + 32) (msb.toNat + 32))

/-- DINS (43_shift.md rule R457). -/
def execDins (rs : BitVec 5) (rt : BitVec 5) (msb : BitVec 5) (lsb : BitVec 5) (s : State) : Out :=
  need64 s (s.putInsert rt rs lsb.toNat msb.toNat)

end Sys2Proof.Machine
end

