-- ==== Sys2Proof/Machine/Cp0.lean ====
section
/-!
DEFINITION. Reading and writing CP0 registers field by field (11_cp0_registers.md), and the TLB operations
(45_cp0_priv.md rules R504 to R507).
-/
namespace Sys2Proof.Machine

/-- The two halves of a CP0 register's name: number and select. -/
abbrev Cp0Name := BitVec 5 × BitVec 3

/-- `CPR[rd, sel]` as DMFC0 reads it: a 32-bit register sign-extended (11_cp0_registers.md rule R178); nothing
where the table of 10_state.md rule R40 has no register (11_cp0_registers.md rule R176). -/
def State.readCp0 (s : State) (rd : BitVec 5) (sel : BitVec 3) : Option Dword :=
  let c := s.cp0
  match rd.toNat, sel.toNat with
  | 0, 0 => some (sextWord c.index)
  | 1, 0 => some (sextWord c.random)
  | 2, 0 => some c.entryLo0
  | 3, 0 => some c.entryLo1
  | 4, 0 => some c.context
  | 5, 0 => some (sextWord c.pageMask)
  | 5, 1 => some (sextWord c.pageGrain)
  | 6, 0 => some (sextWord c.wired)
  | 7, 0 => some (sextWord c.hwrEna)
  | 8, 0 => some c.badVAddr
  | 9, 0 => some (sextWord c.count)
  | 10, 0 => some c.entryHi
  | 11, 0 => some (sextWord c.compare)
  | 12, 0 => some (sextWord c.status)
  | 12, 1 => some (sextWord c.intCtl)
  | 12, 2 => some 0
  | 13, 0 => some (sextWord s.readCause)
  | 14, 0 => some c.epc
  | 15, 0 => some (sextWord Config.prid)
  | 15, 1 => some (sextWord c.ebase)
  | 16, 0 => some (sextWord c.config)
  | 16, 1 => some (sextWord Config.config1)
  | 16, 2 => some (sextWord Config.config2)
  | 16, 3 => some (sextWord Config.config3)
  | 17, 0 => some c.llAddr
  | 20, 0 => some c.xContext
  | 22, 0 => some c.diagnostic
  | 23, 0 => some (sextWord (c.debug &&& 0x40038000#32))
  | 24, 0 => some c.depc
  | 25, 0 => some (sextWord c.perfCtl0)
  | 25, 1 => some c.perfCnt0
  | 25, 2 => some (sextWord c.perfCtl1)
  | 25, 3 => some c.perfCnt1
  | 26, 0 => some (sextWord c.errCtl)
  | 27, 0 => some (sextWord c.cacheErr)
  | 27, 1 => some c.cacheErr1
  | 28, 0 => some (sextWord c.tagLo)
  | 28, 1 => some (zextLow 32 (sextWord c.dataLo))
  | 29, 0 => some (sextWord c.tagHi)
  | 29, 1 => some (zextLow 32 (sextWord c.dataHi))
  | 30, 0 => some c.errorEpc
  | 31, 0 => some c.desave
  | _, _ => none

/-- Status after a write: NMI can only be cleared (11_cp0_registers.md rule R116). -/
def writeStatus (old v : Word) : Word :=
  putBit (mergeBits 0xF4D0FFFF#32 old v) 19 (old.getLsbD 19 && v.getLsbD 19)

/-- `CPR[rd, sel] <- v`: read-only and reserved fields keep their value (11_cp0_registers.md rules R177, R178,
45_cp0_priv.md rule R503). Wired sets Random to 63, Compare clears Cause.TI. Debug takes LSNM, which has
no effect outside debug mode, and SSt, after which a step is refused (rule R152; log 68). -/
def Cp0.write (c : Cp0) (rd : BitVec 5) (sel : BitVec 3) (v : Dword) : Option Cp0 :=
  let w := lowWord v
  match rd.toNat, sel.toNat with
  | 0, 0 => some { c with index := mergeBits 0x3F#32 c.index w }
  | 1, 0 => some c
  | 2, 0 => some { c with entryLo0 := mergeBits 0x3FFFFFFFFFF#64 c.entryLo0 v }
  | 3, 0 => some { c with entryLo1 := mergeBits 0x3FFFFFFFFFF#64 c.entryLo1 v }
  | 4, 0 => some { c with context := mergeBits 0xFFFFFFFFFF800000#64 c.context v }
  | 5, 0 => some { c with pageMask := mergeBits 0x01FFE000#32 c.pageMask w }
  | 5, 1 => some { c with pageGrain := mergeBits 0x20000000#32 c.pageGrain w }
  | 6, 0 => some { c with wired := mergeBits 0x3F#32 c.wired w, random := 63#32 }
  | 7, 0 => some { c with hwrEna := mergeBits 0xF#32 c.hwrEna w }
  | 8, 0 => some c
  | 9, 0 => some { c with count := w }
  | 10, 0 => some { c with entryHi := mergeBits 0xC000FFFFFFFFE0FF#64 c.entryHi v }
  | 11, 0 => some { c with compare := w, cause := putBit c.cause 30 false }
  | 12, 0 => some { c with status := writeStatus c.status w }
  | 12, 1 => some { c with intCtl := mergeBits 0x3E0#32 c.intCtl w }
  | 12, 2 => some c
  | 13, 0 => some { c with cause := mergeBits 0x08800300#32 c.cause w }
  | 14, 0 => some { c with epc := v }
  | 15, 0 => some c
  | 15, 1 => some { c with ebase := mergeBits 0x3FFFF000#32 c.ebase w }
  | 16, 0 => some { c with config := mergeBits 0x7#32 c.config w }
  | 16, 1 => some c
  | 16, 2 => some c
  | 16, 3 => some c
  | 17, 0 => some c
  | 20, 0 => some { c with xContext := mergeBits 0xFFFFFE0000000000#64 c.xContext v }
  | 22, 0 => some { c with diagnostic := mergeBits 0xF1#64 c.diagnostic v }
  | 23, 0 => some { c with debug := mergeBits 0x10000100#32 c.debug w }
  | 24, 0 => some { c with depc := v }
  | 25, 0 => some { c with perfCtl0 := mergeBits 0x7FF#32 c.perfCtl0 w }
  | 25, 1 => some { c with perfCnt0 := v }
  | 25, 2 => some { c with perfCtl1 := mergeBits 0x7FF#32 c.perfCtl1 w }
  | 25, 3 => some { c with perfCnt1 := v }
  | 26, 0 => some { c with errCtl := mergeBits 0xFF#32 c.errCtl w }
  | 27, 0 => some c
  | 27, 1 => some c
  | 28, 0 => some { c with tagLo := mergeBits 0xFFFFFFF0#32 c.tagLo w }
  | 28, 1 => some c
  | 29, 0 => some { c with tagHi := mergeBits 0xF#32 c.tagHi w }
  | 29, 1 => some c
  | 30, 0 => some { c with errorEpc := v }
  | 31, 0 => some { c with desave := v }
  | _, _ => none

/-- The values of PageMask.Mask that have a page size (11_cp0_registers.md rule R100). -/
def legalMask (m : BitVec 12) : Bool := [0#12, 0x003, 0x00F, 0x03F, 0x0FF, 0x3FF, 0xFFF].contains m

/-- PageMask.Mask. -/
def Cp0.mask (c : Cp0) : BitVec 12 := c.pageMask.extractLsb' 13 12

/-- The entry the TLB-write instructions write, from PageMask, EntryHi, EntryLo0, EntryLo1 (45_cp0_priv.md
rule R506). -/
def Cp0.tlbEntry (c : Cp0) : TlbEntry where
  mask := c.mask
  r := c.entryHi.extractLsb' 62 2
  vpn2 := c.entryHi.extractLsb' 13 35
  g := c.entryLo0.getLsbD 0 && c.entryLo1.getLsbD 0
  asid := c.entryHi.setWidth 8
  pfn0 := c.entryLo0.extractLsb' 6 36
  c0 := c.entryLo0.extractLsb' 3 3
  d0 := c.entryLo0.getLsbD 2
  v0 := c.entryLo0.getLsbD 1
  pfn1 := c.entryLo1.extractLsb' 6 36
  c1 := c.entryLo1.extractLsb' 3 3
  d1 := c.entryLo1.getLsbD 2
  v1 := c.entryLo1.getLsbD 1

/-- `WriteTLB(i)` (45_cp0_priv.md rule R506); a PageMask without a page size is undefined
(11_cp0_registers.md rule R101). -/
def State.writeTlb (s : State) (i : BitVec 6) : Out :=
  if legalMask s.cp0.mask then .next (s.setTlb i s.cp0.tlbEntry).advance else .fault .illegalPageMask

/-- EntryLo0 or EntryLo1 from an entry's page (45_cp0_priv.md rule R505); the PFN bits under the mask are
open (log 11). -/
def entryLoOf (pfn : BitVec 36) (c : BitVec 3) (d v g : Bool) (mask : BitVec 12) (open_ : Dword) : Dword :=
  mergeBits ((mask.setWidth 64) <<< 6)
    ((0#22 ++ pfn ++ c ++ BitVec.ofBool d ++ BitVec.ofBool v ++ BitVec.ofBool g : BitVec 64)) open_

/-- The registers TLBR writes (45_cp0_priv.md rule R505); VPN2 bits under the mask are open (log 11). -/
def State.readTlb (s : State) (e : TlbEntry) : Cp0 :=
  { s.cp0 with
    pageMask := (e.mask.setWidth 32) <<< 13
    entryHi := mergeBits ((e.mask.setWidth 64) <<< 13)
      (e.r ++ 0#14 ++ e.vpn2 ++ 0#5 ++ e.asid : BitVec 64) (s.free Slot.tlbrHi)
    entryLo0 := entryLoOf e.pfn0 e.c0 e.d0 e.v0 e.g e.mask (s.free Slot.tlbrLo0)
    entryLo1 := entryLoOf e.pfn1 e.c1 e.d1 e.v1 e.g e.mask (s.free Slot.tlbrLo1) }

/-- Index.Index. -/
def State.tlbIndex (s : State) : BitVec 6 := s.cp0.index.setWidth 6

/-- The entry TLBWR writes: any from Wired to 63 (45_cp0_priv.md rule R507, 92_eei_decisions.md D13). -/
def State.tlbRandom (s : State) : BitVec 6 :=
  let w := (s.cp0.wired.setWidth 6).toNat
  BitVec.ofNat 6 (w + (s.free Slot.tlbRandom).toNat % (64 - w))

/-- Index after TLBP: the entry, or P with an open number (45_cp0_priv.md rule R504). -/
def State.probe (s : State) : Res Word :=
  match s.tlbHits (s.cp0.entryHi.extractLsb' 62 2) (s.cp0.entryHi.extractLsb' 13 35) with
  | [] => .ok (0x80000000#32 ||| (lowWord (s.free Slot.tlbIndex) &&& 0x3F#32))
  | [(_, i)] => .ok (BitVec.ofNat 32 i)
  | _ => .fault .tlbMultipleMatch

end Sys2Proof.Machine
end

