-- ==== Sys2Proof/Machine/System.lean ====
section
/-!
DEFINITION. CP0 and privileged instructions (45_cp0_priv.md rules R500 to R523).
-/
namespace Sys2Proof.Machine

/-- Coprocessor 0 must be usable (45_cp0_priv.md rule R500). -/
def needCp0 (s : State) (k : Out) : Out := needCop 0 s k

/-- A read of a CP0 register (45_cp0_priv.md rule R501). -/
def State.moveFromCp0 (s : State) (rt rd : BitVec 5) (sel : BitVec 3) (ext : Dword → Dword) : Out :=
  match s.readCp0 rd sel with
  | some v => s.putGpr rt (ext v)
  | none => .refused .noSuchCp0Register

/-- A write of a CP0 register (45_cp0_priv.md rule R503). -/
def State.moveToCp0 (s : State) (rd : BitVec 5) (sel : BitVec 3) (v : Dword) : Out :=
  match s.cp0.write rd sel v with
  | some c => .next (s.setCp0 c).advance
  | none => .refused .noSuchCp0Register

/-! ### CACHE (45_cp0_priv.md rules R511 to R514) -/

/-- The sixteen listed operations (45_cp0_priv.md rule R512); 0b11110, which rule R511 names, is not among them
(log 21). -/
def cacheListed (op : BitVec 5) : Bool :=
  [0b00000#5, 0b01000, 0b11100, 0b00001, 0b00101, 0b01001, 0b10001, 0b10101, 0b11001, 0b11101,
    0b00011, 0b00111, 0b01011, 0b10011, 0b11011, 0b11111].contains op

/-- The Hit operations, which translate their address (45_cp0_priv.md rule R513). -/
def cacheHit (op : BitVec 5) : Bool := [0b10001#5, 0b10101, 0b10011].contains op

/-- The Index Load Tag operations (45_cp0_priv.md rule R512). -/
def cacheLoadTag (op : BitVec 5) : Bool := [0b00101#5, 0b00111].contains op

/-- The Index Load Data operations (45_cp0_priv.md rule R512). -/
def cacheLoadData (op : BitVec 5) : Bool := [0b11001#5, 0b11011].contains op

/-- The registers a CACHE operation fills, with open values, ErrCtl among them; the other operations have no
effect in a model without cache contents (45_cp0_priv.md rules R512, R514, 11_cp0_registers.md rule R163; log
12). DESIGN CHOICE, log 12: TagLo.SCSETI, bits 5:4, is open after the Index Load Tag of the secondary cache
(0b00111) too, as the table of rule R512 and U23 have it, where 11_cp0_registers.md rule R168 gives the field as
0 for secondary-cache operations. -/
def State.cacheEffect (s : State) (op : BitVec 5) : State :=
  if cacheLoadTag op then
    s.setCp0 { s.cp0 with
      tagLo := lowWord (s.free Slot.tagLo) &&& 0xFFFFFFF0#32
      tagHi := lowWord (s.free Slot.tagHi) &&& 0xF#32
      dataLo := lowWord (s.free Slot.dataLo)
      dataHi := lowWord (s.free Slot.dataHi)
      errCtl := lowWord (s.free Slot.errCtl) &&& 0xFF#32 }
  else if cacheLoadData op then
    s.setCp0 { s.cp0 with
      errCtl := lowWord (s.free Slot.errCtl) &&& 0xFF#32
      dataLo := lowWord (s.free Slot.dataLo)
      dataHi := lowWord (s.free Slot.dataHi) }
  else s

/-- Whether the operation translates: Hit always; Index in a mapped segment by choice, elsewhere never, the
doubtful range of XKSEG among the rest (45_cp0_priv.md rule R513, 20_memory.md rule R194; DESIGN CHOICE, log
22). -/
def State.cacheTranslates (s : State) (op : BitVec 5) (va : Dword) : Bool :=
  cacheHit op || (Config.cacheIndexTranslates && (match s.segment va with | .mapped _ => true | _ => false))

/-! ### RDHWR (45_cp0_priv.md rule R516) -/

/-- The hardware registers (45_cp0_priv.md rule R516). -/
def State.hardwareRegister (s : State) (rd : BitVec 5) : Dword :=
  if rd = 0 then (s.cp0.ebase.extractLsb' 0 10).setWidth 64
  else if rd = 1 then Config.syncIStep
  else if rd = 2 then sextWord s.cp0.count
  else 2

/-- MFC0 (45_cp0_priv.md rule R501). -/
def execMfc0 (rt : BitVec 5) (rd : BitVec 5) (sel : BitVec 3) (s : State) : Out :=
  needCp0 s (s.moveFromCp0 rt rd sel (sextLow 32))

/-- DMFC0 (45_cp0_priv.md rule R502). -/
def execDmfc0 (rt : BitVec 5) (rd : BitVec 5) (sel : BitVec 3) (s : State) : Out :=
  needCp0 s (need64 s (s.moveFromCp0 rt rd sel id))

/-- What MTC0 moves: the low word sign-extended (93_implementation_defined.md U26, against the words of
11_cp0_registers.md rule R178 and 45_cp0_priv.md rule R503; log 59), of which a 32-bit register takes the low word. -/
def mtc0Value (v : Dword) : Dword := sextWord (lowWord v)

/-- MTC0 (45_cp0_priv.md rule R503; log 59). -/
def execMtc0 (rt : BitVec 5) (rd : BitVec 5) (sel : BitVec 3) (s : State) : Out :=
  needCp0 s (s.moveToCp0 rd sel (mtc0Value (s.readGpr rt)))

/-- DMTC0 (45_cp0_priv.md rule R508). -/
def execDmtc0 (rt : BitVec 5) (rd : BitVec 5) (sel : BitVec 3) (s : State) : Out :=
  needCp0 s (need64 s (s.moveToCp0 rd sel (s.readGpr rt)))

/-- RDPGPR (45_cp0_priv.md rule R515). -/
def execRdpgpr (rt : BitVec 5) (rd : BitVec 5) (s : State) : Out := needCp0 s (s.putGpr rd (s.readGpr rt))

/-- WRPGPR (45_cp0_priv.md rule R523). -/
def execWrpgpr (rt : BitVec 5) (rd : BitVec 5) (s : State) : Out := needCp0 s (s.putGpr rd (s.readGpr rt))

/-- TLBP (45_cp0_priv.md rule R504). -/
def execTlbp (s : State) : Out :=
  needCp0 s (s.probe.finish s fun i => .next (s.setCp0 { s.cp0 with index := i }).advance)

/-- TLBR (45_cp0_priv.md rule R505). -/
def execTlbr (s : State) : Out :=
  needCp0 s (.next (s.setCp0 (s.readTlb (s.tlb[s.tlbIndex.toNat]'(s.tlbIndex.isLt)))).advance)

/-- TLBWI (45_cp0_priv.md rule R506). -/
def execTlbwi (s : State) : Out := needCp0 s (s.writeTlb s.tlbIndex)

/-- TLBWR (45_cp0_priv.md rule R507). -/
def execTlbwr (s : State) : Out := needCp0 s (s.writeTlb s.tlbRandom)

/-- ERET (45_cp0_priv.md rule R509). -/
def execEret (s : State) : Out := needCp0 s (notInSlot s (.next s.returnFromException))

/-- DERET (45_cp0_priv.md rule R510): debug mode is out of scope (00_scope.md rule R8). -/
def execDeret (s : State) : Out := needCp0 s (.refused .debugMode)

/-- SDBBP (45_cp0_priv.md rule R517): debug mode is out of scope (00_scope.md rule R8). -/
def execSdbbp (_code : BitVec 20) (_s : State) : Out := .refused .debugMode

/-- CACHE (45_cp0_priv.md rule R511): log 21. -/
def execCache (base : BitVec 5) (hint : BitVec 5) (imm : BitVec 16) (s : State) : Out :=
  let va := s.ea base imm
  needCp0 s
    (if cacheListed hint then
      if s.cacheTranslates hint va then
        (s.translate va .load).finish s fun _ => .next (s.cacheEffect hint).advance
      else .next (s.cacheEffect hint).advance
    else if Config.cacheUnlistedRaisesRI then raise .ri s
    else .next s.advance)

/-- RDHWR (45_cp0_priv.md rule R516). -/
def execRdhwr (rt : BitVec 5) (rd : BitVec 5) (s : State) : Out :=
  if decide (3 < rd.toNat) then raise .ri s
  else if s.isKernel || s.cu 0 || s.cp0.hwrEna.getLsbD rd.toNat then s.putGpr rt (s.hardwareRegister rd)
  else raise .ri s

/-- WAIT (45_cp0_priv.md rule R519): a NOP (rule R519); in a delay slot it has no stated effect
(44_branch.md rule R486). -/
def execWait (_code : BitVec 19) (s : State) : Out := needCp0 s (notInSlot s (.next s.advance))

/-- DI (45_cp0_priv.md rule R520): disabled, and what that does is not said (30_encoding.md rule R283). -/
def execDi (_rt : BitVec 5) (s : State) : Out := needCp0 s (.refused .disabledInstruction)

/-- EI (45_cp0_priv.md rule R521): disabled, and what that does is not said (30_encoding.md rule R283). -/
def execEi (_rt : BitVec 5) (s : State) : Out := needCp0 s (.refused .disabledInstruction)

end Sys2Proof.Machine
end

