-- ==== Sys2Proof/Machine/X86.lean ====
section
/-!
DEFINITION. x86-translation and lookup-table instructions (47_custom_int.md rules R640 to R690).
-/
namespace Sys2Proof.Machine

/-! The description is all the source gives of these instructions: the state each one writes. A value it does
not state is open, and no exception is taken: the exceptions are not in the source (47_custom_int.md rule R684;
log 50). -/

/-- "Sets only EFLAG": the flags of the x86 operation are not in the source, no general register is written
(47_custom_int.md rule R684). -/
def State.setEflagOnly (s : State) : Out :=
  .next (s.setX86 { s.x86 with eflag := lowWord (s.free Slot.eflag) }).advance

/-- Sets or clears the floating-point stack mode (47_custom_int.md rules R677, R678). TM is a bit of its own: what it
changes beside itself is not in the source, and the model lets it change neither FCSR bit 21 nor the numbers of the
floating-point registers: DESIGN CHOICE, log 50. -/
def State.setTm (s : State) (b : Bool) : Out := .next (s.setX86 { s.x86 with tm := b }).advance

/-- Replaces the stack top pointer (47_custom_int.md rules R679 to R681). -/
def State.setTop (s : State) (v : BitVec 3) : Out := .next (s.setX86 { s.x86 with top := v }).advance

/-- X86AND (47_custom_int.md rule R640). -/
def execX86and (s : State) : Out := s.setEflagOnly

/-- X86OR (47_custom_int.md rule R641). -/
def execX86or (s : State) : Out := s.setEflagOnly

/-- X86XOR (47_custom_int.md rule R642). -/
def execX86xor (s : State) : Out := s.setEflagOnly

/-- X86DADD (47_custom_int.md rule R643); no Integer Overflow: DESIGN CHOICE, log 50. -/
def execX86dadd (s : State) : Out := s.setEflagOnly

/-- X86ADD (47_custom_int.md rule R644); no Integer Overflow: DESIGN CHOICE, log 50. -/
def execX86add (s : State) : Out := s.setEflagOnly

/-- X86DADDU (47_custom_int.md rule R645). -/
def execX86daddu (s : State) : Out := s.setEflagOnly

/-- X86ADDU (47_custom_int.md rule R646). -/
def execX86addu (s : State) : Out := s.setEflagOnly

/-- X86DSUB (47_custom_int.md rule R647); no Integer Overflow: DESIGN CHOICE, log 50. -/
def execX86dsub (s : State) : Out := s.setEflagOnly

/-- X86SUB (47_custom_int.md rule R648); no Integer Overflow: DESIGN CHOICE, log 50. -/
def execX86sub (s : State) : Out := s.setEflagOnly

/-- X86DSUBU (47_custom_int.md rule R649). -/
def execX86dsubu (s : State) : Out := s.setEflagOnly

/-- X86SUBU (47_custom_int.md rule R650). -/
def execX86subu (s : State) : Out := s.setEflagOnly

/-- X86INC (47_custom_int.md rule R651). -/
def execX86inc (s : State) : Out := s.setEflagOnly

/-- X86DEC (47_custom_int.md rule R652). -/
def execX86dec (s : State) : Out := s.setEflagOnly

/-- X86DSLL (47_custom_int.md rule R653). -/
def execX86dsll (s : State) : Out := s.setEflagOnly

/-- X86SLL (47_custom_int.md rule R654). -/
def execX86sll (s : State) : Out := s.setEflagOnly

/-- X86DSLL32 (47_custom_int.md rule R655). -/
def execX86dsll32 (s : State) : Out := s.setEflagOnly

/-- X86DSLLV (47_custom_int.md rule R656). -/
def execX86dsllv (s : State) : Out := s.setEflagOnly

/-- X86SLLV (47_custom_int.md rule R657). -/
def execX86sllv (s : State) : Out := s.setEflagOnly

/-- X86DSRL (47_custom_int.md rule R658). -/
def execX86dsrl (s : State) : Out := s.setEflagOnly

/-- X86SRL (47_custom_int.md rule R659). -/
def execX86srl (s : State) : Out := s.setEflagOnly

/-- X86DSRL32 (47_custom_int.md rule R660). -/
def execX86dsrl32 (s : State) : Out := s.setEflagOnly

/-- X86DSRLV (47_custom_int.md rule R661). -/
def execX86dsrlv (s : State) : Out := s.setEflagOnly

/-- X86SRLV (47_custom_int.md rule R662). -/
def execX86srlv (s : State) : Out := s.setEflagOnly

/-- X86DSRA (47_custom_int.md rule R663). -/
def execX86dsra (s : State) : Out := s.setEflagOnly

/-- X86SRA (47_custom_int.md rule R664). -/
def execX86sra (s : State) : Out := s.setEflagOnly

/-- X86DSRA32 (47_custom_int.md rule R665). -/
def execX86dsra32 (s : State) : Out := s.setEflagOnly

/-- X86DSRAV (47_custom_int.md rule R666). -/
def execX86dsrav (s : State) : Out := s.setEflagOnly

/-- X86SRAV (47_custom_int.md rule R667). -/
def execX86srav (s : State) : Out := s.setEflagOnly

/-- X86DROTR (47_custom_int.md rule R668). -/
def execX86drotr (s : State) : Out := s.setEflagOnly

/-- X86ROTR (47_custom_int.md rule R669). -/
def execX86rotr (s : State) : Out := s.setEflagOnly

/-- X86DROTR32 (47_custom_int.md rule R670). -/
def execX86drotr32 (s : State) : Out := s.setEflagOnly

/-- X86DROTRV (47_custom_int.md rule R671). -/
def execX86drotrv (s : State) : Out := s.setEflagOnly

/-- X86ROTRV (47_custom_int.md rule R672). -/
def execX86rotrv (s : State) : Out := s.setEflagOnly

/-- X86MFFLAG (47_custom_int.md rule R673): a function of EFLAG that is not in the source. -/
def execX86mfflag (rd : BitVec 5) (s : State) : Out :=
  s.putGpr rd (Config.x86FlagsRead s.freeCounter s.x86.eflag)

/-- X86MTFLAG (47_custom_int.md rule R674): a function, not in the source, of EFLAG and of a general register,
whose place in the instruction is not in the source either, so that its number is open (log 50). -/
def execX86mtflag (s : State) : Out :=
  let rs : BitVec 5 := (s.free Slot.x86Source).setWidth 5
  .next (s.setX86 { s.x86 with
    eflag := Config.x86FlagsWritten s.freeCounter s.x86.eflag (s.readGpr rs) }).advance

/-- X86J (47_custom_int.md rule R675): target, condition and delay slot are not in the source (rule R684).
-/
def execX86j (_s : State) : Out := .refused .x86OperationUnknown

/-- X86LOOP (47_custom_int.md rule R676): target, condition and delay slot are not in the source (rule
R684). -/
def execX86loop (_s : State) : Out := .refused .x86OperationUnknown

/-- SETTM (47_custom_int.md rule R677). -/
def execSettm (s : State) : Out := s.setTm true

/-- CLRTM (47_custom_int.md rule R678). -/
def execClrtm (s : State) : Out := s.setTm false

/-- INCTOP (47_custom_int.md rule R679). -/
def execInctop (s : State) : Out := s.setTop (s.x86.top + 1)

/-- DECTOP (47_custom_int.md rule R680). -/
def execDectop (s : State) : Out := s.setTop (s.x86.top - 1)

/-- MTTOP (47_custom_int.md rule R681): the source operand is not in the source. -/
def execMttop (s : State) : Out := s.setTop ((s.free Slot.result).setWidth 3)

/-- MFTOP (47_custom_int.md rule R682). -/
def execMftop (rd : BitVec 5) (s : State) : Out := s.putGpr rd (s.x86.top.setWidth 64)

/-- SETTAG (47_custom_int.md rule R683): what it tests and sets is not in the source (rule R684). -/
def execSettag (_s : State) : Out := .refused .x86OperationUnknown

/-- CAMPV (47_custom_int.md rule R686): operands and table format are not in the source (rule R690). -/
def execCampv (_s : State) : Out := .refused .lookupTableUnknown

/-- CAMPI (47_custom_int.md rule R687): operands and table format are not in the source (rule R690). -/
def execCampi (_s : State) : Out := .refused .lookupTableUnknown

/-- CAMWI (47_custom_int.md rule R688): operands and table format are not in the source (rule R690). -/
def execCamwi (_s : State) : Out := .refused .lookupTableUnknown

/-- RAMRI (47_custom_int.md rule R689): operands and table format are not in the source (rule R690). -/
def execRamri (_s : State) : Out := .refused .lookupTableUnknown

end Sys2Proof.Machine
end

