-- ==== Sys2Proof/Machine/Dispatch.lean ====
section
/-!
DEFINITION. The dispatch: one arm per constructor, each one call of its meaning.
-/
namespace Sys2Proof.Machine

/-- The meaning of an instruction. -/
def exec (i : Instr) (s : State) : Host.Outcome State Fault Refusal :=
  match i with
  | .lb base rt imm => Sys2Proof.Machine.execLb base rt imm s
  | .lbu base rt imm => Sys2Proof.Machine.execLbu base rt imm s
  | .lh base rt imm => Sys2Proof.Machine.execLh base rt imm s
  | .lhu base rt imm => Sys2Proof.Machine.execLhu base rt imm s
  | .lw base rt imm => Sys2Proof.Machine.execLw base rt imm s
  | .lwu base rt imm => Sys2Proof.Machine.execLwu base rt imm s
  | .lwl base rt imm => Sys2Proof.Machine.execLwl base rt imm s
  | .lwr base rt imm => Sys2Proof.Machine.execLwr base rt imm s
  | .ld base rt imm => Sys2Proof.Machine.execLd base rt imm s
  | .ldl base rt imm => Sys2Proof.Machine.execLdl base rt imm s
  | .ldr base rt imm => Sys2Proof.Machine.execLdr base rt imm s
  | .ll base rt imm => Sys2Proof.Machine.execLl base rt imm s
  | .lld base rt imm => Sys2Proof.Machine.execLld base rt imm s
  | .sb base rt imm => Sys2Proof.Machine.execSb base rt imm s
  | .sh base rt imm => Sys2Proof.Machine.execSh base rt imm s
  | .sw base rt imm => Sys2Proof.Machine.execSw base rt imm s
  | .swl base rt imm => Sys2Proof.Machine.execSwl base rt imm s
  | .swr base rt imm => Sys2Proof.Machine.execSwr base rt imm s
  | .sd base rt imm => Sys2Proof.Machine.execSd base rt imm s
  | .sdl base rt imm => Sys2Proof.Machine.execSdl base rt imm s
  | .sdr base rt imm => Sys2Proof.Machine.execSdr base rt imm s
  | .sc base rt imm => Sys2Proof.Machine.execSc base rt imm s
  | .scd base rt imm => Sys2Proof.Machine.execScd base rt imm s
  | .pref base hint imm => Sys2Proof.Machine.execPref base hint imm s
  | .prefx base index hint => Sys2Proof.Machine.execPrefx base index hint s
  | .addi rs rt imm => Sys2Proof.Machine.execAddi rs rt imm s
  | .daddi rs rt imm => Sys2Proof.Machine.execDaddi rs rt imm s
  | .addiu rs rt imm => Sys2Proof.Machine.execAddiu rs rt imm s
  | .daddiu rs rt imm => Sys2Proof.Machine.execDaddiu rs rt imm s
  | .slti rs rt imm => Sys2Proof.Machine.execSlti rs rt imm s
  | .sltiu rs rt imm => Sys2Proof.Machine.execSltiu rs rt imm s
  | .andi rs rt imm => Sys2Proof.Machine.execAndi rs rt imm s
  | .ori rs rt imm => Sys2Proof.Machine.execOri rs rt imm s
  | .xori rs rt imm => Sys2Proof.Machine.execXori rs rt imm s
  | .lui rt imm => Sys2Proof.Machine.execLui rt imm s
  | .add rs rt rd => Sys2Proof.Machine.execAdd rs rt rd s
  | .dadd rs rt rd => Sys2Proof.Machine.execDadd rs rt rd s
  | .addu rs rt rd => Sys2Proof.Machine.execAddu rs rt rd s
  | .daddu rs rt rd => Sys2Proof.Machine.execDaddu rs rt rd s
  | .sub rs rt rd => Sys2Proof.Machine.execSub rs rt rd s
  | .dsub rs rt rd => Sys2Proof.Machine.execDsub rs rt rd s
  | .subu rs rt rd => Sys2Proof.Machine.execSubu rs rt rd s
  | .dsubu rs rt rd => Sys2Proof.Machine.execDsubu rs rt rd s
  | .slt rs rt rd => Sys2Proof.Machine.execSlt rs rt rd s
  | .sltu rs rt rd => Sys2Proof.Machine.execSltu rs rt rd s
  | .and rs rt rd => Sys2Proof.Machine.execAnd rs rt rd s
  | .or rs rt rd => Sys2Proof.Machine.execOr rs rt rd s
  | .xor rs rt rd => Sys2Proof.Machine.execXor rs rt rd s
  | .nor rs rt rd => Sys2Proof.Machine.execNor rs rt rd s
  | .clo rs rt rd => Sys2Proof.Machine.execClo rs rt rd s
  | .dclo rs rt rd => Sys2Proof.Machine.execDclo rs rt rd s
  | .clz rs rt rd => Sys2Proof.Machine.execClz rs rt rd s
  | .dclz rs rt rd => Sys2Proof.Machine.execDclz rs rt rd s
  | .wsbh rt rd => Sys2Proof.Machine.execWsbh rt rd s
  | .dshd rt rd => Sys2Proof.Machine.execDshd rt rd s
  | .dsbh rt rd => Sys2Proof.Machine.execDsbh rt rd s
  | .seb rt rd => Sys2Proof.Machine.execSeb rt rd s
  | .seh rt rd => Sys2Proof.Machine.execSeh rt rd s
  | .mul rs rt rd => Sys2Proof.Machine.execMul rs rt rd s
  | .mult rs rt => Sys2Proof.Machine.execMult rs rt s
  | .dmult rs rt => Sys2Proof.Machine.execDmult rs rt s
  | .multu rs rt => Sys2Proof.Machine.execMultu rs rt s
  | .dmultu rs rt => Sys2Proof.Machine.execDmultu rs rt s
  | .madd rs rt => Sys2Proof.Machine.execMadd rs rt s
  | .maddu rs rt => Sys2Proof.Machine.execMaddu rs rt s
  | .msub rs rt => Sys2Proof.Machine.execMsub rs rt s
  | .msubu rs rt => Sys2Proof.Machine.execMsubu rs rt s
  | .div rs rt => Sys2Proof.Machine.execDiv rs rt s
  | .ddiv rs rt => Sys2Proof.Machine.execDdiv rs rt s
  | .divu rs rt => Sys2Proof.Machine.execDivu rs rt s
  | .ddivu rs rt => Sys2Proof.Machine.execDdivu rs rt s
  | .mfhi rd => Sys2Proof.Machine.execMfhi rd s
  | .mthi rs => Sys2Proof.Machine.execMthi rs s
  | .mflo rd => Sys2Proof.Machine.execMflo rd s
  | .mtlo rs => Sys2Proof.Machine.execMtlo rs s
  | .sll rt rd sa => Sys2Proof.Machine.execSll rt rd sa s
  | .srl rt rd sa => Sys2Proof.Machine.execSrl rt rd sa s
  | .sra rt rd sa => Sys2Proof.Machine.execSra rt rd sa s
  | .sllv rs rt rd => Sys2Proof.Machine.execSllv rs rt rd s
  | .srlv rs rt rd => Sys2Proof.Machine.execSrlv rs rt rd s
  | .srav rs rt rd => Sys2Proof.Machine.execSrav rs rt rd s
  | .rotr rt rd sa => Sys2Proof.Machine.execRotr rt rd sa s
  | .rotrv rs rt rd => Sys2Proof.Machine.execRotrv rs rt rd s
  | .dsll rt rd sa => Sys2Proof.Machine.execDsll rt rd sa s
  | .dsrl rt rd sa => Sys2Proof.Machine.execDsrl rt rd sa s
  | .dsra rt rd sa => Sys2Proof.Machine.execDsra rt rd sa s
  | .dsllv rs rt rd => Sys2Proof.Machine.execDsllv rs rt rd s
  | .dsrlv rs rt rd => Sys2Proof.Machine.execDsrlv rs rt rd s
  | .dsrav rs rt rd => Sys2Proof.Machine.execDsrav rs rt rd s
  | .dsll32 rt rd sa => Sys2Proof.Machine.execDsll32 rt rd sa s
  | .dsrl32 rt rd sa => Sys2Proof.Machine.execDsrl32 rt rd sa s
  | .dsra32 rt rd sa => Sys2Proof.Machine.execDsra32 rt rd sa s
  | .drotr rt rd sa => Sys2Proof.Machine.execDrotr rt rd sa s
  | .drotr32 rt rd sa => Sys2Proof.Machine.execDrotr32 rt rd sa s
  | .drotrv rs rt rd => Sys2Proof.Machine.execDrotrv rs rt rd s
  | .ext rs rt msb lsb => Sys2Proof.Machine.execExt rs rt msb lsb s
  | .dextm rs rt msb lsb => Sys2Proof.Machine.execDextm rs rt msb lsb s
  | .dextu rs rt msb lsb => Sys2Proof.Machine.execDextu rs rt msb lsb s
  | .dext rs rt msb lsb => Sys2Proof.Machine.execDext rs rt msb lsb s
  | .ins rs rt msb lsb => Sys2Proof.Machine.execIns rs rt msb lsb s
  | .dinsm rs rt msb lsb => Sys2Proof.Machine.execDinsm rs rt msb lsb s
  | .dinsu rs rt msb lsb => Sys2Proof.Machine.execDinsu rs rt msb lsb s
  | .dins rs rt msb lsb => Sys2Proof.Machine.execDins rs rt msb lsb s
  | .j idx => Sys2Proof.Machine.execJ idx s
  | .jal idx => Sys2Proof.Machine.execJal idx s
  | .jr rs => Sys2Proof.Machine.execJr rs s
  | .jrHb rs => Sys2Proof.Machine.execJrHb rs s
  | .jalr rs rd => Sys2Proof.Machine.execJalr rs rd s
  | .jalrHb rs rd => Sys2Proof.Machine.execJalrHb rs rd s
  | .beq rs rt imm => Sys2Proof.Machine.execBeq rs rt imm s
  | .bne rs rt imm => Sys2Proof.Machine.execBne rs rt imm s
  | .blez rs imm => Sys2Proof.Machine.execBlez rs imm s
  | .bgtz rs imm => Sys2Proof.Machine.execBgtz rs imm s
  | .bltz rs imm => Sys2Proof.Machine.execBltz rs imm s
  | .bgez rs imm => Sys2Proof.Machine.execBgez rs imm s
  | .bltzal rs imm => Sys2Proof.Machine.execBltzal rs imm s
  | .bgezal rs imm => Sys2Proof.Machine.execBgezal rs imm s
  | .beql rs rt imm => Sys2Proof.Machine.execBeql rs rt imm s
  | .bnel rs rt imm => Sys2Proof.Machine.execBnel rs rt imm s
  | .blezl rs imm => Sys2Proof.Machine.execBlezl rs imm s
  | .bgtzl rs imm => Sys2Proof.Machine.execBgtzl rs imm s
  | .bltzl rs imm => Sys2Proof.Machine.execBltzl rs imm s
  | .bgezl rs imm => Sys2Proof.Machine.execBgezl rs imm s
  | .bltzall rs imm => Sys2Proof.Machine.execBltzall rs imm s
  | .bgezall rs imm => Sys2Proof.Machine.execBgezall rs imm s
  | .mfc0 rt rd sel => Sys2Proof.Machine.execMfc0 rt rd sel s
  | .dmfc0 rt rd sel => Sys2Proof.Machine.execDmfc0 rt rd sel s
  | .mtc0 rt rd sel => Sys2Proof.Machine.execMtc0 rt rd sel s
  | .dmtc0 rt rd sel => Sys2Proof.Machine.execDmtc0 rt rd sel s
  | .rdpgpr rt rd => Sys2Proof.Machine.execRdpgpr rt rd s
  | .wrpgpr rt rd => Sys2Proof.Machine.execWrpgpr rt rd s
  | .tlbp => Sys2Proof.Machine.execTlbp s
  | .tlbr => Sys2Proof.Machine.execTlbr s
  | .tlbwi => Sys2Proof.Machine.execTlbwi s
  | .tlbwr => Sys2Proof.Machine.execTlbwr s
  | .eret => Sys2Proof.Machine.execEret s
  | .deret => Sys2Proof.Machine.execDeret s
  | .sdbbp code => Sys2Proof.Machine.execSdbbp code s
  | .cache base hint imm => Sys2Proof.Machine.execCache base hint imm s
  | .rdhwr rt rd => Sys2Proof.Machine.execRdhwr rt rd s
  | .wait code => Sys2Proof.Machine.execWait code s
  | .di rt => Sys2Proof.Machine.execDi rt s
  | .ei rt => Sys2Proof.Machine.execEi rt s
  | .syscall code => Sys2Proof.Machine.execSyscall code s
  | .brk code => Sys2Proof.Machine.execBrk code s
  | .sync stype => Sys2Proof.Machine.execSync stype s
  | .synci base imm => Sys2Proof.Machine.execSynci base imm s
  | .nop => Sys2Proof.Machine.execNop s
  | .ssnop => Sys2Proof.Machine.execSsnop s
  | .ehb => Sys2Proof.Machine.execEhb s
  | .tge rs rt code => Sys2Proof.Machine.execTge rs rt code s
  | .tgeu rs rt code => Sys2Proof.Machine.execTgeu rs rt code s
  | .tlt rs rt code => Sys2Proof.Machine.execTlt rs rt code s
  | .tltu rs rt code => Sys2Proof.Machine.execTltu rs rt code s
  | .teq rs rt code => Sys2Proof.Machine.execTeq rs rt code s
  | .tne rs rt code => Sys2Proof.Machine.execTne rs rt code s
  | .tgei rs imm => Sys2Proof.Machine.execTgei rs imm s
  | .tgeiu rs imm => Sys2Proof.Machine.execTgeiu rs imm s
  | .tlti rs imm => Sys2Proof.Machine.execTlti rs imm s
  | .tltiu rs imm => Sys2Proof.Machine.execTltiu rs imm s
  | .teqi rs imm => Sys2Proof.Machine.execTeqi rs imm s
  | .tnei rs imm => Sys2Proof.Machine.execTnei rs imm s
  | .movn rs rt rd => Sys2Proof.Machine.execMovn rs rt rd s
  | .movz rs rt rd => Sys2Proof.Machine.execMovz rs rt rd s
  | .movf rs cc rd => Sys2Proof.Machine.execMovf rs cc rd s
  | .movt rs cc rd => Sys2Proof.Machine.execMovt rs cc rd s
  | .gsmult rs rt rd => Sys2Proof.Machine.execGsmult rs rt rd s
  | .gsdmult rs rt rd => Sys2Proof.Machine.execGsdmult rs rt rd s
  | .gsmultu rs rt rd => Sys2Proof.Machine.execGsmultu rs rt rd s
  | .gsdmultu rs rt rd => Sys2Proof.Machine.execGsdmultu rs rt rd s
  | .gsdiv rs rt rd => Sys2Proof.Machine.execGsdiv rs rt rd s
  | .gsddiv rs rt rd => Sys2Proof.Machine.execGsddiv rs rt rd s
  | .gsdivu rs rt rd => Sys2Proof.Machine.execGsdivu rs rt rd s
  | .gsddivu rs rt rd => Sys2Proof.Machine.execGsddivu rs rt rd s
  | .gsmod rs rt rd => Sys2Proof.Machine.execGsmod rs rt rd s
  | .gsdmod rs rt rd => Sys2Proof.Machine.execGsdmod rs rt rd s
  | .gsmodu rs rt rd => Sys2Proof.Machine.execGsmodu rs rt rd s
  | .gsdmodu rs rt rd => Sys2Proof.Machine.execGsdmodu rs rt rd s
  | .gsle rs rt => Sys2Proof.Machine.execGsle rs rt s
  | .gsgt rs rt => Sys2Proof.Machine.execGsgt rs rt s
  | .gslble base rt rd => Sys2Proof.Machine.execGslble base rt rd s
  | .gslbgt base rt rd => Sys2Proof.Machine.execGslbgt base rt rd s
  | .gslhle base rt rd => Sys2Proof.Machine.execGslhle base rt rd s
  | .gslhgt base rt rd => Sys2Proof.Machine.execGslhgt base rt rd s
  | .gslwle base rt rd => Sys2Proof.Machine.execGslwle base rt rd s
  | .gslwgt base rt rd => Sys2Proof.Machine.execGslwgt base rt rd s
  | .gsldle base rt rd => Sys2Proof.Machine.execGsldle base rt rd s
  | .gsldgt base rt rd => Sys2Proof.Machine.execGsldgt base rt rd s
  | .gslq base rt off rq => Sys2Proof.Machine.execGslq base rt off rq s
  | .gslbx base rt index off => Sys2Proof.Machine.execGslbx base rt index off s
  | .gslhx base rt index off => Sys2Proof.Machine.execGslhx base rt index off s
  | .gslwx base rt index off => Sys2Proof.Machine.execGslwx base rt index off s
  | .gsldx base rt index off => Sys2Proof.Machine.execGsldx base rt index off s
  | .gssble base rt rd => Sys2Proof.Machine.execGssble base rt rd s
  | .gssbgt base rt rd => Sys2Proof.Machine.execGssbgt base rt rd s
  | .gsshle base rt rd => Sys2Proof.Machine.execGsshle base rt rd s
  | .gsshgt base rt rd => Sys2Proof.Machine.execGsshgt base rt rd s
  | .gsswle base rt rd => Sys2Proof.Machine.execGsswle base rt rd s
  | .gsswgt base rt rd => Sys2Proof.Machine.execGsswgt base rt rd s
  | .gssdle base rt rd => Sys2Proof.Machine.execGssdle base rt rd s
  | .gssdgt base rt rd => Sys2Proof.Machine.execGssdgt base rt rd s
  | .gssq base rt off rq => Sys2Proof.Machine.execGssq base rt off rq s
  | .gssbx base rt index off => Sys2Proof.Machine.execGssbx base rt index off s
  | .gsshx base rt index off => Sys2Proof.Machine.execGsshx base rt index off s
  | .gsswx base rt index off => Sys2Proof.Machine.execGsswx base rt index off s
  | .gssdx base rt index off => Sys2Proof.Machine.execGssdx base rt index off s
  | .x86and => Sys2Proof.Machine.execX86and s
  | .x86or => Sys2Proof.Machine.execX86or s
  | .x86xor => Sys2Proof.Machine.execX86xor s
  | .x86dadd => Sys2Proof.Machine.execX86dadd s
  | .x86add => Sys2Proof.Machine.execX86add s
  | .x86daddu => Sys2Proof.Machine.execX86daddu s
  | .x86addu => Sys2Proof.Machine.execX86addu s
  | .x86dsub => Sys2Proof.Machine.execX86dsub s
  | .x86sub => Sys2Proof.Machine.execX86sub s
  | .x86dsubu => Sys2Proof.Machine.execX86dsubu s
  | .x86subu => Sys2Proof.Machine.execX86subu s
  | .x86inc => Sys2Proof.Machine.execX86inc s
  | .x86dec => Sys2Proof.Machine.execX86dec s
  | .x86dsll => Sys2Proof.Machine.execX86dsll s
  | .x86sll => Sys2Proof.Machine.execX86sll s
  | .x86dsll32 => Sys2Proof.Machine.execX86dsll32 s
  | .x86dsllv => Sys2Proof.Machine.execX86dsllv s
  | .x86sllv => Sys2Proof.Machine.execX86sllv s
  | .x86dsrl => Sys2Proof.Machine.execX86dsrl s
  | .x86srl => Sys2Proof.Machine.execX86srl s
  | .x86dsrl32 => Sys2Proof.Machine.execX86dsrl32 s
  | .x86dsrlv => Sys2Proof.Machine.execX86dsrlv s
  | .x86srlv => Sys2Proof.Machine.execX86srlv s
  | .x86dsra => Sys2Proof.Machine.execX86dsra s
  | .x86sra => Sys2Proof.Machine.execX86sra s
  | .x86dsra32 => Sys2Proof.Machine.execX86dsra32 s
  | .x86dsrav => Sys2Proof.Machine.execX86dsrav s
  | .x86srav => Sys2Proof.Machine.execX86srav s
  | .x86drotr => Sys2Proof.Machine.execX86drotr s
  | .x86rotr => Sys2Proof.Machine.execX86rotr s
  | .x86drotr32 => Sys2Proof.Machine.execX86drotr32 s
  | .x86drotrv => Sys2Proof.Machine.execX86drotrv s
  | .x86rotrv => Sys2Proof.Machine.execX86rotrv s
  | .x86mfflag rd => Sys2Proof.Machine.execX86mfflag rd s
  | .x86mtflag => Sys2Proof.Machine.execX86mtflag s
  | .x86j => Sys2Proof.Machine.execX86j s
  | .x86loop => Sys2Proof.Machine.execX86loop s
  | .settm => Sys2Proof.Machine.execSettm s
  | .clrtm => Sys2Proof.Machine.execClrtm s
  | .inctop => Sys2Proof.Machine.execInctop s
  | .dectop => Sys2Proof.Machine.execDectop s
  | .mttop => Sys2Proof.Machine.execMttop s
  | .mftop rd => Sys2Proof.Machine.execMftop rd s
  | .settag => Sys2Proof.Machine.execSettag s
  | .campv => Sys2Proof.Machine.execCampv s
  | .campi => Sys2Proof.Machine.execCampi s
  | .camwi => Sys2Proof.Machine.execCamwi s
  | .ramri => Sys2Proof.Machine.execRamri s
  | .paddsh ft fs fd => Sys2Proof.Machine.execPaddsh ft fs fd s
  | .paddush ft fs fd => Sys2Proof.Machine.execPaddush ft fs fd s
  | .paddh ft fs fd => Sys2Proof.Machine.execPaddh ft fs fd s
  | .paddw ft fs fd => Sys2Proof.Machine.execPaddw ft fs fd s
  | .paddsb ft fs fd => Sys2Proof.Machine.execPaddsb ft fs fd s
  | .paddusb ft fs fd => Sys2Proof.Machine.execPaddusb ft fs fd s
  | .paddb ft fs fd => Sys2Proof.Machine.execPaddb ft fs fd s
  | .paddd ft fs fd => Sys2Proof.Machine.execPaddd ft fs fd s
  | .psubsh ft fs fd => Sys2Proof.Machine.execPsubsh ft fs fd s
  | .psubush ft fs fd => Sys2Proof.Machine.execPsubush ft fs fd s
  | .psubh ft fs fd => Sys2Proof.Machine.execPsubh ft fs fd s
  | .psubw ft fs fd => Sys2Proof.Machine.execPsubw ft fs fd s
  | .psubsb ft fs fd => Sys2Proof.Machine.execPsubsb ft fs fd s
  | .psubusb ft fs fd => Sys2Proof.Machine.execPsubusb ft fs fd s
  | .psubb ft fs fd => Sys2Proof.Machine.execPsubb ft fs fd s
  | .psubd ft fs fd => Sys2Proof.Machine.execPsubd ft fs fd s
  | .pshufh ft fs fd => Sys2Proof.Machine.execPshufh ft fs fd s
  | .packsswh ft fs fd => Sys2Proof.Machine.execPacksswh ft fs fd s
  | .packsshb ft fs fd => Sys2Proof.Machine.execPacksshb ft fs fd s
  | .packushb ft fs fd => Sys2Proof.Machine.execPackushb ft fs fd s
  | .pandn ft fs fd => Sys2Proof.Machine.execPandn ft fs fd s
  | .punpcklhw ft fs fd => Sys2Proof.Machine.execPunpcklhw ft fs fd s
  | .punpckhhw ft fs fd => Sys2Proof.Machine.execPunpckhhw ft fs fd s
  | .punpcklbh ft fs fd => Sys2Proof.Machine.execPunpcklbh ft fs fd s
  | .punpckhbh ft fs fd => Sys2Proof.Machine.execPunpckhbh ft fs fd s
  | .pinsrh0 ft fs fd => Sys2Proof.Machine.execPinsrh0 ft fs fd s
  | .pinsrh1 ft fs fd => Sys2Proof.Machine.execPinsrh1 ft fs fd s
  | .pinsrh2 ft fs fd => Sys2Proof.Machine.execPinsrh2 ft fs fd s
  | .pinsrh3 ft fs fd => Sys2Proof.Machine.execPinsrh3 ft fs fd s
  | .pavgh ft fs fd => Sys2Proof.Machine.execPavgh ft fs fd s
  | .pavgb ft fs fd => Sys2Proof.Machine.execPavgb ft fs fd s
  | .pmaxsh ft fs fd => Sys2Proof.Machine.execPmaxsh ft fs fd s
  | .pminsh ft fs fd => Sys2Proof.Machine.execPminsh ft fs fd s
  | .pmaxub ft fs fd => Sys2Proof.Machine.execPmaxub ft fs fd s
  | .pminub ft fs fd => Sys2Proof.Machine.execPminub ft fs fd s
  | .pcmpeqw ft fs fd => Sys2Proof.Machine.execPcmpeqw ft fs fd s
  | .pcmpgtw ft fs fd => Sys2Proof.Machine.execPcmpgtw ft fs fd s
  | .pcmpeqh ft fs fd => Sys2Proof.Machine.execPcmpeqh ft fs fd s
  | .pcmpgth ft fs fd => Sys2Proof.Machine.execPcmpgth ft fs fd s
  | .pcmpeqb ft fs fd => Sys2Proof.Machine.execPcmpeqb ft fs fd s
  | .pcmpgtb ft fs fd => Sys2Proof.Machine.execPcmpgtb ft fs fd s
  | .psllw ft fs fd => Sys2Proof.Machine.execPsllw ft fs fd s
  | .psllh ft fs fd => Sys2Proof.Machine.execPsllh ft fs fd s
  | .pmullh ft fs fd => Sys2Proof.Machine.execPmullh ft fs fd s
  | .pmulhh ft fs fd => Sys2Proof.Machine.execPmulhh ft fs fd s
  | .pmuluw ft fs fd => Sys2Proof.Machine.execPmuluw ft fs fd s
  | .pmulhuh ft fs fd => Sys2Proof.Machine.execPmulhuh ft fs fd s
  | .psrlw ft fs fd => Sys2Proof.Machine.execPsrlw ft fs fd s
  | .psrlh ft fs fd => Sys2Proof.Machine.execPsrlh ft fs fd s
  | .psraw ft fs fd => Sys2Proof.Machine.execPsraw ft fs fd s
  | .psrah ft fs fd => Sys2Proof.Machine.execPsrah ft fs fd s
  | .punpcklwd ft fs fd => Sys2Proof.Machine.execPunpcklwd ft fs fd s
  | .punpckhwd ft fs fd => Sys2Proof.Machine.execPunpckhwd ft fs fd s
  | .pasubub ft fs fd => Sys2Proof.Machine.execPasubub ft fs fd s
  | .pextrh ft fs fd => Sys2Proof.Machine.execPextrh ft fs fd s
  | .pmaddhw ft fs fd => Sys2Proof.Machine.execPmaddhw ft fs fd s
  | .biadd fs fd => Sys2Proof.Machine.execBiadd fs fd s
  | .pmovmskb fs fd => Sys2Proof.Machine.execPmovmskb fs fd s
  | .gsxor ft fs fd => Sys2Proof.Machine.execGsxor ft fs fd s
  | .gsnor ft fs fd => Sys2Proof.Machine.execGsnor ft fs fd s
  | .gsand ft fs fd => Sys2Proof.Machine.execGsand ft fs fd s
  | .gsaddu ft fs fd => Sys2Proof.Machine.execGsaddu ft fs fd s
  | .gsor ft fs fd => Sys2Proof.Machine.execGsor ft fs fd s
  | .gsadd ft fs fd => Sys2Proof.Machine.execGsadd ft fs fd s
  | .gsdadd ft fs fd => Sys2Proof.Machine.execGsdadd ft fs fd s
  | .gssequ ft fs => Sys2Proof.Machine.execGssequ ft fs s
  | .gsseq ft fs => Sys2Proof.Machine.execGsseq ft fs s
  | .gssubu ft fs fd => Sys2Proof.Machine.execGssubu ft fs fd s
  | .gssub ft fs fd => Sys2Proof.Machine.execGssub ft fs fd s
  | .gsdsub ft fs fd => Sys2Proof.Machine.execGsdsub ft fs fd s
  | .gssltu ft fs => Sys2Proof.Machine.execGssltu ft fs s
  | .gsslt ft fs => Sys2Proof.Machine.execGsslt ft fs s
  | .gssll ft fs fd => Sys2Proof.Machine.execGssll ft fs fd s
  | .gsdsll ft fs fd => Sys2Proof.Machine.execGsdsll ft fs fd s
  | .gssrl ft fs fd => Sys2Proof.Machine.execGssrl ft fs fd s
  | .gsdsrl ft fs fd => Sys2Proof.Machine.execGsdsrl ft fs fd s
  | .gssra ft fs fd => Sys2Proof.Machine.execGssra ft fs fd s
  | .gsdsra ft fs fd => Sys2Proof.Machine.execGsdsra ft fs fd s
  | .gssleu ft fs => Sys2Proof.Machine.execGssleu ft fs s
  | .gssle ft fs => Sys2Proof.Machine.execGssle ft fs s
  | .absS fs fd => Sys2Proof.Machine.execAbsS fs fd s
  | .absD fs fd => Sys2Proof.Machine.execAbsD fs fd s
  | .absPs fs fd => Sys2Proof.Machine.execAbsPs fs fd s
  | .addS ft fs fd => Sys2Proof.Machine.execAddS ft fs fd s
  | .addD ft fs fd => Sys2Proof.Machine.execAddD ft fs fd s
  | .addPs ft fs fd => Sys2Proof.Machine.execAddPs ft fs fd s
  | .divS ft fs fd => Sys2Proof.Machine.execDivS ft fs fd s
  | .divD ft fs fd => Sys2Proof.Machine.execDivD ft fs fd s
  | .maddS fr ft fs fd => Sys2Proof.Machine.execMaddS fr ft fs fd s
  | .maddD fr ft fs fd => Sys2Proof.Machine.execMaddD fr ft fs fd s
  | .maddPs fr ft fs fd => Sys2Proof.Machine.execMaddPs fr ft fs fd s
  | .msubS fr ft fs fd => Sys2Proof.Machine.execMsubS fr ft fs fd s
  | .msubD fr ft fs fd => Sys2Proof.Machine.execMsubD fr ft fs fd s
  | .msubPs fr ft fs fd => Sys2Proof.Machine.execMsubPs fr ft fs fd s
  | .mulS ft fs fd => Sys2Proof.Machine.execMulS ft fs fd s
  | .mulD ft fs fd => Sys2Proof.Machine.execMulD ft fs fd s
  | .mulPs ft fs fd => Sys2Proof.Machine.execMulPs ft fs fd s
  | .negS fs fd => Sys2Proof.Machine.execNegS fs fd s
  | .negD fs fd => Sys2Proof.Machine.execNegD fs fd s
  | .negPs fs fd => Sys2Proof.Machine.execNegPs fs fd s
  | .nmaddS fr ft fs fd => Sys2Proof.Machine.execNmaddS fr ft fs fd s
  | .nmaddD fr ft fs fd => Sys2Proof.Machine.execNmaddD fr ft fs fd s
  | .nmaddPs fr ft fs fd => Sys2Proof.Machine.execNmaddPs fr ft fs fd s
  | .nmsubS fr ft fs fd => Sys2Proof.Machine.execNmsubS fr ft fs fd s
  | .nmsubD fr ft fs fd => Sys2Proof.Machine.execNmsubD fr ft fs fd s
  | .nmsubPs fr ft fs fd => Sys2Proof.Machine.execNmsubPs fr ft fs fd s
  | .recipS fs fd => Sys2Proof.Machine.execRecipS fs fd s
  | .recipD fs fd => Sys2Proof.Machine.execRecipD fs fd s
  | .rsqrtS fs fd => Sys2Proof.Machine.execRsqrtS fs fd s
  | .rsqrtD fs fd => Sys2Proof.Machine.execRsqrtD fs fd s
  | .sqrtS fs fd => Sys2Proof.Machine.execSqrtS fs fd s
  | .sqrtD fs fd => Sys2Proof.Machine.execSqrtD fs fd s
  | .subS ft fs fd => Sys2Proof.Machine.execSubS ft fs fd s
  | .subD ft fs fd => Sys2Proof.Machine.execSubD ft fs fd s
  | .subPs ft fs fd => Sys2Proof.Machine.execSubPs ft fs fd s
  | .cFS ft fs cc => Sys2Proof.Machine.execCFS ft fs cc s
  | .cUnS ft fs cc => Sys2Proof.Machine.execCUnS ft fs cc s
  | .cEqS ft fs cc => Sys2Proof.Machine.execCEqS ft fs cc s
  | .cUeqS ft fs cc => Sys2Proof.Machine.execCUeqS ft fs cc s
  | .cOltS ft fs cc => Sys2Proof.Machine.execCOltS ft fs cc s
  | .cUltS ft fs cc => Sys2Proof.Machine.execCUltS ft fs cc s
  | .cOleS ft fs cc => Sys2Proof.Machine.execCOleS ft fs cc s
  | .cUleS ft fs cc => Sys2Proof.Machine.execCUleS ft fs cc s
  | .cSfS ft fs cc => Sys2Proof.Machine.execCSfS ft fs cc s
  | .cNgleS ft fs cc => Sys2Proof.Machine.execCNgleS ft fs cc s
  | .cSeqS ft fs cc => Sys2Proof.Machine.execCSeqS ft fs cc s
  | .cNglS ft fs cc => Sys2Proof.Machine.execCNglS ft fs cc s
  | .cLtS ft fs cc => Sys2Proof.Machine.execCLtS ft fs cc s
  | .cNgeS ft fs cc => Sys2Proof.Machine.execCNgeS ft fs cc s
  | .cLeS ft fs cc => Sys2Proof.Machine.execCLeS ft fs cc s
  | .cNgtS ft fs cc => Sys2Proof.Machine.execCNgtS ft fs cc s
  | .cFD ft fs cc => Sys2Proof.Machine.execCFD ft fs cc s
  | .cUnD ft fs cc => Sys2Proof.Machine.execCUnD ft fs cc s
  | .cEqD ft fs cc => Sys2Proof.Machine.execCEqD ft fs cc s
  | .cUeqD ft fs cc => Sys2Proof.Machine.execCUeqD ft fs cc s
  | .cOltD ft fs cc => Sys2Proof.Machine.execCOltD ft fs cc s
  | .cUltD ft fs cc => Sys2Proof.Machine.execCUltD ft fs cc s
  | .cOleD ft fs cc => Sys2Proof.Machine.execCOleD ft fs cc s
  | .cUleD ft fs cc => Sys2Proof.Machine.execCUleD ft fs cc s
  | .cSfD ft fs cc => Sys2Proof.Machine.execCSfD ft fs cc s
  | .cNgleD ft fs cc => Sys2Proof.Machine.execCNgleD ft fs cc s
  | .cSeqD ft fs cc => Sys2Proof.Machine.execCSeqD ft fs cc s
  | .cNglD ft fs cc => Sys2Proof.Machine.execCNglD ft fs cc s
  | .cLtD ft fs cc => Sys2Proof.Machine.execCLtD ft fs cc s
  | .cNgeD ft fs cc => Sys2Proof.Machine.execCNgeD ft fs cc s
  | .cLeD ft fs cc => Sys2Proof.Machine.execCLeD ft fs cc s
  | .cNgtD ft fs cc => Sys2Proof.Machine.execCNgtD ft fs cc s
  | .cFPs ft fs cc => Sys2Proof.Machine.execCFPs ft fs cc s
  | .cUnPs ft fs cc => Sys2Proof.Machine.execCUnPs ft fs cc s
  | .cEqPs ft fs cc => Sys2Proof.Machine.execCEqPs ft fs cc s
  | .cUeqPs ft fs cc => Sys2Proof.Machine.execCUeqPs ft fs cc s
  | .cOltPs ft fs cc => Sys2Proof.Machine.execCOltPs ft fs cc s
  | .cUltPs ft fs cc => Sys2Proof.Machine.execCUltPs ft fs cc s
  | .cOlePs ft fs cc => Sys2Proof.Machine.execCOlePs ft fs cc s
  | .cUlePs ft fs cc => Sys2Proof.Machine.execCUlePs ft fs cc s
  | .cSfPs ft fs cc => Sys2Proof.Machine.execCSfPs ft fs cc s
  | .cNglePs ft fs cc => Sys2Proof.Machine.execCNglePs ft fs cc s
  | .cSeqPs ft fs cc => Sys2Proof.Machine.execCSeqPs ft fs cc s
  | .cNglPs ft fs cc => Sys2Proof.Machine.execCNglPs ft fs cc s
  | .cLtPs ft fs cc => Sys2Proof.Machine.execCLtPs ft fs cc s
  | .cNgePs ft fs cc => Sys2Proof.Machine.execCNgePs ft fs cc s
  | .cLePs ft fs cc => Sys2Proof.Machine.execCLePs ft fs cc s
  | .cNgtPs ft fs cc => Sys2Proof.Machine.execCNgtPs ft fs cc s
  | .ceilLS fs fd => Sys2Proof.Machine.execCeilLS fs fd s
  | .ceilLD fs fd => Sys2Proof.Machine.execCeilLD fs fd s
  | .ceilWS fs fd => Sys2Proof.Machine.execCeilWS fs fd s
  | .ceilWD fs fd => Sys2Proof.Machine.execCeilWD fs fd s
  | .cvtDS fs fd => Sys2Proof.Machine.execCvtDS fs fd s
  | .cvtDW fs fd => Sys2Proof.Machine.execCvtDW fs fd s
  | .cvtDL fs fd => Sys2Proof.Machine.execCvtDL fs fd s
  | .cvtLS fs fd => Sys2Proof.Machine.execCvtLS fs fd s
  | .cvtLD fs fd => Sys2Proof.Machine.execCvtLD fs fd s
  | .cvtSD fs fd => Sys2Proof.Machine.execCvtSD fs fd s
  | .cvtSW fs fd => Sys2Proof.Machine.execCvtSW fs fd s
  | .cvtSL fs fd => Sys2Proof.Machine.execCvtSL fs fd s
  | .cvtWS fs fd => Sys2Proof.Machine.execCvtWS fs fd s
  | .cvtWD fs fd => Sys2Proof.Machine.execCvtWD fs fd s
  | .floorLS fs fd => Sys2Proof.Machine.execFloorLS fs fd s
  | .floorLD fs fd => Sys2Proof.Machine.execFloorLD fs fd s
  | .floorWS fs fd => Sys2Proof.Machine.execFloorWS fs fd s
  | .floorWD fs fd => Sys2Proof.Machine.execFloorWD fs fd s
  | .roundLS fs fd => Sys2Proof.Machine.execRoundLS fs fd s
  | .roundLD fs fd => Sys2Proof.Machine.execRoundLD fs fd s
  | .roundWS fs fd => Sys2Proof.Machine.execRoundWS fs fd s
  | .roundWD fs fd => Sys2Proof.Machine.execRoundWD fs fd s
  | .truncLS fs fd => Sys2Proof.Machine.execTruncLS fs fd s
  | .truncLD fs fd => Sys2Proof.Machine.execTruncLD fs fd s
  | .truncWS fs fd => Sys2Proof.Machine.execTruncWS fs fd s
  | .truncWD fs fd => Sys2Proof.Machine.execTruncWD fs fd s
  | .cvtPsS ft fs fd => Sys2Proof.Machine.execCvtPsS ft fs fd s
  | .cvtSPl fs fd => Sys2Proof.Machine.execCvtSPl fs fd s
  | .cvtDLd => Sys2Proof.Machine.execCvtDLd s
  | .cvtLdD => Sys2Proof.Machine.execCvtLdD s
  | .cvtUdD => Sys2Proof.Machine.execCvtUdD s
  | .cvtSPu fs fd => Sys2Proof.Machine.execCvtSPu fs fd s
  | .pllPs ft fs fd => Sys2Proof.Machine.execPllPs ft fs fd s
  | .pluPs ft fs fd => Sys2Proof.Machine.execPluPs ft fs fd s
  | .pulPs ft fs fd => Sys2Proof.Machine.execPulPs ft fs fd s
  | .puuPs ft fs fd => Sys2Proof.Machine.execPuuPs ft fs fd s
  | .cfc1 rt fs => Sys2Proof.Machine.execCfc1 rt fs s
  | .ctc1 rt fs => Sys2Proof.Machine.execCtc1 rt fs s
  | .dmfc1 rt fs => Sys2Proof.Machine.execDmfc1 rt fs s
  | .dmtc1 rt fs => Sys2Proof.Machine.execDmtc1 rt fs s
  | .mfc1 rt fs => Sys2Proof.Machine.execMfc1 rt fs s
  | .mfhc1 rt fs => Sys2Proof.Machine.execMfhc1 rt fs s
  | .mtc1 rt fs => Sys2Proof.Machine.execMtc1 rt fs s
  | .mthc1 rt fs => Sys2Proof.Machine.execMthc1 rt fs s
  | .alnvPs rs ft fs fd => Sys2Proof.Machine.execAlnvPs rs ft fs fd s
  | .movS fs fd => Sys2Proof.Machine.execMovS fs fd s
  | .movD fs fd => Sys2Proof.Machine.execMovD fs fd s
  | .movPs fs fd => Sys2Proof.Machine.execMovPs fs fd s
  | .movfS cc fs fd => Sys2Proof.Machine.execMovfS cc fs fd s
  | .movfD cc fs fd => Sys2Proof.Machine.execMovfD cc fs fd s
  | .movfPs cc fs fd => Sys2Proof.Machine.execMovfPs cc fs fd s
  | .movnS rt fs fd => Sys2Proof.Machine.execMovnS rt fs fd s
  | .movnD rt fs fd => Sys2Proof.Machine.execMovnD rt fs fd s
  | .movnPs rt fs fd => Sys2Proof.Machine.execMovnPs rt fs fd s
  | .movtS cc fs fd => Sys2Proof.Machine.execMovtS cc fs fd s
  | .movtD cc fs fd => Sys2Proof.Machine.execMovtD cc fs fd s
  | .movtPs cc fs fd => Sys2Proof.Machine.execMovtPs cc fs fd s
  | .movzS rt fs fd => Sys2Proof.Machine.execMovzS rt fs fd s
  | .movzD rt fs fd => Sys2Proof.Machine.execMovzD rt fs fd s
  | .movzPs rt fs fd => Sys2Proof.Machine.execMovzPs rt fs fd s
  | .bc1f cc imm => Sys2Proof.Machine.execBc1f cc imm s
  | .bc1fl cc imm => Sys2Proof.Machine.execBc1fl cc imm s
  | .bc1t cc imm => Sys2Proof.Machine.execBc1t cc imm s
  | .bc1tl cc imm => Sys2Proof.Machine.execBc1tl cc imm s
  | .ldc1 base ft imm => Sys2Proof.Machine.execLdc1 base ft imm s
  | .ldxc1 base index fd => Sys2Proof.Machine.execLdxc1 base index fd s
  | .luxc1 base index fd => Sys2Proof.Machine.execLuxc1 base index fd s
  | .lwc1 base ft imm => Sys2Proof.Machine.execLwc1 base ft imm s
  | .lwxc1 base index fd => Sys2Proof.Machine.execLwxc1 base index fd s
  | .sdc1 base ft imm => Sys2Proof.Machine.execSdc1 base ft imm s
  | .sdxc1 base index fs => Sys2Proof.Machine.execSdxc1 base index fs s
  | .suxc1 base index fs => Sys2Proof.Machine.execSuxc1 base index fs s
  | .swc1 base ft imm => Sys2Proof.Machine.execSwc1 base ft imm s
  | .swxc1 base index fs => Sys2Proof.Machine.execSwxc1 base index fs s
  | .gssqc1 base ft off rq => Sys2Proof.Machine.execGssqc1 base ft off rq s
  | .gsswlec1 base ft rd => Sys2Proof.Machine.execGsswlec1 base ft rd s
  | .gslwxc1 base ft index off => Sys2Proof.Machine.execGslwxc1 base ft index off s
  | .gslqc1 base ft off rq => Sys2Proof.Machine.execGslqc1 base ft off rq s
  | .gslwlec1 base ft rd => Sys2Proof.Machine.execGslwlec1 base ft rd s
  | .gslwlc1 base ft off => Sys2Proof.Machine.execGslwlc1 base ft off s
  | .gslwrc1 base ft off => Sys2Proof.Machine.execGslwrc1 base ft off s
  | .gsldlc1 base ft off => Sys2Proof.Machine.execGsldlc1 base ft off s
  | .gsldrc1 base ft off => Sys2Proof.Machine.execGsldrc1 base ft off s
  | .gslwgtc1 base ft rd => Sys2Proof.Machine.execGslwgtc1 base ft rd s
  | .gsldlec1 base ft rd => Sys2Proof.Machine.execGsldlec1 base ft rd s
  | .gsldgtc1 base ft rd => Sys2Proof.Machine.execGsldgtc1 base ft rd s
  | .gsldxc1 base ft index off => Sys2Proof.Machine.execGsldxc1 base ft index off s
  | .gsswlc1 base ft off => Sys2Proof.Machine.execGsswlc1 base ft off s
  | .gsswrc1 base ft off => Sys2Proof.Machine.execGsswrc1 base ft off s
  | .gssdlc1 base ft off => Sys2Proof.Machine.execGssdlc1 base ft off s
  | .gssdrc1 base ft off => Sys2Proof.Machine.execGssdrc1 base ft off s
  | .gsswgtc1 base ft rd => Sys2Proof.Machine.execGsswgtc1 base ft rd s
  | .gssdlec1 base ft rd => Sys2Proof.Machine.execGssdlec1 base ft rd s
  | .gssdgtc1 base ft rd => Sys2Proof.Machine.execGssdgtc1 base ft rd s
  | .gsswxc1 base ft index off => Sys2Proof.Machine.execGsswxc1 base ft index off s
  | .gssdxc1 base ft index off => Sys2Proof.Machine.execGssdxc1 base ft index off s

end Sys2Proof.Machine
end

