-- ==== Sys2Proof/Machine/Fetch.lean ====
section
/-!
DEFINITION. What surrounds an instruction in one step: the fetch, an unknown word, the recognition of an
interrupt, the advance of the timers (00_scope.md rule R14).
-/
namespace Sys2Proof.Machine

/-- The old words that a fetch of the word at `a` may still return (20_memory.md rule R237; log 17). -/
def State.oldWords (s : State) (a : Nat) : List Word :=
  (s.stale.filter (fun w => w.addr == a)).map StaleWord.old

/-- The word a fetch returns: the stored one, or any of the old ones (20_memory.md rule R237; log 17). -/
def State.fetchedWord (s : State) (a : Nat) : Word :=
  match s.oldWords a with
  | [] => s.wordAt a
  | w :: rest =>
    let ws := s.wordAt a :: w :: rest
    ws.getD ((s.free Slot.fetch).toNat % ws.length) (s.wordAt a)

/-- Steps 3 and 4 of 00_scope.md rule R14: alignment, translation, bus error, the word; and the state the
instruction executes in. -/
def State.fetch (s : State) : Res (Word × State) :=
  if s.pc.setWidth 2 ≠ 0#2 then .exc (.addressError false s.pc)
  else (s.reach s.pc .fetch).bind fun p =>
    (p.2.checkPhys p.1.pa.toNat 4 false .ibe).bind fun _ => .ok (p.2.fetchedWord p.1.pa.toNat, p.2)

/-- The coprocessor whose usability every encoding under the word's opcode checks: COP0, COP1, COP1X
(60_exceptions.md rule R947; that no word under them is exempt is a DESIGN CHOICE, see State.unknownWord). -/
def opcodeUnit (w : Word) : Option (BitVec 2) :=
  let op := w.extractLsb' 26 6
  if op = 16#6 then some 0 else if op = 17#6 || op = 19#6 then some 1 else none

/-- A word that matches no row, after the coprocessor check of its opcode (30_encoding.md rule R280,
60_exceptions.md rule R947; log 18). DESIGN CHOICE, log 18: no word under COP1 or COP1X is taken for CVT.D.LD,
CVT.LD.D or CVT.UD.D, which take no Coprocessor Unusable (49_fpu.md rules R880 to R882, the last row of rule R947)
and whose place is not known (30_encoding.md rule R276): with CU1 = 0 every unmatched word there takes it. -/
def State.unknownWord (s : State) (w : Word) : Out :=
  let out := if Config.unknownWordRaisesRI then raise .ri s else .refused .unknownWord
  match opcodeUnit w with
  | some n => needCop n s out
  | none => out

/-- A pending interrupt is taken now: at any step up to the largest delay (60_exceptions.md rules R972,
R976; log 14). -/
def State.recognises (s : State) : Bool :=
  (s.free Slot.interrupt).getLsbD 0 || decide (Config.maxRecognitionDelay ≤ s.intWait)

/-- Debug.SSt is set: before the next instruction the machine would take a debug single step exception, and debug
mode is out of scope (60_exceptions.md rule R984, 11_cp0_registers.md rule R152; log 68). -/
def State.singleSteps (s : State) : Bool := (s.cp0.debug).getLsbD 8

/-- An interrupt taken between two instructions (00_scope.md rule R14, step 2). -/
def State.enterInterrupt (s : State) : Out :=
  match s.takeInterrupt with
  | .next t => .next { t with intWait := 0, freeCounter := t.freeCounter + 1 }
  | .fault f => .fault f
  | .refused r => .refused r

/-- The buffered stores may reach memory at any time: before this instruction by an open choice, and after a
bounded number of steps in any case (20_memory.md rules R225, R232; log 45). -/
def State.drainOpen (s : State) : State :=
  if !s.accel.isEmpty && ((s.free Slot.drain).getLsbD 0 || decide (Config.maxBufferDelay ≤ s.accelWait)) then s.drain
  else s

/-- The state an instruction starts from: the waits of a pending interrupt and of the buffer are counted, buffered
stores may have reached memory, and at the target of a jump the words a SYNC has covered are gone (20_memory.md
rules R225, R237; logs 14, 17, 45). -/
def State.opened (s : State) : State :=
  let u := if s.afterJump && !s.inDelaySlot then s.drainOpen.dropSynced else s.drainOpen
  { u with
    intWait := if s.interruptPending then s.intWait + 1 else 0
    accelWait := if u.accel.isEmpty then 0 else s.accelWait + 1 }

/-- Random after an instruction (11_cp0_registers.md rule R93). -/
def nextRandom (random wired : Word) : Word := if random ≤ wired then 63 else random - 1

/-- A performance counter counts: one of its set enable bits names the mode (11_cp0_registers.md rules R157,
R160). -/
def State.counts (s : State) (ctl : Word) : Bool :=
  (ctl.getLsbD 3 && s.ksu == 2 && !s.exl && !s.erl) ||
  (ctl.getLsbD 2 && s.ksu == 1 && !s.exl && !s.erl) ||
  (ctl.getLsbD 1 && s.ksu == 0 && !s.exl && !s.erl) ||
  (ctl.getLsbD 0 && s.exl && !s.erl)

/-- How far Count advances: any amount, none with Cause.DC = 1; after a bounded number of steps without an
advance at least 1 (11_cp0_registers.md rules R110, R112, R128; log 57). -/
def State.countAmount (s : State) : Word :=
  let a := lowWord (s.free Slot.count)
  if s.cp0.cause.getLsbD 27 then 0
  else if a = 0 && decide (Config.maxCountIdle ≤ s.countIdle) then 1
  else a

/-- How far a performance counter that reads `cnt` advances: any amount up to its largest value, so it never
decreases; after a bounded number of steps without an advance at least 1 (11_cp0_registers.md rule R160,
60_exceptions.md rule R981, 92_eei_decisions.md D14; log 57). -/
def counterAmount (cnt free : Dword) (idle : Nat) : Dword :=
  let a := BitVec.ofNat 64 (free.toNat % (2 ^ 64 - cnt.toNat))
  if a = 0 && cnt != BitVec.allOnes 64 && decide (Config.maxPerfIdle ≤ idle) then 1 else a

/-- The steps a counter has stood still, after a step in which it counts or not and advances by `amount`. -/
def stoodStill (counts : Bool) (amount : Dword) (idle : Nat) : Nat :=
  if counts then if amount = 0 then idle + 1 else 0 else idle

/-- Count equals Compare now or on the way while it advances by `amount` (11_cp0_registers.md rules R111,
R112). -/
def meetsCompare (count compare amount : Word) : Bool := decide (compare - count ≤ amount)

/-- Count, Cause.TI, the performance counters and Random advance (00_scope.md rule R14 step 8,
11_cp0_registers.md rules R93, R112, R160; log 57); `s` is the state the instruction started from. -/
def State.tick (t s : State) : State :=
  let a := t.countAmount
  let p := if s.counts s.cp0.perfCtl0 then counterAmount t.cp0.perfCnt0 (s.free Slot.perf0) t.perf0Idle else 0
  let q := if s.counts s.cp0.perfCtl1 then counterAmount t.cp0.perfCnt1 (s.free Slot.perf1) t.perf1Idle else 0
  { t with
    cp0 := { t.cp0 with
      random := nextRandom t.cp0.random t.cp0.wired
      count := t.cp0.count + a
      cause := if meetsCompare t.cp0.count t.cp0.compare a then putBit t.cp0.cause 30 true
        else t.cp0.cause
      perfCnt0 := t.cp0.perfCnt0 + p
      perfCnt1 := t.cp0.perfCnt1 + q }
    countIdle := if a = 0 && !t.cp0.cause.getLsbD 27 then t.countIdle + 1 else 0
    perf0Idle := stoodStill (s.counts s.cp0.perfCtl0) p t.perf0Idle
    perf1Idle := stoodStill (s.counts s.cp0.perfCtl1) q t.perf1Idle
    freeCounter := t.freeCounter + 1 }

/-- The end of a step that ran an instruction. -/
def finishStep (s : State) : Out → Out
  | .next t => .next (t.tick s)
  | .fault f => .fault f
  | .refused r => .refused r

/-- The four bytes from `a` can be fetched from. -/
def State.fetchable (s : State) (a : Nat) : Bool :=
  match s.checkPhys a 4 false .ibe with
  | .ok _ => true
  | _ => false

/-- A word stored at a physical address, mapped as RAM if it was not readable memory, with no old word and no
buffered store left there. -/
def State.placeWord (s : State) (a w : Nat) : State :=
  { s with
    mem := writeLE s.mem a 4 (BitVec.ofNat 64 w)
    stale := s.stale.filter (fun x => x.addr != a)
    phys := if s.fetchable a then s.phys else ⟨a, a + 4, .ram⟩ :: s.phys
    accel := s.accel.filter (fun b => decide (b.addr + b.size ≤ a) || decide (a + 4 ≤ b.addr)) }

/-- No colour is remembered that a cached access to `t` at `va` would clash with. -/
def State.forgetClash (s : State) (t : Target) (va : Dword) : State :=
  { s with coloured := s.coloured.filter (fun c =>
      c.page != t.pa.extractLsb' 12 36 || c.colour == va.extractLsb' 12 2) }

end Sys2Proof.Machine
end

