-- ==== Sys2Proof/Machine/Step.lean ====
section
/-!
DEFINITION. One step of the machine (00_scope.md rule R14).
-/
namespace Sys2Proof.Machine

noncomputable section

/-- Steps 3 to 7 of 00_scope.md rule R14: fetch, decode, execute. -/
def State.runInstruction (s : State) : Host.Outcome State Fault Refusal :=
  s.fetch.finish s fun p =>
    match decode p.1 with
    | some i => exec i p.2
    | none => p.2.unknownWord p.1

/-- One step (00_scope.md rule R14): the reset and NMI inputs, an interrupt, or an instruction; a single step into
debug mode is refused (60_exceptions.md rule R984). -/
def step (s : State) : Host.Outcome State Fault Refusal :=
  if s.coldReset then .next s.takeColdReset
  else if s.softReset then .next s.takeSoftReset
  else if s.nmi then .next s.takeNmi
  else if s.singleSteps then .refused .debugMode
  else if s.interruptPending && s.recognises then s.enterInterrupt
  else finishStep s.opened s.opened.runInstruction

/-- The state with an instruction stored where the next step fetches (log 49). -/
def State.withFetchWord (s : State) (_nbits w : Nat) : State :=
  match s.translate s.pc .fetch with
  | .ok t => (s.forgetClash t s.pc).placeWord t.pa.toNat w
  | _ => s

end

end Sys2Proof.Machine
end

