-- ==== Sys2Proof/Safety.lean ====
section
/-!
DEFINITION. What counts as a safe run, the invariant of the machine, and the terms claims use: what an
instruction writes and what it leaves unchanged.
-/
namespace Sys2Proof.Machine

/-- A step that neither faults nor is refused. -/
def State.safe (s : State) : Prop := ∃ t, step s = .next t

/-- The machine runs `n` steps from `s` and reaches `t`. -/
def runs (n : Nat) (s t : State) : Prop := Sys2Proof.core.run n s = .next t

/-! ### The invariant -/

/-- The bits of `mask` are clear. -/
def clearIn {w : Nat} (v mask : BitVec w) : Bool := v &&& mask == 0

/-- The bits of the CP0 registers that are reserved or fixed are as the spec says (11_cp0_registers.md rule R177
and each register's field table). Of Debug every bit but LSNM and SSt is fixed, for it changes only in debug mode
(rule R152). The computed bits of Cause, PCI and IP7 to IP2, are not stored. CPUNum, which the chip wires
(rule R138), is left out: it may have any value. -/
def Cp0.reservedClear (c : Cp0) : Bool :=
  clearIn c.index 0x7FFFFFC0#32 && clearIn c.random 0xFFFFFFC0#32 &&
  clearIn c.entryLo0 0xFFFFFC0000000000#64 && clearIn c.entryLo1 0xFFFFFC0000000000#64 &&
  clearIn c.context 0xF#64 && clearIn c.xContext 0xF#64 &&
  clearIn c.pageMask 0xFE001FFF#32 && clearIn c.pageGrain 0xDFFFFFFF#32 &&
  clearIn c.wired 0xFFFFFFC0#32 && clearIn c.hwrEna 0xFFFFFFF0#32 &&
  clearIn c.entryHi 0x3FFF000000001F00#64 && clearIn c.status 0x0B270000#32 &&
  clearIn (c.intCtl ^^^ 0xFC000000#32) 0xFFFFFC1F#32 && clearIn c.cause 0x077FFC83#32 &&
  clearIn (c.ebase ^^^ 0x80000000#32) 0xC0000C00#32 &&
  clearIn (c.config ^^^ 0x80034480#32) 0xFFFFFFF8#32 && clearIn c.llAddr 0xFFFF000000000FFF#64 &&
  clearIn c.diagnostic 0xFFFFFFFFFFFFFF0E#64 && clearIn (c.debug ^^^ 0x02018000#32) 0xEFFFFEFF#32 &&
  clearIn (c.perfCtl0 ^^^ 0xC0000000#32) 0xFFFFF800#32 && clearIn (c.perfCtl1 ^^^ 0x40000000#32) 0xFFFFF800#32 &&
  clearIn c.errCtl 0xFFFFFF00#32 && clearIn c.cacheErr 0xFFFFFFC0#32 && clearIn c.tagLo 0x0000000F#32 && clearIn c.tagHi 0xFFFFFFF0#32

/-- The floating-point status register keeps bits 21 to 18 clear (10_state.md rules R53, R60,
49_fpu_move_mem.md rule R906). -/
def State.fcsrClear (s : State) : Bool := clearIn s.fcsr 0x003C0000#32

/-- The uncached-accelerated buffer holds less than one cache line (20_memory.md rule R225). -/
def State.bufferBounded (s : State) : Bool := decide (bufferedBytes s.accel < 32)

/-- Outside a delay slot the instruction at `npc` follows the one at `pc` (00_scope.md rule R14). -/
def State.sequential (s : State) : Bool := s.inDelaySlot || s.npc == s.pc + 4

/-- The invariant every step keeps: canonical memory, a store buffer below its size, reserved bits that read as
the spec says, and a sequential flow outside delay slots. -/
def State.invariant (s : State) : Bool :=
  Memory.wf s.mem && s.bufferBounded && s.cp0.reservedClear && s.fcsrClear && s.sequential

/-! ### What an instruction writes, and what it leaves unchanged -/

/-- Execution goes on at the next instruction (00_scope.md rule R14). -/
def State.wentOn (s t : State) : Prop := t.pc = s.npc ∧ t.npc = s.npc + 4 ∧ t.inDelaySlot = false

/-- Every byte of memory reads as before. -/
def State.sameBytes (s t : State) : Prop := ∀ a, readByte t.mem a = readByte s.mem a

/-- `t` is `s` but for what the flow of instructions changes. -/
def State.sameButFlow (s t : State) : Prop :=
  t = { s with pc := t.pc, npc := t.npc, inDelaySlot := t.inDelaySlot }

/-- Nothing changes: the machine goes on at the next instruction. -/
def State.onlyGoesOn (s t : State) : Prop := s.wentOn t ∧ s.sameBytes t ∧ s.sameButFlow t

/-- Every general register reads as before but `rd`, which reads `v`; register 0 reads 0
(10_state.md rule R31). -/
def State.gprsBut (s t : State) (rd : BitVec 5) (v : Dword) : Prop :=
  ∀ r, t.readGpr r = if r = rd ∧ rd ≠ 0 then v else s.readGpr r

/-- The instruction writes `v` to general register `rd` and goes on; nothing else changes. -/
def State.writesGpr (s t : State) (rd : BitVec 5) (v : Dword) : Prop :=
  s.wentOn t ∧ s.sameBytes t ∧ s.gprsBut t rd v ∧ State.sameButFlow { s with gpr := t.gpr } t

/-- Every floating-point register reads as before but `fd`, which reads `v`. -/
def State.fprsBut (s t : State) (fd : BitVec 5) (v : Dword) : Prop :=
  ∀ r, t.readFpr r = if r = fd then v else s.readFpr r

/-- The instruction writes `v` to floating-point register `fd` and goes on; nothing else changes. -/
def State.writesFpr (s t : State) (fd : BitVec 5) (v : Dword) : Prop :=
  s.wentOn t ∧ s.sameBytes t ∧ s.fprsBut t fd v ∧ State.sameButFlow { s with fpr := t.fpr } t

/-- The instruction writes `v` to floating-point register `fd` and `f` to FCSR; nothing else changes. -/
def State.writesFprFcsr (s t : State) (fd : BitVec 5) (v : Dword) (f : Word) : Prop :=
  s.wentOn t ∧ s.sameBytes t ∧ s.fprsBut t fd v ∧ t.fcsr = f ∧
    State.sameButFlow { s with fpr := t.fpr, fcsr := f } t

/-- The instruction writes `f` to FCSR and goes on; nothing else changes. -/
def State.writesFcsr (s t : State) (f : Word) : Prop :=
  s.wentOn t ∧ s.sameBytes t ∧ t.fcsr = f ∧ State.sameButFlow { s with fcsr := f } t

/-- The instruction writes HI and LO and goes on; nothing else changes. -/
def State.writesHiLo (s t : State) (h l : Dword) : Prop :=
  s.wentOn t ∧ s.sameBytes t ∧ t.hi = h ∧ t.lo = l ∧ State.sameButFlow { s with hi := h, lo := l } t

/-- The instruction replaces the CP0 registers and goes on; nothing else changes. -/
def State.writesCp0 (s t : State) (c : Cp0) : Prop :=
  s.wentOn t ∧ s.sameBytes t ∧ t.cp0 = c ∧ State.sameButFlow { s with cp0 := c } t

/-- The instruction replaces the x86-translation state and goes on; nothing else changes. -/
def State.writesX86 (s t : State) (x : X86) : Prop :=
  s.wentOn t ∧ s.sameBytes t ∧ t.x86 = x ∧ State.sameButFlow { s with x86 := x } t

/-- What byte `a` reads after the stores of a list have reached memory, the first one first: a store gives the
byte it covers, every other byte stays. -/
def byteAfter (m : List Host.Cell) (l : List BufferedStore) (a : Nat) : Byte :=
  l.foldl (fun (v : Byte) (b : BufferedStore) =>
    if b.addr ≤ a ∧ a < b.addr + b.size then (b.value >>> (8 * (a - b.addr))).setWidth 8 else v) (readByte m a)

/-- What a load of this core sees at address `a`: the latest store, one that still waits in the buffer among them
(20_memory.md rules R230, R231). -/
def State.byteSeen (s : State) (a : Nat) : Byte := byteAfter s.mem s.accel a

/-- `n` bytes from `a` up joined, the first one lowest (20_memory.md rule R182). -/
def bytesLE (f : Nat → Byte) (a n : Nat) : Dword :=
  match n with
  | 0 => 0
  | k + 1 => (bytesLE f (a + 1) k <<< 8) ||| (f a).setWidth 64

/-- What a load of this core of `n` bytes from `a` up sees. -/
def State.seenLE (s : State) (a n : Nat) : Dword := bytesLE s.byteSeen a n

/-- The stores that a store of attribute `cca` brings to memory, in order, and those that wait after it, from
the buffer before (20_memory.md rules R223 to R225, R231, R232): attribute 7 waits until the buffer holds 32
bytes, attribute 2 follows the buffer, attribute 3 passes it by unless it shares a byte with it. -/
def arrivals (accel : List BufferedStore) (cca : BitVec 3) (b : BufferedStore) :
    List BufferedStore × List BufferedStore :=
  if cca = 7 then
    if bufferedBytes accel + b.size < 32 then ([], accel ++ [b]) else (accel ++ [b], [])
  else if cca = 2 ∨ accel.any (fun c => c.overlaps b) then (accel ++ [b], [])
  else ([b], accel)

/-- Memory and the buffer of `t` are those of `s` after the given arrivals. -/
def State.received (s t : State) (w : List BufferedStore × List BufferedStore) : Prop :=
  (∀ a, readByte t.mem a = byteAfter s.mem w.1 a) ∧ t.accel = w.2

/-- The instruction stores the low `n` bytes of `v` from the physical address of `g` up and goes on; every other
byte, every register and the TLB are unchanged. `stale` is the model's own record for later fetches. -/
def State.storesTo (s t : State) (g : Target) (n : Nat) (v : Dword) : Prop :=
  s.wentOn t ∧ s.received t (arrivals s.accel g.cca ⟨g.pa.toNat, n, v⟩) ∧
    State.sameButFlow { s with mem := t.mem, stale := t.stale, accel := t.accel } t

/-- A transfer of control: the delay slot at `npc` comes first, then `target`; no register but `rd` and no
byte of memory changes. `afterJump` is the model's own record for later fetches. -/
def State.transfers (s t : State) (target : Dword) : Prop :=
  t.pc = s.npc ∧ t.npc = target ∧ t.inDelaySlot = true ∧ s.sameBytes t ∧
    State.sameButFlow { s with gpr := t.gpr, afterJump := t.afterJump } t

/-- No general register changes. -/
def State.sameGprs (s t : State) : Prop := ∀ r, t.readGpr r = s.readGpr r

end Sys2Proof.Machine
end

