-- ==== Sys2Proof/WellFormed.lean ====
section
/-!
DEFINITION. Well-formed instructions: those that a word can hold. Three groups of the opcode table have no
known encoding (30_encoding.md rule R280), so no word decodes to them; three words of SLL have names of their own
(rule R286). Every operand field is as wide as its place in the word, so nothing else is to be checked (rule
R261).
-/
namespace Sys2Proof

/-- The x86-translation group (47_custom_int.md rules R640 to R684). -/
def Instr.isX86 : Instr → Bool
  | .x86and => true
  | .x86or => true
  | .x86xor => true
  | .x86dadd => true
  | .x86add => true
  | .x86daddu => true
  | .x86addu => true
  | .x86dsub => true
  | .x86sub => true
  | .x86dsubu => true
  | .x86subu => true
  | .x86inc => true
  | .x86dec => true
  | .x86dsll => true
  | .x86sll => true
  | .x86dsll32 => true
  | .x86dsllv => true
  | .x86sllv => true
  | .x86dsrl => true
  | .x86srl => true
  | .x86dsrl32 => true
  | .x86dsrlv => true
  | .x86srlv => true
  | .x86dsra => true
  | .x86sra => true
  | .x86dsra32 => true
  | .x86dsrav => true
  | .x86srav => true
  | .x86drotr => true
  | .x86rotr => true
  | .x86drotr32 => true
  | .x86drotrv => true
  | .x86rotrv => true
  | .x86mfflag _ => true
  | .x86mtflag => true
  | .x86j => true
  | .x86loop => true
  | .settm => true
  | .clrtm => true
  | .inctop => true
  | .dectop => true
  | .mttop => true
  | .mftop _ => true
  | .settag => true
  | _ => false

/-- The lookup-table group (47_custom_int.md rule R690). -/
def Instr.isCam : Instr → Bool
  | .campv => true
  | .campi => true
  | .camwi => true
  | .ramri => true
  | _ => false

/-- The extended-double conversions (49_fpu.md rules R880 to R882). -/
def Instr.isExtendedDouble : Instr → Bool
  | .cvtDLd => true
  | .cvtLdD => true
  | .cvtUdD => true
  | _ => false

/-- The words of SLL that are spelled NOP, SSNOP, EHB (30_encoding.md rule R286). -/
def Instr.isNopShift : Instr → Bool
  | .sll rt rd sa => rt == 0 && rd == 0 && (sa == 0 || sa == 1 || sa == 3)
  | _ => false

/-- The instruction has an encoding, under this name. -/
def Instr.wellFormed (i : Instr) : Bool := !i.isX86 && !i.isCam && !i.isExtendedDouble && !i.isNopShift

end Sys2Proof
end

