-- ==== Sys2Proof/Certificates/Slice0/Obligations.lean ====
section
/-!
DEFINITION. The statements for the provers: what the rules of spec/ say the machine does, over every state and
operand. The auxiliary definitions before each statement spell its terms out from the rules.
-/
open Sys2Proof Sys2Proof.Machine

noncomputable section

namespace Sys2Proof.Claims
/-- An instruction that names three registers. -/
abbrev Reg3 := BitVec 5 → BitVec 5 → BitVec 5 → Instr
/-- An instruction that names two registers. -/
abbrev Reg2 := BitVec 5 → BitVec 5 → Instr
/-- An instruction that names two registers and a 16-bit immediate. -/
abbrev RegImm := BitVec 5 → BitVec 5 → BitVec 16 → Instr

/-- The register holds a sign-extended word. -/
def IsWord (a : Dword) : Prop := a = (a.setWidth 32).signExtend 64

/-- The instruction ends by taking exception `e`. -/
def Takes (i : Instr) (s : State) (e : Exc) : Prop := exec i s = .next (s.takeException e)

/-- The instruction completes, writing `v` to general register `rd` and nothing else. -/
def PutsGpr (i : Instr) (s : State) (rd : BitVec 5) (v : Dword) : Prop :=
  ∃ t, exec i s = .next t ∧ s.writesGpr t rd v

/-- The instruction completes from `s`; against `u`, which differs from `s` as said where this is used, it
writes `v` to general register `rd` and nothing else. -/
def PutsGprFrom (i : Instr) (s u : State) (rd : BitVec 5) (v : Dword) : Prop :=
  ∃ t, exec i s = .next t ∧ u.writesGpr t rd v

/-- The instruction completes and changes nothing but the flow. -/
def JustGoesOn (i : Instr) (s : State) : Prop := ∃ t, exec i s = .next t ∧ s.onlyGoesOn t

/-! Where an access goes: the host's map and the colours of cached pages (20_memory.md rules R200, R221). -/

/-- Every byte of `n` from `a` is RAM or ROM in the host's map. -/
def InMemory (s : State) (a n : Nat) : Prop :=
  ∀ k, k < n → s.physAt (a + k) = some .ram ∨ s.physAt (a + k) = some .rom
/-- Every byte of `n` from `a` is RAM in the host's map. -/
def InRam (s : State) (a n : Nat) : Prop := ∀ k, k < n → s.physAt (a + k) = some .ram
/-- The bus answers ERR at one of `n` bytes from `a`. -/
def AnswersErr (s : State) (a n : Nat) : Prop := ∃ k, k < n ∧ s.physAt (a + k) = some .err

/-- The address translates, and a cached page has not been used with other bits 13:12 (log 46). -/
def Reaches (s : State) (va : Dword) (kind : AccessKind) (g : Target) : Prop :=
  s.translate va kind = .ok g ∧
  (g.cca = 3 → ∀ c ∈ s.coloured, c.page = g.pa.extractLsb' 12 36 → c.colour = va.extractLsb' 12 2)

/-- `s` after an access: the colour of a cached page that had none is remembered (log 46). -/
def Remembered (s : State) (va : Dword) (g : Target) : State :=
  if g.cca = 3 ∧ ∀ c ∈ s.coloured, c.page ≠ g.pa.extractLsb' 12 36 then
    { s with coloured := ⟨g.pa.extractLsb' 12 36, va.extractLsb' 12 2⟩ :: s.coloured }
  else s

end Sys2Proof.Claims

open Sys2Proof.Claims

namespace Sys2Proof.Claims

/-- SLT to NOR with their results (41_alu.md rules R360 to R365). -/
def logicOps : List (Reg3 × (Dword → Dword → Dword)) :=
  [(.slt, fun a b => if a.toInt < b.toInt then 1 else 0),
   (.sltu, fun a b => if a.toNat < b.toNat then 1 else 0),
   (.and, fun a b => a &&& b), (.or, fun a b => a ||| b), (.xor, fun a b => a ^^^ b),
   (.nor, fun a b => ~~~(a ||| b))]

/-- SLTI to XORI with their results (41_alu.md rules R346 to R350). -/
def logicImmOps : List (RegImm × (Dword → BitVec 16 → Dword)) :=
  [(.slti, fun a k => if a.toInt < k.toInt then 1 else 0),
   (.sltiu, fun a k => if a.toNat < (k.signExtend 64).toNat then 1 else 0),
   (.andi, fun a k => a &&& k.setWidth 64), (.ori, fun a k => a ||| k.setWidth 64),
   (.xori, fun a k => a ^^^ k.setWidth 64)]

end Sys2Proof.Claims

/-- For every state, SLT, SLTU, AND, OR, XOR, NOR, SLTI, SLTIU, ANDI, ORI, XORI and LUI answer a next state in
which the destination register holds the value the rule gives (register 0 keeps reading 0), every other
general register and every byte of memory reads as before, and no other field but the pc changes. (R346;
R347; R348; R349; R350; R351; R360; R361; R362; R363; R364; R365). -/
def Obligations.LogicAndCompareWriteTheirResults : Prop :=
  ∀ s : State,
    (∀ p ∈ logicOps, ∀ rs rt rd, PutsGpr (p.1 rs rt rd) s rd (p.2 (s.readGpr rs) (s.readGpr rt))) ∧
    (∀ p ∈ logicImmOps, ∀ rs rt imm, PutsGpr (p.1 rs rt imm) s rt (p.2 (s.readGpr rs) imm)) ∧
    (∀ rt imm, PutsGpr (.lui rt imm) s rt ((imm ++ 0#16 : BitVec 32).signExtend 64))

namespace Sys2Proof.Claims

/-- Three-register word operations with their results (41_alu.md, 47_custom_int.md). -/
def wordOps : List (Reg3 × (Word → Word → Word)) :=
  [(.addu, fun a b => a + b), (.subu, fun a b => a - b),
   (.gsmult, fun a b => BitVec.ofInt 32 (a.toInt * b.toInt)),
   (.gsmultu, fun a b => BitVec.ofNat 32 (a.toNat * b.toNat))]

end Sys2Proof.Claims

/-- For every state these five complete, write one general register and change nothing else; when the source
registers hold sign-extended words the value is the 32-bit sum, difference or product, sign-extended. For
other sources the value is left open (the model runs where the spec refuses, log 5: DESIGN CHOICE). What a
log entry is cited for is the choice of the model. (41_alu.md rules R344, R354, R358; 47_custom_int.md rules
R580, R582; 92_eei_decisions.md D30). -/
def Obligations.WordArithmeticSignExtendsItsResult : Prop :=
  ∀ s : State,
    (∀ p ∈ wordOps, ∀ rs rt rd, ∃ v, PutsGpr (p.1 rs rt rd) s rd v ∧
      (IsWord (s.readGpr rs) → IsWord (s.readGpr rt) →
        v = (p.2 ((s.readGpr rs).setWidth 32) ((s.readGpr rt).setWidth 32)).signExtend 64)) ∧
    (∀ rs rt imm, ∃ v, PutsGpr (.addiu rs rt imm) s rt v ∧
      (IsWord (s.readGpr rs) →
        v = ((s.readGpr rs + imm.signExtend 64).setWidth 32).signExtend 64))

namespace Sys2Proof.Claims

/-- Three-register doubleword operations with their results (41_alu.md, 47_custom_int.md). -/
def dwordOps : List (Reg3 × (Dword → Dword → Dword)) :=
  [(.daddu, fun a b => a + b), (.dsubu, fun a b => a - b),
   (.gsdmult, fun a b => BitVec.ofInt 64 (a.toInt * b.toInt)),
   (.gsdmultu, fun a b => BitVec.ofNat 64 (a.toNat * b.toNat))]

end Sys2Proof.Claims

/-- DADDU, DSUBU, DADDIU, GSDMULT, GSDMULTU write the 64-bit result and change nothing else where 64-bit
operations are enabled; otherwise they take the Reserved Instruction exception. That GSDMULT and GSDMULTU
take it is the model's choice (log 69): R592 infers it from general knowledge and lets a model refuse. What
a log entry is cited for is the choice of the model. (41_alu.md rules R345, R355, R359; 47_custom_int.md
rules R581, R583, R592; 60_exceptions.md rule R934; notes/assumptions/69.md). -/
def Obligations.DoublewordArithmeticNeedsSixtyFourBits : Prop :=
  ∀ s : State,
    (∀ p ∈ dwordOps, ∀ rs rt rd,
      (s.are64 = true → PutsGpr (p.1 rs rt rd) s rd (p.2 (s.readGpr rs) (s.readGpr rt))) ∧
      (s.are64 = false → Takes (p.1 rs rt rd) s .ri)) ∧
    (∀ rs rt imm,
      (s.are64 = true → PutsGpr (.daddiu rs rt imm) s rt (s.readGpr rs + imm.signExtend 64)) ∧
      (s.are64 = false → Takes (.daddiu rs rt imm) s .ri))

namespace Sys2Proof.Claims

/-- The word sums that trap (41_alu.md rules R352, R356). -/
def trapWordOps : List (Reg3 × (Int → Int → Int)) := [(.add, fun a b => a + b), (.sub, fun a b => a - b)]
/-- The doubleword sums that trap (41_alu.md rules R353, R357). -/
def trapDwordOps : List (Reg3 × (Int → Int → Int)) := [(.dadd, fun a b => a + b), (.dsub, fun a b => a - b)]

/-- The exact result fits in `w` bits of two's complement. -/
def Fits (w : Nat) (r : Int) : Prop := -(2 ^ (w - 1) : Int) ≤ r ∧ r < (2 ^ (w - 1) : Int)

/-- The exact result `r` is written, or Integer Overflow is taken and no general register changes. -/
def ExactOrOverflow (w : Nat) (i : Instr) (s : State) (rd : BitVec 5) (r : Int) : Prop :=
  (Fits w r → PutsGpr i s rd (BitVec.ofInt 64 r)) ∧
  (¬ Fits w r → Takes i s .ov ∧ s.sameGprs (s.takeException .ov) ∧
    (s.takeException .ov).cp0.cause.extractLsb' 2 5 = 12#5 ∧
    (s.takeException .ov).pc = s.vectorBase + 0x180)

end Sys2Proof.Claims

/-- With sign-extended word operands (ADD, ADDI, SUB: the premise of R340) or 64-bit operations enabled (DADD,
DADDI, DSUB): when the exact sum or difference fits the width, the instruction writes it and changes nothing
else; when it does not fit, the instruction takes the Integer Overflow exception at the general vector, and
no general register changes. With 64-bit operations off DADD, DADDI and DSUB take the Reserved Instruction
exception (R934, from general knowledge). (41_alu.md rules R340, R342, R343, R352, R353, R356, R357;
60_exceptions.md rules R934, R936, R946). -/
def Obligations.OverflowTrapsAndLeavesTheDestination : Prop :=
  ∀ s : State,
    (∀ p ∈ trapWordOps, ∀ rs rt rd, IsWord (s.readGpr rs) → IsWord (s.readGpr rt) →
      ExactOrOverflow 32 (p.1 rs rt rd) s rd (p.2 (s.readGpr rs).toInt (s.readGpr rt).toInt)) ∧
    (∀ rs rt imm, IsWord (s.readGpr rs) →
      ExactOrOverflow 32 (.addi rs rt imm) s rt ((s.readGpr rs).toInt + imm.toInt)) ∧
    (∀ p ∈ trapDwordOps, ∀ rs rt rd,
      (s.are64 = true →
        ExactOrOverflow 64 (p.1 rs rt rd) s rd (p.2 (s.readGpr rs).toInt (s.readGpr rt).toInt)) ∧
      (s.are64 = false → Takes (p.1 rs rt rd) s .ri)) ∧
    (∀ rs rt imm,
      (s.are64 = true → ExactOrOverflow 64 (.daddi rs rt imm) s rt ((s.readGpr rs).toInt + imm.toInt)) ∧
      (s.are64 = false → Takes (.daddi rs rt imm) s .ri))

namespace Sys2Proof.Claims

/-- `n` is the number of leading bits equal to `b` among the low `w` bits of `v`. -/
def IsLeadingCount (w : Nat) (b : Bool) (v : Dword) (n : Nat) : Prop :=
  n ≤ w ∧ (∀ i, w - n ≤ i → i < w → v.getLsbD i = b) ∧ (n < w → v.getLsbD (w - 1 - n) = !b)

/-- The counts of a word: constructor and counted bit (41_alu.md rules R366, R368). -/
def wordCounts : List (Reg3 × Bool) := [(.clo, true), (.clz, false)]
/-- The counts of a doubleword (41_alu.md rules R367, R369). -/
def dwordCounts : List (Reg3 × Bool) := [(.dclo, true), (.dclz, false)]

end Sys2Proof.Claims

/-- With the rt field equal to rd, and a sign-extended word (CLO, CLZ) or 64-bit operations enabled (DCLO,
DCLZ): the register written holds n, at most the width, such that the n highest bits of the operand have the
counted value and, if n is below the width, the next bit has the other value. Nothing else changes. With
another rt field or operand the count is open (log 6: DESIGN CHOICE) and the instruction still completes.
What a log entry is cited for is the choice of the model. (41_alu.md rules R366 to R369; 92_eei_decisions.md
D30). -/
def Obligations.LeadingBitCountsAreExact : Prop :=
  ∀ s : State,
    (∀ p ∈ wordCounts, ∀ rs rt rd, ∃ v, PutsGpr (p.1 rs rt rd) s rd v ∧
      (rt = rd → IsWord (s.readGpr rs) → IsLeadingCount 32 p.2 (s.readGpr rs) v.toNat)) ∧
    (∀ p ∈ dwordCounts, ∀ rs rt rd,
      (s.are64 = true → ∃ v, PutsGpr (p.1 rs rt rd) s rd v ∧
        (rt = rd → IsLeadingCount 64 p.2 (s.readGpr rs) v.toNat)) ∧
      (s.are64 = false → Takes (p.1 rs rt rd) s .ri))

namespace Sys2Proof.Claims

/-- The instruction completes, writing one general register, and the value has the property. -/
def PutsGprWith (i : Instr) (s : State) (rd : BitVec 5) (good : Dword → Prop) : Prop :=
  ∃ v, PutsGpr i s rd v ∧ good v

end Sys2Proof.Claims

/-- SEB and SEH write the sign-extended low byte or halfword. With 64-bit operations enabled DSHD writes the
four halfwords in reverse order and DSBH swaps the bytes in each halfword, byte for byte; otherwise they
take Reserved Instruction. WSBH completes, and on a sign-extended word swaps the bytes of its two halfwords;
that it completes on other operands, with an open value, is the choice of log 5 where R370 leaves it to a
refusal. Nothing else changes. What a log entry is cited for is the choice of the model. (41_alu.md rules
R370 to R374; notes/assumptions/5.md). -/
def Obligations.ByteAndHalfwordRearrangements : Prop :=
  ∀ (s : State) (rt rd : BitVec 5),
    let x := s.readGpr rt
    PutsGpr (.seb rt rd) s rd ((x.setWidth 8).signExtend 64) ∧
    PutsGpr (.seh rt rd) s rd ((x.setWidth 16).signExtend 64) ∧
    (s.are64 = true →
      PutsGprWith (.dshd rt rd) s rd
        (fun v => ∀ i, i < 4 → v.extractLsb' (16 * i) 16 = x.extractLsb' (16 * (3 - i)) 16) ∧
      PutsGprWith (.dsbh rt rd) s rd
        (fun v => ∀ i, i < 4 → v.extractLsb' (16 * i) 8 = x.extractLsb' (16 * i + 8) 8 ∧
          v.extractLsb' (16 * i + 8) 8 = x.extractLsb' (16 * i) 8)) ∧
    (s.are64 = false → Takes (.dshd rt rd) s .ri ∧ Takes (.dsbh rt rd) s .ri) ∧
    PutsGprWith (.wsbh rt rd) s rd
      (fun v => IsWord x → IsWord v ∧ ∀ i, i < 2 →
        v.extractLsb' (16 * i) 8 = x.extractLsb' (16 * i + 8) 8 ∧
        v.extractLsb' (16 * i + 8) 8 = x.extractLsb' (16 * i) 8)

namespace Sys2Proof.Claims

/-- The word shifts by an immediate amount (43_shift.md rules R431, R432, R436). -/
def wordShifts : List (Reg3 × Reg3 × (Word → Nat → Word)) :=
  [(.srl, .srlv, fun a n => a >>> n), (.sra, .srav, fun a n => a.sshiftRight n),
   (.rotr, .rotrv, fun a n => a.rotateRight n)]

end Sys2Proof.Claims

/-- For every state the eight word shifts complete, write one general register and change nothing else. SLL and
SLLV read only the low word; the others give the stated value when the operand is a sign-extended word (log
5 for other operands). The variable forms take the amount from bits 4:0 of rs. What a log entry is cited for
is the choice of the model. (43_shift.md rules R430 to R437, R458). -/
def Obligations.WordShiftsSignExtend : Prop :=
  ∀ s : State,
    (∀ rt rd sa, PutsGpr (.sll rt rd sa) s rd
      ((((s.readGpr rt).setWidth 32 <<< sa.toNat : Word)).signExtend 64)) ∧
    (∀ rs rt rd, PutsGpr (.sllv rs rt rd) s rd
      ((((s.readGpr rt).setWidth 32 <<< ((s.readGpr rs).toNat % 32) : Word)).signExtend 64)) ∧
    (∀ p ∈ wordShifts, ∀ rt rd sa, ∃ v, PutsGpr (p.1 rt rd sa) s rd v ∧
      (IsWord (s.readGpr rt) → v = (p.2.2 ((s.readGpr rt).setWidth 32) sa.toNat).signExtend 64)) ∧
    (∀ p ∈ wordShifts, ∀ rs rt rd, ∃ v, PutsGpr (p.2.1 rs rt rd) s rd v ∧
      (IsWord (s.readGpr rt) →
        v = (p.2.2 ((s.readGpr rt).setWidth 32) ((s.readGpr rs).toNat % 32)).signExtend 64))

namespace Sys2Proof.Claims

/-- The doubleword shifts: by sa, by sa + 32, by a register (43_shift.md rules R438 to R449). -/
def dwordShifts : List (Reg3 × Reg3 × Reg3 × (Dword → Nat → Dword)) :=
  [(.dsll, .dsll32, .dsllv, fun a n => a <<< n), (.dsrl, .dsrl32, .dsrlv, fun a n => a >>> n),
   (.dsra, .dsra32, .dsrav, fun a n => a.sshiftRight n),
   (.drotr, .drotr32, .drotrv, fun a n => a.rotateRight n)]

end Sys2Proof.Claims

/-- With 64-bit operations enabled the twelve doubleword shifts write the shifted or rotated 64-bit value and
change nothing else: by sa, by sa + 32, or by bits 5:0 of rs (R458, from general knowledge). Otherwise they
take the Reserved Instruction exception, which the rule of each names: that it is taken exactly then is R458
and R934, both from general knowledge (log 69). What a log entry is cited for is the choice of the model.
(43_shift.md rules R438 to R449, R458; 60_exceptions.md rule R934; notes/assumptions/69.md). -/
def Obligations.DoublewordShiftsMoveAllSixtyFourBits : Prop :=
  ∀ s : State, ∀ p ∈ dwordShifts, ∀ x y rd : BitVec 5,
    (s.are64 = true →
      PutsGpr (p.1 x rd y) s rd (p.2.2.2 (s.readGpr x) y.toNat) ∧
      PutsGpr (p.2.1 x rd y) s rd (p.2.2.2 (s.readGpr x) (y.toNat + 32)) ∧
      PutsGpr (p.2.2.1 y x rd) s rd (p.2.2.2 (s.readGpr x) ((s.readGpr y).toNat % 64))) ∧
    (s.are64 = false → Takes (p.1 x rd y) s .ri ∧ Takes (p.2.1 x rd y) s .ri ∧
      Takes (p.2.2.1 y x rd) s .ri)

namespace Sys2Proof.Claims

/-- An instruction with two registers and the two fields msb, lsb. -/
abbrev FieldInstr := BitVec 5 → BitVec 5 → BitVec 5 → BitVec 5 → Instr

/-- The doubleword extracts: position and size from (msb, lsb) (43_shift.md rules R451 to R453). -/
def extracts : List (FieldInstr × (Nat → Nat → Nat × Nat)) :=
  [(.dext, fun m l => (l, m + 1)), (.dextm, fun m l => (l, m + 33)), (.dextu, fun m l => (l + 32, m + 1))]
/-- The doubleword inserts: position and top bit from (msb, lsb) (43_shift.md rules R455 to R457). -/
def inserts : List (FieldInstr × (Nat → Nat → Nat × Nat)) :=
  [(.dins, fun m l => (l, m)), (.dinsm, fun m l => (l, m + 32)), (.dinsu, fun m l => (l + 32, m + 32))]

/-- Bits below `n` of `v` are those of `a` from `pos`, cut at `size`. -/
def ExtractedBits (n : Nat) (v a : Dword) (pos size : Nat) : Prop :=
  ∀ i, i < n → v.getLsbD i = (decide (i < size) && a.getLsbD (pos + i))
/-- Bits below `n` of `v` are those of `a` in the field from `pos` to `top` and those of `old` outside. -/
def InsertedBits (n : Nat) (v a old : Dword) (pos top : Nat) : Prop :=
  ∀ i, i < n → v.getLsbD i = if pos ≤ i ∧ i ≤ top then a.getLsbD (i - pos) else old.getLsbD i

end Sys2Proof.Claims

/-- The eight bit-field instructions complete and write one general register, nothing else. For a legal field,
bit i of an extract is bit pos + i of rs below the size and 0 above; bit i of an insert is bit i - pos of rs
inside the field and the old bit outside. The word forms (sign-extended word operands) give a sign-extended
word; that they complete on other operands, with an open value, is the choice of log 5 where R450 and R454
leave it to a refusal. Illegal fields leave the value open (log 6: DESIGN CHOICE). The doubleword forms take
Reserved Instruction when 64-bit operations are off. What a log entry is cited for is the choice of the
model. (43_shift.md rules R450 to R457, R459; notes/assumptions/5.md; notes/assumptions/6.md). -/
def Obligations.BitFieldsMoveBitByBit : Prop :=
  ∀ (s : State) (rs rt msb lsb : BitVec 5),
    let a := s.readGpr rs
    let old := s.readGpr rt
    PutsGprWith (.ext rs rt msb lsb) s rt (fun v => lsb.toNat + msb.toNat ≤ 31 → IsWord a →
      IsWord v ∧ ExtractedBits 32 v a lsb.toNat (msb.toNat + 1)) ∧
    PutsGprWith (.ins rs rt msb lsb) s rt (fun v => lsb.toNat ≤ msb.toNat → IsWord a → IsWord old →
      IsWord v ∧ InsertedBits 32 v a old lsb.toNat msb.toNat) ∧
    (∀ p ∈ extracts, let f := p.2 msb.toNat lsb.toNat
      (s.are64 = true → PutsGprWith (p.1 rs rt msb lsb) s rt (fun v => f.1 + f.2 ≤ 64 →
        ExtractedBits 64 v a f.1 f.2)) ∧
      (s.are64 = false → Takes (p.1 rs rt msb lsb) s .ri)) ∧
    (∀ p ∈ inserts, let f := p.2 msb.toNat lsb.toNat
      (s.are64 = true → PutsGprWith (p.1 rs rt msb lsb) s rt (fun v => f.1 ≤ f.2 →
        InsertedBits 64 v a old f.1 f.2)) ∧
      (s.are64 = false → Takes (p.1 rs rt msb lsb) s .ri))

namespace Sys2Proof.Claims

/-- The instruction completes, writing only HI and LO, and the two values have the property. -/
def PutsHiLoWith (i : Instr) (s : State) (good : Dword → Dword → Prop) : Prop :=
  ∃ t h l, exec i s = .next t ∧ s.writesHiLo t h l ∧ good h l

/-- The word products with the new HI[31:0] || LO[31:0] from the old one (42_muldiv.md rules R404, R406, R408
to R411). -/
def products : List (Reg2 × (Dword → Word → Word → Dword)) :=
  [(.mult, fun _ a b => BitVec.ofInt 64 (a.toInt * b.toInt)),
   (.multu, fun _ a b => BitVec.ofNat 64 (a.toNat * b.toNat)),
   (.madd, fun acc a b => acc + BitVec.ofInt 64 (a.toInt * b.toInt)),
   (.maddu, fun acc a b => acc + BitVec.ofNat 64 (a.toNat * b.toNat)),
   (.msub, fun acc a b => acc - BitVec.ofInt 64 (a.toInt * b.toInt)),
   (.msubu, fun acc a b => acc - BitVec.ofNat 64 (a.toNat * b.toNat))]

/-- The low words of two registers side by side. -/
def wordPair (h l : Dword) : Dword := (h.setWidth 32 ++ l.setWidth 32 : BitVec 64)

end Sys2Proof.Claims

/-- The six word forms complete and write only HI and LO; for sign-extended word operands HI[31:0] || LO[31:0]
is the product, or the old pair plus or minus it, modulo 2^64, each half sign-extended; that they complete
on other operands, with open values, is the choice of log 5. With 64-bit operations enabled DMULT and DMULTU
write the 128-bit product; otherwise they take Reserved Instruction. What a log entry is cited for is the
choice of the model. (42_muldiv.md rules R404 to R411; notes/assumptions/5.md). -/
def Obligations.MultiplyFillsHiAndLo : Prop :=
  ∀ (s : State) (rs rt : BitVec 5),
    let a := s.readGpr rs
    let b := s.readGpr rt
    (∀ p ∈ products, PutsHiLoWith (p.1 rs rt) s (fun h l => IsWord a → IsWord b →
      IsWord h ∧ IsWord l ∧ wordPair h l = p.2 (wordPair s.hi s.lo) (a.setWidth 32) (b.setWidth 32))) ∧
    (s.are64 = true →
      PutsHiLoWith (.dmult rs rt) s (fun h l => (h ++ l : BitVec 128) = BitVec.ofInt 128 (a.toInt * b.toInt)) ∧
      PutsHiLoWith (.dmultu rs rt) s (fun h l => (h ++ l : BitVec 128).toNat = a.toNat * b.toNat)) ∧
    (s.are64 = false → Takes (.dmult rs rt) s .ri ∧ Takes (.dmultu rs rt) s .ri)

namespace Sys2Proof.Claims

/-- Quotient and remainder of a division that rounds toward zero. -/
def IsSignedDivision (a b q r : Int) : Prop :=
  a = q * b + r ∧ r.natAbs < b.natAbs ∧ (r = 0 ∨ (r < 0 ↔ a < 0))
/-- Quotient and remainder of natural numbers. -/
def IsUnsignedDivision (a b q r : Nat) : Prop := a = q * b + r ∧ r < b
/-- A signed division of `w` bits has a result. -/
def Divisible (w : Nat) (a b : Int) : Prop := b ≠ 0 ∧ ¬ (a = -(2 ^ (w - 1) : Int) ∧ b = -1)
/-- Signed forms: word, doubleword, result (47_custom_int.md rules R584, R585, R588, R589). -/
def signedDivs : List (Reg3 × Reg3 × (Int → Int → Int)) :=
  [(.gsdiv, .gsddiv, fun a b => a.tdiv b), (.gsmod, .gsdmod, fun a b => a.tmod b)]
/-- Unsigned forms (47_custom_int.md rules R586, R587, R590, R591). -/
def unsignedDivs : List (Reg3 × Reg3 × (Nat → Nat → Nat)) :=
  [(.gsdivu, .gsddivu, fun a b => a / b), (.gsmodu, .gsdmodu, fun a b => a % b)]

end Sys2Proof.Claims

/-- The four divisions complete and write only HI and LO. For a divisor that is not 0 (and, signed, not the case
of the most negative value divided by -1), and sign-extended words in the word forms: dividend = LO *
divisor + HI, |HI| < |divisor|, and HI is 0 or has the sign of the dividend; the unsigned forms likewise
with natural numbers. GSDIV, GSMOD and their unsigned and doubleword forms write the exact quotient (rounded
toward zero) or remainder to one general register under the same conditions and nothing else. Else the
values are open (logs 5, 7). The doubleword forms take Reserved Instruction when 64-bit operations are off
(GSDDIV to GSDMODU: the choice of log 69). What a log entry is cited for is the choice of the model.
(42_muldiv.md rules R402, R412 to R415; 47_custom_int.md rules R584 to R592). -/
def Obligations.DivisionGivesQuotientAndRemainder : Prop :=
  ∀ (s : State) (rs rt rd : BitVec 5),
    let a := s.readGpr rs
    let b := s.readGpr rt
    PutsHiLoWith (.div rs rt) s (fun h l => IsWord a → IsWord b → Divisible 32 a.toInt b.toInt →
      IsSignedDivision a.toInt b.toInt l.toInt h.toInt) ∧
    PutsHiLoWith (.divu rs rt) s (fun h l => IsWord a → IsWord b → b ≠ 0 → IsWord h ∧ IsWord l ∧
      IsUnsignedDivision (a.setWidth 32).toNat (b.setWidth 32).toNat (l.setWidth 32).toNat
        (h.setWidth 32).toNat) ∧
    (s.are64 = true →
      PutsHiLoWith (.ddiv rs rt) s (fun h l => Divisible 64 a.toInt b.toInt →
        IsSignedDivision a.toInt b.toInt l.toInt h.toInt) ∧
      PutsHiLoWith (.ddivu rs rt) s (fun h l => b ≠ 0 →
        IsUnsignedDivision a.toNat b.toNat l.toNat h.toNat)) ∧
    (s.are64 = false → Takes (.ddiv rs rt) s .ri ∧ Takes (.ddivu rs rt) s .ri) ∧
    (∀ p ∈ signedDivs,
      PutsGprWith (p.1 rs rt rd) s rd (fun v => IsWord a → IsWord b → Divisible 32 a.toInt b.toInt →
        v.toInt = p.2.2 a.toInt b.toInt) ∧
      (s.are64 = true → PutsGprWith (p.2.1 rs rt rd) s rd (fun v => Divisible 64 a.toInt b.toInt →
        v.toInt = p.2.2 a.toInt b.toInt)) ∧
      (s.are64 = false → Takes (p.2.1 rs rt rd) s .ri)) ∧
    (∀ p ∈ unsignedDivs,
      PutsGprWith (p.1 rs rt rd) s rd (fun v => IsWord a → IsWord b → b ≠ 0 → IsWord v ∧
        (v.setWidth 32).toNat = p.2.2 (a.setWidth 32).toNat (b.setWidth 32).toNat) ∧
      (s.are64 = true → PutsGprWith (p.2.1 rs rt rd) s rd (fun v => b ≠ 0 →
        v.toNat = p.2.2 a.toNat b.toNat)) ∧
      (s.are64 = false → Takes (p.2.1 rs rt rd) s .ri))

/-- MFHI and MFLO write HI or LO to the register; MTHI and MTLO write the register to HI or LO and keep the
other; nothing else changes. MUL completes: it writes rd, and for sign-extended words the low word of the
product sign-extended; HI and LO take open values (log 7), and that MUL completes on other operands, with an
open value, is the choice of log 5; no other register and no byte of memory changes. What a log entry is
cited for is the choice of the model. (42_muldiv.md rules R402, R403, R416 to R419; notes/assumptions/5.md;
notes/assumptions/7.md). -/
def Obligations.HiLoMovesAndMul : Prop :=
  ∀ (s : State) (rs rt rd : BitVec 5),
    PutsGpr (.mfhi rd) s rd s.hi ∧ PutsGpr (.mflo rd) s rd s.lo ∧
    (∃ t, exec (.mthi rs) s = .next t ∧ s.writesHiLo t (s.readGpr rs) s.lo) ∧
    (∃ t, exec (.mtlo rs) s = .next t ∧ s.writesHiLo t s.hi (s.readGpr rs)) ∧
    (∃ t v, exec (.mul rs rt rd) s = .next t ∧
      State.writesGpr { s with hi := t.hi, lo := t.lo } t rd v ∧
      (IsWord (s.readGpr rs) → IsWord (s.readGpr rt) →
        v = (BitVec.ofInt 32 ((s.readGpr rs).toInt * (s.readGpr rt).toInt)).signExtend 64))

namespace Sys2Proof.Claims

/-- The target of a branch: the delay slot's address plus the signed word offset (44_branch.md rule R461). -/
def branchGoal (s : State) (imm : BitVec 16) : Dword := s.pc + 4 + (imm ++ 0#2 : BitVec 18).signExtend 64

/-- The two-register branches with their likely forms and conditions (44_branch.md). -/
def branches2 : List (RegImm × RegImm × (Dword → Dword → Prop)) :=
  [(.beq, .beql, fun a b => a = b), (.bne, .bnel, fun a b => a ≠ b)]
/-- The one-register branches with their likely forms and conditions (44_branch.md). -/
def branches1 : List ((BitVec 5 → BitVec 16 → Instr) × (BitVec 5 → BitVec 16 → Instr) × (Dword → Prop)) :=
  [(.blez, .blezl, fun a => a.toInt ≤ 0), (.bgtz, .bgtzl, fun a => 0 < a.toInt),
   (.bltz, .bltzl, fun a => a.toInt < 0), (.bgez, .bgezl, fun a => 0 ≤ a.toInt)]
/-- The and-link branches with their likely forms and conditions (44_branch.md). -/
def linkBranches : List ((BitVec 5 → BitVec 16 → Instr) × (BitVec 5 → BitVec 16 → Instr) × (Dword → Prop)) :=
  [(.bltzal, .bltzall, fun a => a.toInt < 0), (.bgezal, .bgezall, fun a => 0 ≤ a.toInt)]

/-- The branch completes: taken to its target if `c`, else on to the instruction after the slot. -/
def Branches (i : Instr) (s : State) (imm : BitVec 16) (c : Prop) (regs : State → Prop) : Prop :=
  ∃ t, exec i s = .next t ∧ regs t ∧ (c → s.transfers t (branchGoal s imm)) ∧
    (¬ c → s.transfers t (s.npc + 4))

end Sys2Proof.Claims

/-- Outside a delay slot, each conditional branch answers a next state at its delay slot, with the stated target
next when the condition holds and the instruction after the slot otherwise; the target is the delay slot
address plus four times the signed offset. The and-link forms (rs not 31) write pc + 8 to register 31
whether or not taken; the others write no register. No byte of memory and no other state changes. The
targets and the link value are those of R461 (from general knowledge). (44_branch.md rules R460, R461, R468
to R475). -/
def Obligations.BranchesGoThroughTheDelaySlot : Prop :=
  ∀ s : State, s.inDelaySlot = false →
    (∀ p ∈ branches2, ∀ rs rt imm,
      Branches (p.1 rs rt imm) s imm (p.2.2 (s.readGpr rs) (s.readGpr rt)) s.sameGprs) ∧
    (∀ p ∈ branches1, ∀ rs imm, Branches (p.1 rs imm) s imm (p.2.2 (s.readGpr rs)) s.sameGprs) ∧
    (∀ p ∈ linkBranches, ∀ rs imm, rs ≠ 31 →
      Branches (p.1 rs imm) s imm (p.2.2 (s.readGpr rs)) (fun t => s.gprsBut t 31 (s.pc + 8)))

namespace Sys2Proof.Claims

/-- The likely branch completes: taken through the slot to its target if `c`, else past the slot. -/
def BranchesLikely (i : Instr) (s : State) (imm : BitVec 16) (c : Prop) (regs : State → Prop) : Prop :=
  ∃ t, exec i s = .next t ∧ regs t ∧ (c → s.transfers t (branchGoal s imm)) ∧
    (¬ c → t.pc = s.npc + 4 ∧ t.npc = s.npc + 8 ∧ t.inDelaySlot = false ∧ s.sameBytes t ∧
      State.sameButFlow { s with gpr := t.gpr } t)

end Sys2Proof.Claims

/-- Outside a delay slot, a likely branch whose condition holds goes through its delay slot to the target; one
whose condition fails skips the slot: the next instruction is the one after it, not in a delay slot. The
and-link forms (rs not 31) write pc + 8 to register 31 in both cases, the others no register; nothing else
changes. The targets and the link value are those of R461 (from general knowledge). (44_branch.md rules
R460, R461, R476 to R483). -/
def Obligations.LikelyBranchesNullifyTheSlotWhenNotTaken : Prop :=
  ∀ s : State, s.inDelaySlot = false →
    (∀ p ∈ branches2, ∀ rs rt imm,
      BranchesLikely (p.2.1 rs rt imm) s imm (p.2.2 (s.readGpr rs) (s.readGpr rt)) s.sameGprs) ∧
    (∀ p ∈ branches1, ∀ rs imm,
      BranchesLikely (p.2.1 rs imm) s imm (p.2.2 (s.readGpr rs)) s.sameGprs) ∧
    (∀ p ∈ linkBranches, ∀ rs imm, rs ≠ 31 →
      BranchesLikely (p.2.1 rs imm) s imm (p.2.2 (s.readGpr rs)) (fun t => s.gprsBut t 31 (s.pc + 8)))

namespace Sys2Proof.Claims

/-- The target of J and JAL (44_branch.md rule R461). -/
def regionGoal (s : State) (idx : BitVec 26) : Dword :=
  ((s.pc + 4).extractLsb' 28 36 ++ idx ++ 0#2 : BitVec 64)

/-- The jump completes at its target. -/
def Jumps (i : Instr) (s : State) (target : Dword) (regs : State → Prop) : Prop :=
  ∃ t, exec i s = .next t ∧ s.transfers t target ∧ regs t

end Sys2Proof.Claims

/-- Outside a delay slot, J and JAL go to the 256 MB region of the delay slot with the 26-bit index times four,
JR, JR.HB, JALR and JALR.HB to the register (read before the link is written); JAL writes pc + 8 to register
31, JALR and JALR.HB to rd (rd other than rs). No other register, no byte of memory and nothing else
changes. The targets and the link value are those of R461 (from general knowledge). (44_branch.md rules R460
to R467). -/
def Obligations.JumpsAndTheirLinks : Prop :=
  ∀ s : State, s.inDelaySlot = false →
    (∀ idx, Jumps (.j idx) s (regionGoal s idx) s.sameGprs ∧
      Jumps (.jal idx) s (regionGoal s idx) (fun t => s.gprsBut t 31 (s.pc + 8))) ∧
    (∀ rs, Jumps (.jr rs) s (s.readGpr rs) s.sameGprs ∧ Jumps (.jrHb rs) s (s.readGpr rs) s.sameGprs) ∧
    (∀ rs rd, rd ≠ rs →
      Jumps (.jalr rs rd) s (s.readGpr rs) (fun t => s.gprsBut t rd (s.pc + 8)) ∧
      Jumps (.jalrHb rs rd) s (s.readGpr rs) (fun t => s.gprsBut t rd (s.pc + 8)))

namespace Sys2Proof.Claims

/-- The instructions without a privilege check that may not stand in a delay slot. -/
def slotTransfers (rs rt : BitVec 5) (imm : BitVec 16) (idx : BitVec 26) : List Instr :=
  [.j idx, .jal idx, .jr rs, .jrHb rs] ++
    (branches2.map fun p => p.1 rs rt imm) ++ (branches2.map fun p => p.2.1 rs rt imm) ++
    (branches1.map fun p => p.1 rs imm) ++ (branches1.map fun p => p.2.1 rs imm)

end Sys2Proof.Claims

/-- The three cases the spec refuses (R486, D30) end in a fault of their own name: control transfer in a delay
slot (for ERET and WAIT with coprocessor 0 usable; that WAIT stops there, and is not the NOP of R519, is log
61), JALR and JALR.HB with rd = rs, and-link branches whose source is register 31. What a log entry is cited
for is the choice of the model. (44_branch.md rule R486; 45_cp0_priv.md rule R519; 92_eei_decisions.md D30;
notes/assumptions/61.md). -/
def Obligations.UnpredictableControlFlowStops : Prop :=
  ∀ (s : State) (rs rt rd : BitVec 5) (imm : BitVec 16) (idx : BitVec 26) (code : BitVec 19),
    (s.inDelaySlot = true →
      (∀ i ∈ slotTransfers rs rt imm idx, exec i s = .fault .controlInDelaySlot) ∧
      (s.copUsable 0 = true → exec .eret s = .fault .controlInDelaySlot ∧
        exec (.wait code) s = .fault .controlInDelaySlot) ∧
      (rd ≠ rs → exec (.jalr rs rd) s = .fault .controlInDelaySlot ∧
        exec (.jalrHb rs rd) s = .fault .controlInDelaySlot) ∧
      (rs ≠ 31 → ∀ p ∈ linkBranches, exec (p.1 rs imm) s = .fault .controlInDelaySlot ∧
        exec (p.2.1 rs imm) s = .fault .controlInDelaySlot)) ∧
    exec (.jalr rs rs) s = .fault .jalrSameRegister ∧ exec (.jalrHb rs rs) s = .fault .jalrSameRegister ∧
    (∀ p ∈ linkBranches, exec (p.1 31 imm) s = .fault .linkFromLinkRegister ∧
      exec (p.2.1 31 imm) s = .fault .linkFromLinkRegister)

namespace Sys2Proof.Claims

/-- Register and immediate forms with their condition (46_misc_trap_cmov.md rules R548 to R559). -/
def traps : List ((BitVec 5 → BitVec 5 → BitVec 10 → Instr) × (BitVec 5 → BitVec 16 → Instr) ×
    (Dword → Dword → Prop)) :=
  [(.tge, .tgei, fun a b => b.toInt ≤ a.toInt), (.tgeu, .tgeiu, fun a b => b.toNat ≤ a.toNat),
   (.tlt, .tlti, fun a b => a.toInt < b.toInt), (.tltu, .tltiu, fun a b => a.toNat < b.toNat),
   (.teq, .teqi, fun a b => a = b), (.tne, .tnei, fun a b => a ≠ b)]

/-- Trap if `c`, else go on. -/
def TrapsIff (i : Instr) (s : State) (c : Prop) : Prop := (c → Takes i s .tr) ∧ (¬ c → JustGoesOn i s)

end Sys2Proof.Claims

/-- TGE, TGEU, TLT, TLTU, TEQ, TNE and their immediate forms take the Trap exception when the comparison of all
64 bits holds, and otherwise complete, changing nothing but the flow. (R548; R549; R550; R551; R552; R553;
R554; R555; R556; R557; R558; R559). -/
def Obligations.ConditionalTraps : Prop :=
  ∀ s : State, ∀ p ∈ traps,
    (∀ rs rt code, TrapsIff (p.1 rs rt code) s (p.2.2 (s.readGpr rs) (s.readGpr rt))) ∧
    (∀ rs imm, TrapsIff (p.2.1 rs imm) s (p.2.2 (s.readGpr rs) (imm.signExtend 64)))

namespace Sys2Proof.Claims

/-- FCC[cc] (10_state.md rule R53). -/
def conditionCode (s : State) (cc : BitVec 3) : Bool :=
  s.fcsr.getLsbD (if cc = 0 then 23 else 24 + cc.toNat)

end Sys2Proof.Claims

/-- MOVN and MOVZ test all 64 bits of rt; MOVF and MOVT test FCC[cc] (bit 23 of FCSR for cc 0, bit 24 + cc for
the others) and take Coprocessor Unusable for unit 1 first. On the condition rd takes rs; otherwise rd keeps
its value. Nothing else changes. (R560; R561; R562; R563). -/
def Obligations.ConditionalMoves : Prop :=
  ∀ (s : State) (rs rt rd : BitVec 5) (cc : BitVec 3),
    PutsGpr (.movn rs rt rd) s rd (if s.readGpr rt ≠ 0 then s.readGpr rs else s.readGpr rd) ∧
    PutsGpr (.movz rs rt rd) s rd (if s.readGpr rt = 0 then s.readGpr rs else s.readGpr rd) ∧
    (s.cu 1 = true →
      PutsGpr (.movf rs cc rd) s rd (if conditionCode s cc = false then s.readGpr rs else s.readGpr rd) ∧
      PutsGpr (.movt rs cc rd) s rd (if conditionCode s cc = true then s.readGpr rs else s.readGpr rd)) ∧
    (s.cu 1 = false → Takes (.movf rs cc rd) s (.cpU 1) ∧ Takes (.movt rs cc rd) s (.cpU 1))

namespace Sys2Proof.Claims

/-- Entry at the general vector with the ExcCode, EPC and BD naming the instruction or the branch before it. -/
def EntersGeneral (s : State) (e : Exc) (code : BitVec 5) : Prop :=
  let t := s.takeException e
  t.cp0.cause.extractLsb' 2 5 = code ∧ t.pc = s.vectorBase + 0x180 ∧
  (s.exl = false → t.cp0.epc = (if s.inDelaySlot then s.pc - 4 else s.pc) ∧
    t.cp0.cause.getLsbD 31 = s.inDelaySlot)

end Sys2Proof.Claims

/-- For every state and code, SYSCALL answers the state after entry of the Sys exception (ExcCode 8) and BREAK
after entry of Bp (ExcCode 9): at the general vector, and where EXL was 0 with EPC the instruction, or the
branch before it with Cause.BD = 1 in a delay slot. (R541; R542). -/
def Obligations.SystemCallAndBreakpointTakeTheirException : Prop :=
  ∀ (s : State) (code : BitVec 20),
    Takes (.syscall code) s .sys ∧ Takes (.brk code) s .bp ∧
    EntersGeneral s .sys 8 ∧ EntersGeneral s .bp 9

namespace Sys2Proof.Claims

/-- The CACHE operations that fill no register (45_cp0_priv.md rule R512). -/
def quietCacheOps : List (BitVec 5) :=
  [0b00000, 0b01000, 0b11100, 0b00001, 0b01001, 0b10001, 0b10101, 0b11101, 0b00011, 0b01011, 0b10011, 0b11111]

end Sys2Proof.Claims

/-- NOP, SSNOP, EHB and PREF complete and change nothing but the flow. So do PREFX with coprocessor 1
usable, WAIT with coprocessor 0 usable outside a delay slot, SYNCI and the CACHE operations other than Index
Load Tag and Index Load Data where their address translates; that Index Invalidate of the I-cache, the Index
Stores and Hit Invalidate of the D-cache do nothing (CACHE_DESTRUCTIVE = nop, where the default is a
refusal) is log 12. That an Index operation (of these 0b00000, 0b01000, 0b11100, 0b00001, 0b01001, 0b11101,
0b00011, 0b01011, 0b11111) completes at a mapped address too, where R513 (U65) says that the model refuses
it, is log 22. SYNC with stype 0 where coprocessor 0 is usable does more than advance: it writes the
buffered stores of R225 to memory, in order, which is log 45, and changes nothing else but the model's own
record of overwritten words (log 17); a SYNC with another stype takes Reserved Instruction there. What a log
entry is cited for is the choice of the model. (46_misc_trap_cmov.md rules R540, R543 to R546;
40_loadstore.md rules R325, R326; 45_cp0_priv.md rules R511 to R514, R519; 20_memory.md rules R225, R237;
92_eei_decisions.md D32; 93_implementation_defined.md U65; notes/assumptions/12.md; notes/assumptions/17.md;
notes/assumptions/22.md; notes/assumptions/45.md). -/
def Obligations.HintsAndBarriersOnlyAdvance : Prop :=
  ∀ (s : State) (base index hint stype : BitVec 5) (imm : BitVec 16) (code : BitVec 19),
    JustGoesOn .nop s ∧ JustGoesOn .ssnop s ∧ JustGoesOn .ehb s ∧ JustGoesOn (.pref base hint imm) s ∧
    (s.cu 1 = true → JustGoesOn (.prefx base index hint) s) ∧
    (s.copUsable 0 = true → s.inDelaySlot = false → JustGoesOn (.wait code) s) ∧
    (∀ g, s.translate (s.readGpr base + imm.signExtend 64) .load = .ok g →
      JustGoesOn (.synci base imm) s ∧
      (s.copUsable 0 = true → ∀ op ∈ quietCacheOps, JustGoesOn (.cache base op imm) s)) ∧
    (s.copUsable 0 = true →
      (∃ t, exec (.sync 0) s = .next t ∧ s.wentOn t ∧ s.received t (s.accel, []) ∧
        State.sameButFlow { s with mem := t.mem, stale := t.stale, accel := t.accel } t) ∧
      (stype ≠ 0 → Takes (.sync stype) s .ri))

namespace Sys2Proof.Claims

/-- A load that can reach its bytes: translated, aligned, in memory (40_loadstore.md rule R300). -/
def Readable (s : State) (va : Dword) (n : Nat) (g : Target) : Prop :=
  Reaches s va .load g ∧ va.toNat % n = 0 ∧ InMemory s g.pa.toNat n

/-- A load: constructor, size, whether it needs 64-bit operations, extension. -/
structure LoadRow (F : Type) where
  instr : F
  size : Nat
  wide : Bool
  ext : Dword → Dword

/-- Sign extension of the low `w` bits. -/
def sx (w : Nat) (v : Dword) : Dword := (v.setWidth w).signExtend 64
/-- Zero extension of the low `w` bits. -/
def zx (w : Nat) (v : Dword) : Dword := (v.setWidth w).setWidth 64

/-- LB to LD (40_loadstore.md). -/
def loads : List (LoadRow RegImm) :=
  [⟨.lb, 1, false, sx 8⟩, ⟨.lbu, 1, false, zx 8⟩, ⟨.lh, 2, false, sx 16⟩, ⟨.lhu, 2, false, zx 16⟩,
   ⟨.lw, 4, false, sx 32⟩, ⟨.lwu, 4, true, zx 32⟩, ⟨.ld, 8, true, id⟩]

/-- The indexed loads (47_custom_int.md). -/
def indexedLoads : List (LoadRow (BitVec 5 → BitVec 5 → BitVec 5 → BitVec 8 → Instr)) :=
  [⟨.gslbx, 1, false, sx 8⟩, ⟨.gslhx, 2, false, sx 16⟩, ⟨.gslwx, 4, false, sx 32⟩, ⟨.gsldx, 8, true, id⟩]

/-- The loads with an upper bound, the check passing at or below it (47_custom_int.md). -/
def upperLoads : List (LoadRow Reg3) :=
  [⟨.gslble, 1, false, sx 8⟩, ⟨.gslhle, 2, false, sx 16⟩, ⟨.gslwle, 4, false, sx 32⟩, ⟨.gsldle, 8, true, id⟩]
/-- The loads with a lower bound, the check passing above it (47_custom_int.md). -/
def lowerLoads : List (LoadRow Reg3) :=
  [⟨.gslbgt, 1, false, sx 8⟩, ⟨.gslhgt, 2, false, sx 16⟩, ⟨.gslwgt, 4, false, sx 32⟩, ⟨.gsldgt, 8, true, id⟩]

/-- A load takes the exception; to register 0 it may only go on instead. -/
def LoadTakes (i : Instr) (s : State) (rt : BitVec 5) (e : Exc) : Prop :=
  Takes i s e ∨ (rt = 0 ∧ exec i s = .next s.advance)

/-- An access of `n` bytes at the physical address that `at_` gives for its target takes the exception its
translation raises, and Data Bus Error where the bus answers ERR (60_exceptions.md rule R944). -/
def AccessFails (s : State) (va : Dword) (kind : AccessKind) (at_ : Target → Nat) (n : Nat) (takes : Exc → Prop) : Prop :=
  (∀ e, s.translate va kind = .exc e → takes e) ∧
  (∀ g, Reaches s va kind g → AnswersErr s (at_ g) n → takes .dbe)

/-- The access is made at the target itself. -/
def here (g : Target) : Nat := g.pa.toNat

/-- The load of a row completes with the value this core sees; a wide one is reserved with 64-bit operations
off. -/
def LoadCompletes {F : Type} (p : LoadRow F) (i : Instr) (s : State) (rt : BitVec 5) (va : Dword) : Prop :=
  ((p.wide = true → s.are64 = true) → ∀ g, Readable s va p.size g →
    PutsGprFrom i s (Remembered s va g) rt (p.ext (s.seenLE g.pa.toNat p.size))) ∧
  (p.wide = true → s.are64 = false → Takes i s .ri)

end Sys2Proof.Claims

/-- When the address translates to pa, is a multiple of the size, every byte is RAM or ROM in the host's map,
and a cached page has no other colour, LB to LD, the custom indexed loads (coprocessor 2 usable) and the
bound-checked loads whose check passes write the destination with the sign- or zero-extended value of the
bytes from pa up, and change nothing else but the model's record of the page's colour (log 46). A byte has
the value of the latest store of this core to it, one that still waits in the uncached-accelerated buffer
among them (R230; byteSeen spells it out), else that of memory. The doubleword forms and LWU take Reserved
Instruction when 64-bit operations are off (custom forms: log 69), with rt = 0 too (log 28). The bound
comparison is the model's boundLe: signed or unsigned by an open choice (log 27), the same as either where
both agree. What a log entry is cited for is the choice of the model. (40_loadstore.md rules R300, R302 to
R307, R310; 47_custom_int.md rules R601, R602, R606 to R619, R633, R634; 20_memory.md rules R182, R200,
R216, R221, R230, R231; 60_exceptions.md rule R934; notes/assumptions/27.md; notes/assumptions/28.md;
notes/assumptions/45.md; notes/assumptions/46.md; notes/assumptions/69.md). -/
def Obligations.LoadsExtendTheBytesTheyRead : Prop :=
  ∀ s : State,
    (∀ p ∈ loads, ∀ base rt imm,
      LoadCompletes p (p.instr base rt imm) s rt (s.readGpr base + imm.signExtend 64)) ∧
    (s.cu 2 = true →
      (∀ p ∈ indexedLoads, ∀ base rt index off, LoadCompletes p (p.instr base rt index off) s rt
        (s.readGpr base + s.readGpr index + off.signExtend 64)) ∧
      (∀ p ∈ upperLoads, ∀ base rt rd,
        (boundLe (s.readGpr base) (s.readGpr rd) = true →
          LoadCompletes p (p.instr base rt rd) s rt (s.readGpr base)) ∧
        (p.wide = true → s.are64 = false → Takes (p.instr base rt rd) s .ri)) ∧
      (∀ p ∈ lowerLoads, ∀ base rt rd,
        (boundLe (s.readGpr base) (s.readGpr rd) = false →
          LoadCompletes p (p.instr base rt rd) s rt (s.readGpr base)) ∧
        (p.wide = true → s.are64 = false → Takes (p.instr base rt rd) s .ri)))

namespace Sys2Proof.Claims

/-- A store that can reach its bytes. -/
def Writable (s : State) (va : Dword) (n : Nat) (g : Target) : Prop :=
  Reaches s va .store g ∧ va.toNat % n = 0 ∧ InRam s g.pa.toNat n

/-- A store: constructor, size, whether it needs 64-bit operations. -/
structure StoreRow (F : Type) where
  instr : F
  size : Nat
  wide : Bool

/-- SB to SD (40_loadstore.md). -/
def stores : List (StoreRow RegImm) := [⟨.sb, 1, false⟩, ⟨.sh, 2, false⟩, ⟨.sw, 4, false⟩, ⟨.sd, 8, true⟩]
/-- The indexed stores (47_custom_int.md). -/
def indexedStores : List (StoreRow (BitVec 5 → BitVec 5 → BitVec 5 → BitVec 8 → Instr)) :=
  [⟨.gssbx, 1, false⟩, ⟨.gsshx, 2, false⟩, ⟨.gsswx, 4, false⟩, ⟨.gssdx, 8, true⟩]
/-- The stores with an upper bound (47_custom_int.md). -/
def upperStores : List (StoreRow Reg3) :=
  [⟨.gssble, 1, false⟩, ⟨.gsshle, 2, false⟩, ⟨.gsswle, 4, false⟩, ⟨.gssdle, 8, true⟩]
/-- The stores with a lower bound (47_custom_int.md). -/
def lowerStores : List (StoreRow Reg3) :=
  [⟨.gssbgt, 1, false⟩, ⟨.gsshgt, 2, false⟩, ⟨.gsswgt, 4, false⟩, ⟨.gssdgt, 8, true⟩]

/-- The instruction completes, storing the low `n` bytes of `v` at `g` and changing nothing else (the page of
`va` is remembered). -/
def Stores (i : Instr) (s : State) (va : Dword) (g : Target) (n : Nat) (v : Dword) : Prop :=
  ∃ t, exec i s = .next t ∧ (Remembered s va g).storesTo t g n v

/-- The store of a row completes; a wide one is reserved with 64-bit operations off. -/
def StoreCompletes {F : Type} (p : StoreRow F) (i : Instr) (s : State) (rt : BitVec 5) (va : Dword) : Prop :=
  ((p.wide = true → s.are64 = true) → ∀ g, Writable s va p.size g →
    Stores i s va g p.size (s.readGpr rt)) ∧
  (p.wide = true → s.are64 = false → Takes i s .ri)

end Sys2Proof.Claims

/-- When the address translates for a store to pa, is a multiple of the size, every byte is RAM in the host's
map, and a cached page has no other colour, SB to SD, the custom indexed stores (coprocessor 2 usable) and
the bound-checked stores whose check passes store the low 1, 2, 4 or 8 bytes of rt from pa up, low byte
first: with attribute 3 at once (after the buffered stores if it shares a byte with one, R232), after the
buffered stores with attribute 2, and with attribute 7 in the buffer, which is written out, in order, when
it holds 32 bytes (R225, log 45). Every other byte of memory reads as before, and every register and the TLB
are unchanged; the model's record of the page's colour may grow (log 46). The doubleword forms take Reserved
Instruction when 64-bit operations are off (custom forms: log 69). What a log entry is cited for is the
choice of the model. (40_loadstore.md rules R300, R315 to R317, R320; 47_custom_int.md rules R620 to R634;
20_memory.md rules R182, R200, R216, R221 to R225, R231, R232; 60_exceptions.md rule R934;
notes/assumptions/45.md; notes/assumptions/46.md; notes/assumptions/69.md). -/
def Obligations.StoresWriteExactlyTheirBytes : Prop :=
  ∀ s : State,
    (∀ p ∈ stores, ∀ base rt imm,
      StoreCompletes p (p.instr base rt imm) s rt (s.readGpr base + imm.signExtend 64)) ∧
    (s.cu 2 = true →
      (∀ p ∈ indexedStores, ∀ base rt index off, StoreCompletes p (p.instr base rt index off) s rt
        (s.readGpr base + s.readGpr index + off.signExtend 64)) ∧
      (∀ p ∈ upperStores, ∀ base rt rd,
        (boundLe (s.readGpr base) (s.readGpr rd) = true →
          StoreCompletes p (p.instr base rt rd) s rt (s.readGpr base)) ∧
        (p.wide = true → s.are64 = false → Takes (p.instr base rt rd) s .ri)) ∧
      (∀ p ∈ lowerStores, ∀ base rt rd,
        (boundLe (s.readGpr base) (s.readGpr rd) = false →
          StoreCompletes p (p.instr base rt rd) s rt (s.readGpr base)) ∧
        (p.wide = true → s.are64 = false → Takes (p.instr base rt rd) s .ri)))

namespace Sys2Proof.Claims

/-- Byte `k` of a register. -/
def regByte (v : Dword) (k : Nat) : Byte := v.extractLsb' (8 * k) 8

/-- The target moved down to its aligned block of `n` bytes. -/
def BlockTarget (g : Target) (n : Nat) : Target := ⟨g.pa &&& ~~~(BitVec.ofNat 48 (n - 1)), g.cca⟩
/-- The physical address of the aligned block of `n` bytes. -/
def blockOf (g : Target) (n : Nat) : Nat := (BlockTarget g n).pa.toNat

/-- The left bytes of a block of `n` bytes joined with the old register. -/
def JoinsLeft (s : State) (g : Target) (n b : Nat) (old v : Dword) : Prop :=
  ∀ k, k < n → regByte v k = if n - 1 - b ≤ k then s.byteSeen (blockOf g n + (k - (n - 1 - b))) else regByte old k
/-- The right bytes of a block of `n` bytes joined with the old register. -/
def JoinsRight (s : State) (g : Target) (n b : Nat) (old v : Dword) : Prop :=
  ∀ k, k < n → regByte v k = if k + b < n then s.byteSeen (blockOf g n + b + k) else regByte old k

/-- The address translates for a load and its block lies in memory. -/
def BlockReadable (s : State) (va : Dword) (n : Nat) (g : Target) : Prop :=
  Reaches s va .load g ∧ InMemory s (blockOf g n) n

/-- The load of a part of a block completes, and the value written has the property. -/
def PutsPart (i : Instr) (s : State) (va : Dword) (g : Target) (rd : BitVec 5) (good : Dword → Prop) : Prop :=
  ∃ v, PutsGprFrom i s (Remembered s va g) rd v ∧ good v

/-- The instruction completes, storing the low `n` bytes of `v` from the address of `h` up, in the page of
`va`. -/
def StoresAt (i : Instr) (s : State) (va : Dword) (g h : Target) (n : Nat) (v : Dword) : Prop :=
  ∃ t, exec i s = .next t ∧ (Remembered s va g).storesTo t h n v

/-- The left part of `v` goes to the block's bytes up to the address, where they are RAM. -/
def StoresLeft (i : Instr) (s : State) (va : Dword) (g : Target) (n : Nat) (v : Dword) : Prop :=
  InRam s (blockOf g n) (va.toNat % n + 1) →
    StoresAt i s va g (BlockTarget g n) (va.toNat % n + 1) (v >>> (8 * (n - 1 - va.toNat % n)))
/-- The right part of `v` goes to the block's bytes from the address up, where they are RAM. -/
def StoresRight (i : Instr) (s : State) (va : Dword) (g : Target) (n : Nat) (v : Dword) : Prop :=
  InRam s g.pa.toNat (n - va.toNat % n) → StoresAt i s va g g (n - va.toNat % n) v

/-- A load of a part of a block of `n` bytes fails. -/
def PartLoadFails (s : State) (va : Dword) (n : Nat) (takes : Exc → Prop) : Prop :=
  AccessFails s va .load (fun g => blockOf g n) n takes
/-- A store to the left part of a block of `n` bytes fails. -/
def LeftStoreFails (i : Instr) (s : State) (va : Dword) (n : Nat) : Prop :=
  AccessFails s va .store (fun g => blockOf g n) (va.toNat % n + 1) (Takes i s)
/-- A store to the right part of a block of `n` bytes fails. -/
def RightStoreFails (i : Instr) (s : State) (va : Dword) (n : Nat) : Prop :=
  AccessFails s va .store here (n - va.toNat % n) (Takes i s)

end Sys2Proof.Claims

/-- Let b be the address modulo the size n, and the aligned block (of a store: the bytes stored) lie in the
host's memory. LWL and LDL put memory bytes block .. va into register bytes n-1-b .. n-1 and keep the bytes
below; LWR and LDR put bytes va .. end of block into register bytes 0 .. n-1-b and keep the bytes above. LWL
gives a sign-extended word; LWR does for b = 0, and else bits 63:32 are either the sign extension of the
word or unchanged (log 9). SWL and SDL store register bytes n-1-b .. n-1 to the block up to the address, SWR
and SDR register bytes 0 .. n-1-b from the address up, and no other byte (attribute 7 through the buffer of
R225, log 45). Memory bytes are those this core sees (R230, as in O21). Nothing else changes but the record
of the page's colour (log 46). An exception of the translation is taken; where the bus answers ERR at a byte
of the block (of a store: a byte stored) DBE is (that a load asks for the whole block is log 70; to r0: log
28). The doubleword forms take Reserved Instruction when 64-bit operations are off. What a log entry is
cited for is the choice of the model. (40_loadstore.md rules R301, R308, R309, R311, R314, R318, R319, R321,
R322; 20_memory.md rules R200, R221, R225, R230; 60_exceptions.md rule R944; notes/assumptions/2.md;
notes/assumptions/9.md; notes/assumptions/28.md; notes/assumptions/45.md; notes/assumptions/46.md;
notes/assumptions/70.md). -/
def Obligations.LeftAndRightAccessesMovePartOfABlock : Prop :=
  ∀ (s : State) (base rt : BitVec 5) (imm : BitVec 16) (g : Target),
    let va := s.readGpr base + imm.signExtend 64
    let old := s.readGpr rt
    (BlockReadable s va 4 g →
      PutsPart (.lwl base rt imm) s va g rt (fun v => IsWord v ∧ JoinsLeft s g 4 (va.toNat % 4) old v) ∧
      PutsPart (.lwr base rt imm) s va g rt (fun v => JoinsRight s g 4 (va.toNat % 4) old v ∧
        (IsWord v ∨ (va.toNat % 4 ≠ 0 ∧ v.extractLsb' 32 32 = old.extractLsb' 32 32)))) ∧
    (BlockReadable s va 8 g → s.are64 = true →
      PutsPart (.ldl base rt imm) s va g rt (fun v => JoinsLeft s g 8 (va.toNat % 8) old v) ∧
      PutsPart (.ldr base rt imm) s va g rt (fun v => JoinsRight s g 8 (va.toNat % 8) old v)) ∧
    (Reaches s va .store g →
      StoresLeft (.swl base rt imm) s va g 4 old ∧ StoresRight (.swr base rt imm) s va g 4 old ∧
      (s.are64 = true →
        StoresLeft (.sdl base rt imm) s va g 8 old ∧ StoresRight (.sdr base rt imm) s va g 8 old)) ∧
    (PartLoadFails s va 4 (LoadTakes (.lwl base rt imm) s rt) ∧
      PartLoadFails s va 4 (LoadTakes (.lwr base rt imm) s rt) ∧
      LeftStoreFails (.swl base rt imm) s va 4 ∧ RightStoreFails (.swr base rt imm) s va 4) ∧
    (s.are64 = true →
      PartLoadFails s va 8 (LoadTakes (.ldl base rt imm) s rt) ∧
      PartLoadFails s va 8 (LoadTakes (.ldr base rt imm) s rt) ∧
      LeftStoreFails (.sdl base rt imm) s va 8 ∧ RightStoreFails (.sdr base rt imm) s va 8) ∧
    (s.are64 = false → Takes (.ldl base rt imm) s .ri ∧ Takes (.ldr base rt imm) s .ri ∧
      Takes (.sdl base rt imm) s .ri ∧ Takes (.sdr base rt imm) s .ri)

namespace Sys2Proof.Claims

/-- LL or LLD completes: the value, and the link. -/
def Links (i : Instr) (s : State) (va : Dword) (rt : BitVec 5) (g : Target) (n : Nat) (v : Dword) : Prop :=
  ∃ t, exec i s = .next t ∧ s.wentOn t ∧ s.sameBytes t ∧ s.gprsBut t rt v ∧
    t.llbit = true ∧ t.linked = some ⟨g.pa, n⟩ ∧
    t.cp0 = { s.cp0 with llAddr := (0#16 ++ g.pa.extractLsb' 12 36 ++ 0#12 : BitVec 64) } ∧
    State.sameButFlow
      { Remembered s va g with gpr := t.gpr, llbit := t.llbit, linked := t.linked, cp0 := t.cp0 } t

/-- The access is cached, and the last LL, if there was one, had its address and size (20_memory.md rule
R244). -/
def FitsLink (s : State) (g : Target) (n : Nat) : Prop :=
  g.cca = 3 ∧ ∀ l, s.linked = some l → l.pa = g.pa ∧ l.size = n

/-- SC or SCD completes: with the store and 1, or without and 0. -/
def StoresConditionally (i : Instr) (s : State) (va : Dword) (rt : BitVec 5) (g : Target) (n : Nat) : Prop :=
  ∃ t, exec i s = .next t ∧ t.llbit = false ∧ s.wentOn t ∧
    State.sameButFlow { Remembered s va g with
      gpr := t.gpr, llbit := false, mem := t.mem, stale := t.stale, accel := t.accel } t ∧
    ((s.llbit = true ∧ s.gprsBut t rt 1 ∧
        s.received t (arrivals s.accel g.cca ⟨g.pa.toNat, n, s.readGpr rt⟩)) ∨
      (s.gprsBut t rt 0 ∧ s.received t ([], s.accel)))

/-- What LL or LLD of `n` bytes does at an aligned address. -/
def LoadLinkedCases (i : Instr) (s : State) (va : Dword) (rt : BitVec 5) (n : Nat) (ext : Dword → Dword) : Prop :=
  va.toNat % n = 0 →
    (∀ g, Readable s va n g → Links i s va rt g n (ext (s.seenLE g.pa.toNat n))) ∧
    AccessFails s va .load here n (LoadTakes i s rt)

/-- What SC or SCD of `n` bytes does at an aligned address, whether or not LLbit is set. -/
def StoreConditionalCases (i : Instr) (s : State) (va : Dword) (rt : BitVec 5) (n : Nat) : Prop :=
  va.toNat % n = 0 →
    (∀ e, s.translate va .store = .exc e → Takes i s e) ∧
    (∀ g, Reaches s va .store g →
      (¬ FitsLink s g n → exec i s = .refused .mismatchedStoreConditional) ∧
      (FitsLink s g n → AnswersErr s g.pa.toNat n → Takes i s .dbe) ∧
      (FitsLink s g n → InRam s g.pa.toNat n → StoresConditionally i s va rt g n))

end Sys2Proof.Claims

/-- LL and LLD load like LW and LD, set LLbit, record their physical address and size (the monitored line is
pa[47:5]) and the page number in LLAddr. SC and SCD with attribute 3, and the physical address and size of
the last LL (any before the first, log 8), complete with LLbit clear: either the bytes of rt are stored and
rt reads 1, which happens only if LLbit was set, or nothing is stored and rt reads 0 (a success may always
fail, log 8). With another attribute, address or size they are refused by name (R244). Whether or not LLbit
is set, they take an exception of the translation, and DBE where the bus answers ERR (R323). LL and LLD take
these too (to r0: log 28). No other register, byte or field changes but the record of the page's colour (log
46); the doubleword forms take Reserved Instruction when 64-bit operations are off. Off their boundary: O26.
What a log entry is cited for is the choice of the model. (20_memory.md rules R230, R241 to R244;
40_loadstore.md rules R301, R312, R313, R323, R324; 20_memory.md rules R221, R231; 60_exceptions.md rule
R944; notes/assumptions/2.md; notes/assumptions/8.md; notes/assumptions/28.md; notes/assumptions/46.md). -/
def Obligations.LoadLinkedAndStoreConditional : Prop :=
  ∀ (s : State) (base rt : BitVec 5) (imm : BitVec 16),
    let va := s.readGpr base + imm.signExtend 64
    LoadLinkedCases (.ll base rt imm) s va rt 4 (sx 32) ∧
    StoreConditionalCases (.sc base rt imm) s va rt 4 ∧
    (s.are64 = true →
      LoadLinkedCases (.lld base rt imm) s va rt 8 id ∧
      StoreConditionalCases (.scd base rt imm) s va rt 8) ∧
    (s.are64 = false → Takes (.lld base rt imm) s .ri ∧ Takes (.scd base rt imm) s .ri)

namespace Sys2Proof.Claims

/-- The two halves of a quad access at `va`. -/
def QuadAddress (s : State) (base : BitVec 5) (off : BitVec 9) : Dword :=
  s.readGpr base + (off ++ 0#4 : BitVec 13).signExtend 64

/-- Both halves' pages are remembered. -/
def QuadRemembered (s : State) (va : Dword) (g h : Target) : State := Remembered (Remembered s va g) (va + 8) h

/-- Both halves can be loaded. -/
def QuadReadable (s : State) (va : Dword) (g h : Target) : Prop :=
  Readable s va 8 g ∧ Readable (Remembered s va g) (va + 8) 8 h
/-- Both halves can be stored to. -/
def QuadWritable (s : State) (va : Dword) (g h : Target) : Prop :=
  Writable s va 8 g ∧ Writable (Remembered s va g) (va + 8) 8 h

/-- The instruction completes, storing `lo` at the first half's address, then `hi` at the second's. -/
def StoresQuad (i : Instr) (s : State) (va : Dword) (g h : Target) (lo hi : Dword) : Prop :=
  let w := arrivals s.accel g.cca ⟨g.pa.toNat, 8, lo⟩
  let x := arrivals w.2 h.cca ⟨h.pa.toNat, 8, hi⟩
  ∃ t, exec i s = .next t ∧ s.wentOn t ∧ s.received t (w.1 ++ x.1, x.2) ∧
    State.sameButFlow { QuadRemembered s va g h with mem := t.mem, stale := t.stale, accel := t.accel } t

/-- A quad access by its address: at a multiple of 16 it completes, at 8 modulo 16 it completes or takes Address
Error, elsewhere it takes Address Error. -/
def QuadCases (i : Instr) (s : State) (va : Dword) (store : Bool) (completes : Prop) : Prop :=
  (va.toNat % 16 = 0 → completes) ∧
  (va.toNat % 16 = 8 → completes ∨ Takes i s (.addressError store va)) ∧
  (va.toNat % 8 ≠ 0 → Takes i s (.addressError store va))

/-- A quad load fails at its first or, the first being readable, at its second half. -/
def QuadLoadFails (s : State) (va : Dword) (takes : Exc → Prop) : Prop :=
  AccessFails s va .load here 8 takes ∧
  (∀ g, Readable s va 8 g → AccessFails (Remembered s va g) (va + 8) .load here 8 takes)
/-- A quad store fails at a half, before anything is stored. -/
def QuadStoreFails (s : State) (va : Dword) (takes : Exc → Prop) : Prop :=
  (∀ e, s.translate va .store = .exc e → takes e) ∧
  (∀ g, Reaches s va .store g →
    (∀ e, s.translate (va + 8) .store = .exc e → takes e) ∧
    (∀ h, Reaches (Remembered s va g) (va + 8) .store h →
      AnswersErr s g.pa.toNat 8 ∨ (InRam s g.pa.toNat 8 ∧ AnswersErr s h.pa.toNat 8) → takes .dbe))

/-- Every general register reads as before but the two written. -/
def TwoGprs (s t : State) (rt rq : BitVec 5) (lo hi : Dword) : Prop :=
  ∀ r, t.readGpr r = if r = rq ∧ r ≠ 0 then hi else if r = rt ∧ r ≠ 0 then lo else s.readGpr r

/-- GSLQ completes. -/
def LoadsQuad (s : State) (base rt rq : BitVec 5) (off : BitVec 9) (g h : Target) : Prop :=
  let va := QuadAddress s base off
  let lo := s.seenLE g.pa.toNat 8
  let hi := s.seenLE h.pa.toNat 8
  ∃ t, exec (.gslq base rt off rq) s = .next t ∧ s.wentOn t ∧ s.sameBytes t ∧
    State.sameButFlow { QuadRemembered s va g h with gpr := t.gpr } t ∧
    (rt ≠ rq → TwoGprs s t rt rq lo hi) ∧ (rt = rq → s.gprsBut t rt lo ∨ s.gprsBut t rt hi)

end Sys2Proof.Claims

/-- With coprocessor 2 usable, 64-bit operations enabled and an address that is a multiple of 16 whose two
halves translate to memory: GSLQ loads the low doubleword to rt and the high one to rq (one of the two if rt
= rq, log 10); GSSQ stores rt at the low half, then rq at the high half (through the buffer of R225 with
attribute 7, log 45). An address 8 modulo 16 completes in the same way or takes Address Error, by an open
choice (log 25); one off 8 bytes takes it; with 64-bit operations off both take Reserved Instruction (log
69). GSLE takes Address Error (load) when the bound comparison holds and else only goes on; GSGT the
reverse. An exception of the translation of a half is taken, and DBE where the bus answers ERR, the low half
first (GSLQ to r0: log 28). Nothing else changes but the record of the page's colour (log 46). What a log
entry is cited for is the choice of the model. (47_custom_int.md rules R604, R605, R612, R615, R628, R633,
R634; 20_memory.md rules R221, R225, R230; 60_exceptions.md rule R944; notes/assumptions/2.md;
notes/assumptions/10.md; notes/assumptions/25.md; notes/assumptions/28.md; notes/assumptions/45.md;
notes/assumptions/46.md; notes/assumptions/69.md). -/
def Obligations.QuadAndBoundCheckInstructions : Prop :=
  ∀ (s : State) (base rt rq : BitVec 5) (off : BitVec 9) (g h : Target), s.cu 2 = true →
    let va := QuadAddress s base off
    (s.are64 = true →
      (rt ≠ 0 ∨ rq ≠ 0 → QuadCases (.gslq base rt off rq) s va false
        ((QuadReadable s va g h → LoadsQuad s base rt rq off g h) ∧
          QuadLoadFails s va (Takes (.gslq base rt off rq) s))) ∧
      (va.toNat % 16 = 0 → (QuadReadable s va g h → LoadsQuad s base rt rq off g h) ∧
        QuadLoadFails s va (LoadTakes (.gslq base rt off rq) s (rt ||| rq))) ∧
      QuadCases (.gssq base rt off rq) s va true
        ((QuadWritable s va g h → StoresQuad (.gssq base rt off rq) s va g h (s.readGpr rt) (s.readGpr rq)) ∧
          QuadStoreFails s va (Takes (.gssq base rt off rq) s))) ∧
    (s.are64 = false → Takes (.gslq base rt off rq) s .ri ∧ Takes (.gssq base rt off rq) s .ri) ∧
    (∀ rs,
      (boundLe (s.readGpr rs) (s.readGpr rt) = true →
        Takes (.gsle rs rt) s (.boundError false) ∧ JustGoesOn (.gsgt rs rt) s) ∧
      (boundLe (s.readGpr rs) (s.readGpr rt) = false →
        JustGoesOn (.gsle rs rt) s ∧ Takes (.gsgt rs rt) s (.boundError false)) ∧
      ((s.readGpr rs).sle (s.readGpr rt) = (s.readGpr rs).ule (s.readGpr rt) →
        boundLe (s.readGpr rs) (s.readGpr rt) = (s.readGpr rs).ule (s.readGpr rt)))

namespace Sys2Proof.Claims

/-- The loads that have a boundary. -/
def alignedLoads : List (LoadRow RegImm) :=
  loads.tail.tail ++ [⟨.ll, 4, false, sx 32⟩, ⟨.lld, 8, true, id⟩]
/-- The stores that have a boundary. -/
def alignedStores : List (StoreRow RegImm) := stores.tail ++ [⟨.sc, 4, false⟩, ⟨.scd, 8, true⟩]

/-- What a load whose bound check passes does off its boundary, where its translation raises and where the bus
answers ERR. -/
def LoadFails {F : Type} (p : LoadRow F) (i : Instr) (s : State) (rt : BitVec 5) (va : Dword) : Prop :=
  (p.wide = true → s.are64 = true) →
    (va.toNat % p.size ≠ 0 → LoadTakes i s rt (.addressError false va)) ∧
    (va.toNat % p.size = 0 → AccessFails s va .load here p.size (LoadTakes i s rt))
/-- What a store whose bound check passes does off its boundary, where its translation raises and where the bus
answers ERR. -/
def StoreFails {F : Type} (p : StoreRow F) (i : Instr) (s : State) (va : Dword) : Prop :=
  (p.wide = true → s.are64 = true) →
    (va.toNat % p.size ≠ 0 → Takes i s (.addressError true va)) ∧
    (va.toNat % p.size = 0 → AccessFails s va .store here p.size (Takes i s))

end Sys2Proof.Claims

/-- For every load and store of size 2, 4 or 8 on general registers, the indexed and bound-checked forms
(coprocessor 2 usable) among them, with 64-bit operations for the doubleword forms: at an address that is
not a multiple of the size a store takes AdES and a load to a register other than 0 takes AdEL, with
BadVAddr the address, and neither a register nor memory changes; on its boundary it takes the exception its
translation raises, or DBE where the bus answers ERR at one of its bytes (LL, LLD, SC, SCD: O24). A failed
bound check takes AdEL or AdES before all of these, with any BadVAddr: that it comes first where another
address exception coincides, which R633 lets a model refuse, is log 58. A load to register 0 either takes
its exception or only goes on (log 28). O23, O25, O49 and O50 say the same of the left and right, the quad
and the floating-point forms. What a log entry is cited for is the choice of the model. (20_memory.md rules
R184, R200; 40_loadstore.md rules R300, R301; 60_exceptions.md rules R938, R940, R944; 47_custom_int.md
rules R602, R633; notes/assumptions/2.md; notes/assumptions/27.md; notes/assumptions/28.md;
notes/assumptions/58.md). -/
def Obligations.MisalignedAccessesTakeAddressError : Prop :=
  ∀ (s : State) (base rt : BitVec 5) (imm : BitVec 16),
    let va := s.readGpr base + imm.signExtend 64
    (∀ store, (s.takeException (.addressError store va)).cp0.badVAddr = va ∧
      s.sameGprs (s.takeException (.addressError store va)) ∧
      s.sameBytes (s.takeException (.addressError store va))) ∧
    (∀ p ∈ alignedLoads, (p.wide = true → s.are64 = true) → va.toNat % p.size ≠ 0 →
      LoadTakes (p.instr base rt imm) s rt (.addressError false va)) ∧
    (∀ p ∈ alignedStores, (p.wide = true → s.are64 = true) → va.toNat % p.size ≠ 0 →
      Takes (p.instr base rt imm) s (.addressError true va)) ∧
    (∀ p ∈ loads, LoadFails p (p.instr base rt imm) s rt va) ∧
    (∀ p ∈ stores, StoreFails p (p.instr base rt imm) s va) ∧
    (s.cu 2 = true → ∀ (index bound : BitVec 5) (off : BitVec 8),
      let a := s.readGpr base
      let b := s.readGpr bound
      let at_ := a + s.readGpr index + off.signExtend 64
      (∀ p ∈ indexedLoads, LoadFails p (p.instr base rt index off) s rt at_) ∧
      (∀ p ∈ indexedStores, StoreFails p (p.instr base rt index off) s at_) ∧
      (∀ p ∈ upperLoads, (boundLe a b = true → LoadFails p (p.instr base rt bound) s rt a) ∧
        (boundLe a b = false → (p.wide = true → s.are64 = true) →
          LoadTakes (p.instr base rt bound) s rt (.boundError false))) ∧
      (∀ p ∈ lowerLoads, (boundLe a b = false → LoadFails p (p.instr base rt bound) s rt a) ∧
        (boundLe a b = true → (p.wide = true → s.are64 = true) →
          LoadTakes (p.instr base rt bound) s rt (.boundError false))) ∧
      (∀ p ∈ upperStores, (boundLe a b = true → StoreFails p (p.instr base rt bound) s a) ∧
        (boundLe a b = false → (p.wide = true → s.are64 = true) →
          Takes (p.instr base rt bound) s (.boundError true))) ∧
      (∀ p ∈ lowerStores, (boundLe a b = false → StoreFails p (p.instr base rt bound) s a) ∧
        (boundLe a b = true → (p.wide = true → s.are64 = true) →
          Takes (p.instr base rt bound) s (.boundError true))))

/-- For every memory, address, value and size up to 8: after the write, the byte at a + k is bits 8k+7:8k of the
value for k below the size, every other byte reads as before, and a read of the same size gives the low
bytes of the value. Writing keeps the canonical form, and two memories in canonical form that give the same
byte at every address are equal as data (the model's own representation, log 1). After a store of any
attribute, into memory or into the buffer, this core sees at each byte the value stored if the store covers
it, and what it saw before otherwise, so that every load returns the latest store (R230, R231 (b); how the
buffer does it is log 45). What a log entry is cited for is the choice of the model. (20_memory.md rules
R180 to R183, R223 to R225, R230, R231; notes/assumptions/1.md; notes/assumptions/45.md). -/
def Obligations.MemoryKeepsBytesInLittleEndianOrder : Prop :=
  (∀ (m : List Host.Cell) (a n : Nat) (v : Dword), n ≤ 8 →
    (∀ k, k < n → readByte (writeLE m a n v) (a + k) = (v >>> (8 * k)).setWidth 8) ∧
    (∀ b, b < a ∨ a + n ≤ b → readByte (writeLE m a n v) b = readByte m b) ∧
    readLE (writeLE m a n v) a n = (v.setWidth (8 * n)).setWidth 64 ∧
    (Memory.wf m = true → Memory.wf (writeLE m a n v) = true)) ∧
  (∀ m n : List Host.Cell, Memory.wf m = true → Memory.wf n = true →
    (∀ a, readByte m a = readByte n a) → m = n) ∧
  (∀ (s : State) (cca : BitVec 3) (b : BufferedStore) (a : Nat), (s.landStore cca b).byteSeen a =
    if b.addr ≤ a ∧ a < b.addr + b.size then (b.value >>> (8 * (a - b.addr))).setWidth 8 else s.byteSeen a)

namespace Sys2Proof.Claims

/-- A usable target: an attribute with a meaning, and a physical address within reach. -/
def Reachable (s : State) (pa : PhysAddr) (cca : BitVec 3) : Prop :=
  (cca = 2 ∨ cca = 3 ∨ cca = 7) ∧ (s.cp0.pageGrain.getLsbD 29 = true ∨ pa.toNat < 2 ^ 40)

end Sys2Proof.Claims

/-- In kernel mode with KX = 1 (or a sign-extended 32-bit address) CKSEG1 addresses give pa = va[28:0],
uncached; CKSEG0 the same with attribute Config.K0; XKPHY gives pa = va[47:0] with attribute va[61:59], or
Address Error when va[58:48] is not 0 (attributes 2, 3, 7; physical addresses above 40 bits only with
PageGrain.ELPA). The gaps between the kernel segments take Address Error, the doubtful end of XKSEG is
refused by name, and so is the user segment with ERL = 1 (R198, log 15). In user mode an address whose bits
63:48 are not 0 takes Address Error; so does, in supervisor mode, an address outside XSUSEG, XSSEG and
CSSEG, and in each mode, with its enable KX, SX or UX at 0, an address that is no sign-extended word. An
access that translates is made, remembering the colour of a cached page; with another colour it is refused
by name (R221, log 46). What a log entry is cited for is the choice of the model. (20_memory.md rules R191
to R199, R221, R226; 92_eei_decisions.md D6, D8; notes/assumptions/15.md; notes/assumptions/46.md). -/
def Obligations.UnmappedSegmentsAndForbiddenAddresses : Prop :=
  ∀ (s : State) (va : Dword) (kind : AccessKind),
    (s.isKernel = true →
      (0xFFFFFFFFA0000000 ≤ va.toNat → va.toNat < 0xFFFFFFFFC0000000 →
        s.translate va kind = .ok ⟨BitVec.ofNat 48 (va.toNat - 0xFFFFFFFFA0000000), 2⟩) ∧
      (0xFFFFFFFF80000000 ≤ va.toNat → va.toNat < 0xFFFFFFFFA0000000 →
        let pa := BitVec.ofNat 48 (va.toNat - 0xFFFFFFFF80000000)
        Reachable s pa (s.cp0.config.setWidth 3) →
          s.translate va kind = .ok ⟨pa, s.cp0.config.setWidth 3⟩) ∧
      (s.kx = true → va.extractLsb' 62 2 = 2#2 →
        (va.extractLsb' 48 11 ≠ 0#11 → s.translate va kind = .exc (.addressError (kind == .store) va)) ∧
        (va.extractLsb' 48 11 = 0#11 → Reachable s (va.setWidth 48) (va.extractLsb' 59 3) →
          s.translate va kind = .ok ⟨va.setWidth 48, va.extractLsb' 59 3⟩)) ∧
      (s.kx = true →
        ((2 ^ 48 ≤ va.toNat ∧ va.toNat < 2 ^ 62) ∨ (2 ^ 62 + 2 ^ 48 ≤ va.toNat ∧ va.toNat < 2 ^ 63) ∨
          (0xC000FFFF80000000 ≤ va.toNat ∧ va.toNat < 0xFFFFFFFF80000000)) →
        s.translate va kind = .exc (.addressError (kind == .store) va)) ∧
      (s.kx = true → 0xC00000FF80000000 ≤ va.toNat → va.toNat < 0xC000FFFF80000000 →
        s.translate va kind = .refused .doubtfulKernelSegment) ∧
      (s.kx = false → ¬ IsWord va → s.translate va kind = .exc (.addressError (kind == .store) va)) ∧
      (s.erl = true → va.toNat < 2 ^ 48 → (s.kx = true ∨ IsWord va) →
        s.translate va kind = .refused .userSegmentErl)) ∧
    ((s.isSupervisor = true ∧ s.sx = false) ∨ (s.isUser = true ∧ s.ux = false) → ¬ IsWord va →
      s.translate va kind = .exc (.addressError (kind == .store) va)) ∧
    (∀ g, Reaches s va kind g → s.reach va kind = .ok (g, Remembered s va g)) ∧
    (∀ g, s.translate va kind = .ok g → g.cca = 3 →
      (∃ c ∈ s.coloured, c.page = g.pa.extractLsb' 12 36) →
      (∀ c ∈ s.coloured, c.page = g.pa.extractLsb' 12 36 → c.colour ≠ va.extractLsb' 12 2) →
      s.reach va kind = .refused .pageColour) ∧
    (s.isUser = true → 2 ^ 48 ≤ va.toNat →
      s.translate va kind = .exc (.addressError (kind == .store) va)) ∧
    (s.isSupervisor = true → 2 ^ 48 ≤ va.toNat →
      ¬ (2 ^ 62 ≤ va.toNat ∧ va.toNat < 2 ^ 62 + 2 ^ 48) →
      ¬ (0xFFFFFFFFC0000000 ≤ va.toNat ∧ va.toNat < 0xFFFFFFFFE0000000) →
      s.translate va kind = .exc (.addressError (kind == .store) va))

namespace Sys2Proof.Claims

/-- `Match(e, va)` (20_memory.md rule R205). -/
def Matches (s : State) (va : Dword) (e : TlbEntry) : Prop :=
  e.r = va.extractLsb' 62 2 ∧
  (∀ b, b < 35 → (b < 12 ∧ e.mask.getLsbD b = true) ∨ e.vpn2.getLsbD b = va.getLsbD (13 + b)) ∧
  (e.g = true ∨ e.asid = s.cp0.entryHi.setWidth 8)

/-- An address of the lowest 2^48, in use with the mode's 64-bit enable or as a sign-extended word (20_memory.md rule
R197). -/
def Low48 (enable : Bool) (va : Dword) : Prop := va.toNat < 2 ^ 48 ∧ (enable = true ∨ IsWord va)
/-- XKSSEG, XSSEG. -/
def SupervisorLow (enable : Bool) (va : Dword) : Prop :=
  enable = true ∧ 2 ^ 62 ≤ va.toNat ∧ va.toNat < 2 ^ 62 + 2 ^ 48

/-- The mapped addresses of the current mode (20_memory.md rules R191 to R194, R197, R198). -/
def IsMapped (s : State) (va : Dword) : Prop :=
  (s.isKernel = true ∧ ((s.erl = false ∧ Low48 s.kx va) ∨ SupervisorLow s.kx va ∨
    (s.kx = true ∧ 0xC000000000000000 ≤ va.toNat ∧ va.toNat < 0xC00000FF80000000) ∨
    0xFFFFFFFFC0000000 ≤ va.toNat)) ∨
  (s.isSupervisor = true ∧ (Low48 s.sx va ∨ SupervisorLow s.sx va ∨
    (0xFFFFFFFFC0000000 ≤ va.toNat ∧ va.toNat < 0xFFFFFFFFE0000000))) ∨
  (s.isUser = true ∧ Low48 s.ux va)

/-- The entry's page for an address is the odd one (20_memory.md rule R208). -/
def OddPage (e : TlbEntry) (va : Dword) : Bool := va.getLsbD (12 + Nat.log2 (e.mask.toNat + 1))

end Sys2Proof.Claims

/-- For a mapped address - in kernel mode XKUSEG (ERL = 0), XKSSEG, XKSEG below the doubtful range (KX = 1),
CKSSEG, CKSEG3; in supervisor mode XSUSEG, XSSEG, CSSEG; in user mode XUSEG; with the mode's enable KX, SX
or UX, or as a sign-extended word - let the matching entries be those with equal region, equal page number
outside the mask, and global or equal ASID. None: TLB Refill. One, with the page chosen by address bit 12 +
log2(mask + 1): V = 0 gives TLB Invalid; a store with D = 0 TLB Modified; else (attribute 2, 3 or 7,
physical address within reach) the page number outside the mask joined with the offset. More than one: the
named fault (not defined by the source). That an entry whose Mask is none of the seven legal values goes by
the same rules is log 71. What a log entry is cited for is the choice of the model. (20_memory.md rules R191
to R194, R197, R205 to R209, R215; 60_exceptions.md rule R931; notes/assumptions/71.md). -/
def Obligations.TlbLookupOrderAndPhysicalAddress : Prop :=
  ∀ (s : State) (va : Dword) (kind : AccessKind),
    IsMapped s va →
    ((∀ i : Fin 64, ¬ Matches s va s.tlb[i]) →
      s.translate va kind = .exc (.tlbRefill (kind == .store) va)) ∧
    (∀ i : Fin 64, Matches s va s.tlb[i] → (∀ j : Fin 64, Matches s va s.tlb[j] → j = i) →
      let e := s.tlb[i]
      let v := if OddPage e va then e.v1 else e.v0
      let d := if OddPage e va then e.d1 else e.d0
      let pfn := if OddPage e va then e.pfn1 else e.pfn0
      let c := if OddPage e va then e.c1 else e.c0
      (v = false → s.translate va kind = .exc (.tlbInvalid (kind == .store) va)) ∧
      (v = true → kind = .store → d = false → s.translate va kind = .exc (.mod va)) ∧
      (v = true → (kind = .store → d = true) →
        let pa := ((pfn &&& ~~~(e.mask.setWidth 36)) ++ 0#12 : BitVec 48) |||
          BitVec.ofNat 48 (va.toNat % 2 ^ (12 + Nat.log2 (e.mask.toNat + 1)))
        Reachable s pa c → s.translate va kind = .ok ⟨pa, c⟩)) ∧
    (∀ i j : Fin 64, i ≠ j → Matches s va s.tlb[i] → Matches s va s.tlb[j] →
      s.translate va kind = .fault .tlbMultipleMatch)

namespace Sys2Proof.Claims

/-- ExcCode of each exception (60_exceptions.md rule R936). -/
def codeOf : Exc → Nat
  | .int => 0
  | .mod _ => 1
  | .tlbRefill store _ => if store then 3 else 2
  | .tlbInvalid store _ => if store then 3 else 2
  | .addressError store _ => if store then 5 else 4
  | .boundError store => if store then 5 else 4
  | .ibe => 6
  | .dbe => 7
  | .sys => 8
  | .bp => 9
  | .ri => 10
  | .cpU _ => 11
  | .ov => 12
  | .tr => 13
  | .fpe => 15

end Sys2Proof.Claims

/-- For every state and exception, entry sets Status.EXL and leaves the rest of Status, writes ExcCode, and with
EXL = 0 before saves the address to resume at (the branch before a delay slot) in EPC and the slot in
Cause.BD; with EXL = 1 before EPC and BD keep their values. CE is the unit for Coprocessor Unusable. General
registers, HI, LO, floating-point state, memory, the TLB, LLbit and the other CP0 registers that entry does
not write are unchanged. (60_exceptions.md rules R936, R960, R961). -/
def Obligations.ExceptionEntrySavesAndMasks : Prop :=
  ∀ (s : State) (e : Exc),
    let t := s.takeException e
    t.cp0.status = s.cp0.status ||| 2 ∧
    (t.cp0.cause.extractLsb' 2 5).toNat = codeOf e ∧
    (∀ n, e = .cpU n → t.cp0.cause.extractLsb' 28 2 = n) ∧
    (s.exl = false → t.cp0.epc = (if s.inDelaySlot then s.pc - 4 else s.pc) ∧
      t.cp0.cause.getLsbD 31 = s.inDelaySlot) ∧
    (s.exl = true → t.cp0.epc = s.cp0.epc ∧ t.cp0.cause.getLsbD 31 = s.cp0.cause.getLsbD 31 ∧
      t.pc = s.vectorBase + 0x180) ∧
    (∀ b, b < 2 ∨ (7 ≤ b ∧ b < 28) ∨ b = 30 → t.cp0.cause.getLsbD b = s.cp0.cause.getLsbD b) ∧
    t.npc = t.pc + 4 ∧ t.inDelaySlot = false ∧
    t = { s with cp0 := t.cp0, pc := t.pc, npc := t.npc, inDelaySlot := false, afterJump := false } ∧
    t.cp0 = { s.cp0 with
      epc := t.cp0.epc, cause := t.cp0.cause, status := t.cp0.status, badVAddr := t.cp0.badVAddr,
      context := t.cp0.context, xContext := t.cp0.xContext, entryHi := t.cp0.entryHi,
      entryLo0 := t.cp0.entryLo0, entryLo1 := t.cp0.entryLo1 }

namespace Sys2Proof.Claims

/-- The base of the vectors (60_exceptions.md rule R962). -/
def baseOf (s : State) : Dword :=
  if s.cp0.status.getLsbD 22 then 0xFFFFFFFFBFC00200
  else (s.cp0.ebase.extractLsb' 12 20 ++ 0#12 : BitVec 32).signExtend 64

/-- X(va): the enable bit of the address's region (60_exceptions.md rule R963). -/
def regionBit (s : State) (va : Dword) : Bool :=
  if va.toNat < 2 ^ 62 then s.cp0.status.getLsbD 5
  else if va.toNat < 2 ^ 63 ∨ (0xFFFFFFFFC0000000 ≤ va.toNat ∧ va.toNat < 0xFFFFFFFFE0000000) then
    s.cp0.status.getLsbD 6
  else s.cp0.status.getLsbD 7

end Sys2Proof.Claims

/-- The base is 0xFFFFFFFFBFC00200 with Status.BEV = 1, else EBase bits 31:12 sign-extended. With EXL = 0 a TLB
refill adds 0x000, or 0x080 when the X bit of the address's region is set (UX, SX or KX by region); an
interrupt adds 0x180 with Cause.IV = 0 and 0x200 plus the highest pending unmasked number times the spacing
IntCtl.VS * 32 with IV = 1; every other exception, and every exception with EXL = 1, adds 0x180. O53 says in
which states an interrupt is entered at all. (60_exceptions.md rules R962, R963, R978; 92_eei_decisions.md
D11). -/
def Obligations.ExceptionVectorsByBaseAndOffset : Prop :=
  ∀ s : State,
    (∀ e, s.exl = true → (s.takeException e).pc = baseOf s + 0x180) ∧
    (s.exl = false →
      (∀ store va, (s.takeException (.tlbRefill store va)).pc =
        baseOf s + (if regionBit s va then 0x080 else 0x000)) ∧
      (s.cp0.cause.getLsbD 23 = false → (s.takeException .int).pc = baseOf s + 0x180) ∧
      (s.cp0.cause.getLsbD 23 = true → ∀ n, n < 8 →
        (s.ip &&& s.im).getLsbD n = true → (∀ k, n < k → (s.ip &&& s.im).getLsbD k = false) →
        (s.takeException .int).pc =
          baseOf s + BitVec.ofNat 64 (0x200 + n * (32 * (s.cp0.intCtl.extractLsb' 5 5).toNat))) ∧
      (∀ e, e ≠ .int → (∀ store va, e ≠ .tlbRefill store va) →
        (s.takeException e).pc = baseOf s + 0x180))

namespace Sys2Proof.Claims

/-- The address fields of a TLB exception (60_exceptions.md rule R941). -/
def RecordsAddress (c d : Cp0) (va : Dword) : Prop :=
  d.badVAddr = va ∧
  d.context = (c.context.extractLsb' 23 41 ++ va.extractLsb' 13 19 ++ c.context.extractLsb' 0 4 : BitVec 64) ∧
  d.xContext = (c.xContext.extractLsb' 41 23 ++ va.extractLsb' 62 2 ++ va.extractLsb' 13 35 ++
    c.xContext.extractLsb' 0 4 : BitVec 64) ∧
  d.entryHi = (va.extractLsb' 62 2 ++ c.entryHi.extractLsb' 48 14 ++ va.extractLsb' 13 35 ++
    c.entryHi.extractLsb' 0 13 : BitVec 64)

/-- The address registers keep their values. -/
def KeepsAddressRegisters (c d : Cp0) : Prop :=
  d.context = c.context ∧ d.xContext = c.xContext ∧ d.entryHi = c.entryHi ∧
  d.entryLo0 = c.entryLo0 ∧ d.entryLo1 = c.entryLo1

end Sys2Proof.Claims

/-- A fetch from a pc off a word boundary gives Address Error on the pc. An Address Error writes only BadVAddr
of the address registers. TLB Refill, Invalid and Modified write BadVAddr, the page number fields of Context
(bits 22:4) and XContext (bits 38:4, region 40:39) and EntryHi (region and VPN2), keep the PTEBase fields
and the ASID, and leave EntryLo0 and EntryLo1 open. Every other exception but a failed bound check leaves
all of them. (60_exceptions.md rules R940, R941). -/
def Obligations.FailingAddressIsRecorded : Prop :=
  ∀ (s : State) (store : Bool) (va : Dword),
    (s.pc.toNat % 4 ≠ 0 → s.fetch = .exc (.addressError false s.pc)) ∧
    RecordsAddress s.cp0 (s.takeException (.tlbRefill store va)).cp0 va ∧
    RecordsAddress s.cp0 (s.takeException (.tlbInvalid store va)).cp0 va ∧
    RecordsAddress s.cp0 (s.takeException (.mod va)).cp0 va ∧
    (s.takeException (.addressError store va)).cp0.badVAddr = va ∧
    KeepsAddressRegisters s.cp0 (s.takeException (.addressError store va)).cp0 ∧
    (∀ e ∈ [Exc.int, .ibe, .dbe, .sys, .bp, .ri, .cpU 0, .cpU 1, .cpU 2, .cpU 3, .ov, .tr, .fpe],
      (s.takeException e).cp0.badVAddr = s.cp0.badVAddr ∧
      KeepsAddressRegisters s.cp0 (s.takeException e).cp0)

/-- With coprocessor 0 usable and outside a delay slot, ERET continues at ErrorEPC and clears ERL when ERL = 1,
else at EPC and clears EXL; LLbit and LLAddr become 0; there is no delay slot; no other register, no byte of
memory and no TLB entry changes. Without coprocessor 0 it takes Coprocessor Unusable for unit 0.
(45_cp0_priv.md rule R509). -/
def Obligations.ExceptionReturnRestoresPcAndLevel : Prop :=
  ∀ s : State,
    (s.copUsable 0 = true → s.inDelaySlot = false → ∃ t, exec .eret s = .next t ∧
      t.pc = (if s.erl then s.cp0.errorEpc else s.cp0.epc) ∧ t.npc = t.pc + 4 ∧ t.inDelaySlot = false ∧
      t.llbit = false ∧ s.sameBytes t ∧
      t.cp0 = { s.cp0 with
        llAddr := 0, status := s.cp0.status &&& (if s.erl then ~~~4#32 else ~~~2#32) } ∧
      t = { s with pc := t.pc, npc := t.npc, inDelaySlot := false, llbit := false, cp0 := t.cp0,
                   stale := t.stale, afterJump := false }) ∧
    (s.copUsable 0 = false → Takes .eret s (.cpU 0))

namespace Sys2Proof.Claims

/-- Cause.PCI: a counter has overflowed with its interrupt enabled (11_cp0_registers.md rule R160). -/
def counterRequest (s : State) : Bool :=
  (s.cp0.perfCtl0.getLsbD 4 && s.cp0.perfCnt0.getLsbD 63) ||
  (s.cp0.perfCtl1.getLsbD 4 && s.cp0.perfCnt1.getLsbD 63)

/-- Cause as it reads: PCI in bit 26, IP7 to IP2 in bits 15:10 (60_exceptions.md rules R970, R971). -/
def causeValue (s : State) : Word :=
  (s.cp0.cause.extractLsb' 27 5 ++ BitVec.ofBool (counterRequest s) ++ s.cp0.cause.extractLsb' 16 10 ++
    BitVec.ofBool (s.lines.getLsbD 5 || s.cp0.cause.getLsbD 30 || counterRequest s) ++
    s.lines.extractLsb' 0 5 ++ s.cp0.cause.extractLsb' 0 10 : BitVec 32)

/-- A 32-bit register as DMFC0 reads it (11_cp0_registers.md rule R178). -/
def word64 (v : Word) : Dword := v.signExtend 64

/-- What DMFC0 reads of each register: number, select, value (10_state.md rule R40). -/
def cp0Values (s : State) : List (BitVec 5 × BitVec 3 × Dword) :=
  let c := s.cp0
  [(0, 0, word64 c.index), (1, 0, word64 c.random), (2, 0, c.entryLo0), (3, 0, c.entryLo1), (4, 0, c.context),
   (5, 0, word64 c.pageMask), (5, 1, word64 c.pageGrain), (6, 0, word64 c.wired), (7, 0, word64 c.hwrEna),
   (8, 0, c.badVAddr), (9, 0, word64 c.count), (10, 0, c.entryHi), (11, 0, word64 c.compare),
   (12, 0, word64 c.status), (12, 1, word64 c.intCtl), (12, 2, 0), (13, 0, word64 (causeValue s)),
   (14, 0, c.epc), (15, 0, 0x6303), (15, 1, word64 c.ebase)] ++
  [(16, 0, word64 c.config), (16, 1, word64 0xFEE37193), (16, 2, word64 0x80001643), (16, 3, 0xA0),
   (17, 0, c.llAddr), (20, 0, c.xContext), (22, 0, c.diagnostic), (23, 0, word64 (c.debug &&& 0x40038000)),
   (24, 0, c.depc), (25, 0, word64 c.perfCtl0), (25, 1, c.perfCnt0), (25, 2, word64 c.perfCtl1),
   (25, 3, c.perfCnt1), (26, 0, word64 c.errCtl), (27, 0, word64 c.cacheErr), (27, 1, c.cacheErr1),
   (28, 0, word64 c.tagLo), (28, 1, c.dataLo.setWidth 64), (29, 0, word64 c.tagHi), (29, 1, c.dataHi.setWidth 64),
   (30, 0, c.errorEpc), (31, 0, c.desave)]

end Sys2Proof.Claims

/-- With coprocessor 0 usable MFC0 writes the low word, sign-extended, of the register that its number and
select name in the table of R40, and DMFC0 (64-bit operations enabled) its 64-bit value, a 32-bit register
sign-extended. Cause reads its stored fields with PCI and IP computed from their sources; Debug reads only
DM and EJTAGver (outside debug mode); DataLo and DataHi read zero-extended with DMFC0; PRId and Config1 to 3
are constants, SRSCtl reads 0. A pair outside the table is refused by name. Without coprocessor 0 both take
Coprocessor Unusable for unit 0, before any other check. RDPGPR and WRPGPR move rt to rd. (45_cp0_priv.md
rules R500 to R502, R515, R523; 11_cp0_registers.md; 10_state.md rule R40; 60_exceptions.md rules R970,
R971). -/
def Obligations.MoveFromCp0ReadsTheRegister : Prop :=
  ∀ (s : State) (rt rd : BitVec 5) (sel : BitVec 3),
    (s.copUsable 0 = true →
      (∀ p ∈ cp0Values s,
        PutsGpr (.mfc0 rt p.1 p.2.1) s rt ((p.2.2.setWidth 32).signExtend 64) ∧
        (s.are64 = true → PutsGpr (.dmfc0 rt p.1 p.2.1) s rt p.2.2)) ∧
      (s.are64 = false → Takes (.dmfc0 rt rd sel) s .ri) ∧
      ((∀ p ∈ cp0Values s, (p.1, p.2.1) ≠ (rd, sel)) →
        exec (.mfc0 rt rd sel) s = .refused .noSuchCp0Register ∧
        (s.are64 = true → exec (.dmfc0 rt rd sel) s = .refused .noSuchCp0Register)) ∧
      PutsGpr (.rdpgpr rt rd) s rd (s.readGpr rt) ∧ PutsGpr (.wrpgpr rt rd) s rd (s.readGpr rt)) ∧
    (s.copUsable 0 = false → Takes (.mfc0 rt rd sel) s (.cpU 0) ∧ Takes (.dmfc0 rt rd sel) s (.cpU 0) ∧
      Takes (.rdpgpr rt rd) s (.cpU 0) ∧ Takes (.wrpgpr rt rd) s (.cpU 0))

namespace Sys2Proof.Claims

/-- The instruction completes, replacing the CP0 registers by ones with the property. -/
def PutsCp0With (i : Instr) (s : State) (good : State → Prop) : Prop :=
  ∃ t, exec i s = .next t ∧ s.writesCp0 t t.cp0 ∧ good t

/-- The 32-bit registers with plain fields: number, select, writable bits (11_cp0_registers.md). -/
def words32 : List (BitVec 5 × BitVec 3 × Word) :=
  [(0, 0, 0x3F), (5, 0, 0x01FFE000), (5, 1, 0x20000000), (6, 0, 0x3F), (7, 0, 0xF), (9, 0, 0xFFFFFFFF),
   (11, 0, 0xFFFFFFFF), (12, 1, 0x3E0), (15, 1, 0x3FFFF000), (16, 0, 0x7), (25, 0, 0x7FF), (25, 2, 0x7FF),
   (26, 0, 0xFF), (28, 0, 0xFFFFFFF0), (29, 0, 0xF)]
/-- The 64-bit registers: number, select, writable bits (11_cp0_registers.md). -/
def words64 : List (BitVec 5 × BitVec 3 × Dword) :=
  [(2, 0, 0x3FFFFFFFFFF), (3, 0, 0x3FFFFFFFFFF), (4, 0, 0xFFFFFFFFFF800000), (10, 0, 0xC000FFFFFFFFE0FF),
   (14, 0, 0xFFFFFFFFFFFFFFFF), (20, 0, 0xFFFFFE0000000000), (22, 0, 0xF1), (24, 0, 0xFFFFFFFFFFFFFFFF),
   (25, 1, 0xFFFFFFFFFFFFFFFF), (25, 3, 0xFFFFFFFFFFFFFFFF), (30, 0, 0xFFFFFFFFFFFFFFFF),
   (31, 0, 0xFFFFFFFFFFFFFFFF)]
/-- The registers a program cannot write (11_cp0_registers.md). -/
def readOnly : List (BitVec 5 × BitVec 3) :=
  [(1, 0), (8, 0), (12, 2), (15, 0), (16, 1), (16, 2), (16, 3), (17, 0), (27, 0), (27, 1), (28, 1), (29, 1)]

/-- Reading (rd, sel) gives `v`, reading any other register what it gave, but for those a write also
changes: Random by Wired, and Cause by Compare, the counters and the performance controls. -/
def OnlyReads (s t : State) (rd : BitVec 5) (sel : BitVec 3) (v : Dword) : Prop :=
  t.readCp0 rd sel = some v ∧
  (∀ r k, (r, k) ≠ (rd, sel) → ¬ (r = 1 ∧ k = 0 ∧ rd = 6) → ¬ (r = 13 ∧ k = 0 ∧ (rd = 11 ∨ rd = 25)) →
    t.readCp0 r k = s.readCp0 r k)

/-- What MTC0 moves: the low word sign-extended (93_implementation_defined.md U26; log 59). -/
def movedByMtc0 (v : Dword) : Dword := sx 32 v

/-- MTC0 does it with what it moves of rt, DMTC0 with rt. -/
def BothMoves (s : State) (rt rd : BitVec 5) (sel : BitVec 3) (good : Dword → State → Prop) : Prop :=
  PutsCp0With (.mtc0 rt rd sel) s (good (movedByMtc0 (s.readGpr rt))) ∧
  (s.are64 = true → PutsCp0With (.dmtc0 rt rd sel) s (good (s.readGpr rt))) ∧
  (s.are64 = false → Takes (.dmtc0 rt rd sel) s .ri)

end Sys2Proof.Claims

/-- With coprocessor 0 usable (and 64-bit operations for DMTC0), for each register of the table: after the
write, reading it gives the old value with the writable bits taken from rt (a 32-bit register reads
sign-extended), every other CP0 register reads as before except that a write of Wired sets Random to 63, and
no other register and no byte of memory changes. A 64-bit register takes all 64 bits from DMTC0, and from
MTC0 the low word sign-extended, as U26 rules; that this goes before the words of R178 and R503, all 64
bits, is log 59. Read-only registers keep their value; that CacheErr and CacheErr1 are among them is log 52.
Status.NMI can only be cleared and a write of Compare clears Cause.TI: these two have clauses of their own.
A write of a performance control or counter (register 25) may change Cause.PCI and IP7, so Cause is not
compared there. What a log entry is cited for is the choice of the model. (45_cp0_priv.md rules R503, R508;
11_cp0_registers.md rules R93, R112, R116, R160, R165, R166, R177, R178; 93_implementation_defined.md U26;
notes/assumptions/52.md; notes/assumptions/59.md). -/
def Obligations.MoveToCp0WritesOnlyWritableFields : Prop :=
  ∀ (s : State) (rt : BitVec 5), s.copUsable 0 = true →
    let v := s.readGpr rt
    (∀ p ∈ words32, ∀ old, s.readCp0 p.1 p.2.1 = some old → BothMoves s rt p.1 p.2.1 (fun _ t =>
      OnlyReads s t p.1 p.2.1
        (((old.setWidth 32 &&& ~~~p.2.2) ||| (v.setWidth 32 &&& p.2.2) : Word).signExtend 64))) ∧
    (∀ p ∈ words64, ∀ old, s.readCp0 p.1 p.2.1 = some old →
      BothMoves s rt p.1 p.2.1 (fun w t => OnlyReads s t p.1 p.2.1 ((old &&& ~~~p.2.2) ||| (w &&& p.2.2)))) ∧
    (∀ p ∈ readOnly, BothMoves s rt p.1 p.2 (fun _ t => t.cp0 = s.cp0)) ∧
    BothMoves s rt 6 0 (fun _ t => t.readCp0 1 0 = some 63) ∧
    BothMoves s rt 11 0 (fun _ t => t.cp0.cause = s.cp0.cause &&& ~~~0x40000000#32) ∧
    BothMoves s rt 12 0 (fun _ t => t.cp0 = { s.cp0 with
      status := (s.cp0.status &&& 0x0B270000) ||| (v.setWidth 32 &&& 0xF4D0FFFF) |||
        (s.cp0.status &&& v.setWidth 32 &&& 0x00080000) }) ∧
    BothMoves s rt 13 0 (fun _ t => t.cp0 = { s.cp0 with
      cause := (s.cp0.cause &&& 0xF77FFCFF) ||| (v.setWidth 32 &&& 0x08800300) }) ∧
    BothMoves s rt 23 0 (fun _ t => t.cp0 = { s.cp0 with
      debug := (s.cp0.debug &&& 0xEFFFFEFF) ||| (v.setWidth 32 &&& 0x10000100) }) ∧
    (∀ rd sel, s.readCp0 rd sel = none → exec (.mtc0 rt rd sel) s = .refused .noSuchCp0Register)

namespace Sys2Proof.Claims

/-- The entry the CP0 registers describe (45_cp0_priv.md rule R506). -/
def DescribedBy (e : TlbEntry) (c : Cp0) : Prop :=
  e.mask = c.pageMask.extractLsb' 13 12 ∧ e.r = c.entryHi.extractLsb' 62 2 ∧
  e.vpn2 = c.entryHi.extractLsb' 13 35 ∧ e.asid = c.entryHi.extractLsb' 0 8 ∧
  e.g = (c.entryLo0.getLsbD 0 && c.entryLo1.getLsbD 0) ∧
  e.pfn0 = c.entryLo0.extractLsb' 6 36 ∧ e.c0 = c.entryLo0.extractLsb' 3 3 ∧
  e.d0 = c.entryLo0.getLsbD 2 ∧ e.v0 = c.entryLo0.getLsbD 1 ∧
  e.pfn1 = c.entryLo1.extractLsb' 6 36 ∧ e.c1 = c.entryLo1.extractLsb' 3 3 ∧
  e.d1 = c.entryLo1.getLsbD 2 ∧ e.v1 = c.entryLo1.getLsbD 1

/-- Entry `i` becomes what the registers describe; the other entries and all else stay. -/
def WritesEntry (i : Instr) (s : State) (which : Fin 64 → Prop) : Prop :=
  ∃ t n, exec i s = .next t ∧ which n ∧ DescribedBy t.tlb[n] s.cp0 ∧
    (∀ k : Fin 64, k ≠ n → t.tlb[k] = s.tlb[k]) ∧ s.wentOn t ∧ s.sameBytes t ∧
    State.sameButFlow { s with tlb := t.tlb } t

/-- One EntryLo register from a page of an entry; the page number bits under the mask are open. -/
def LoFrom (lo : Dword) (mask : BitVec 12) (pfn : BitVec 36) (c : BitVec 3) (d v g : Bool) : Prop :=
  lo.getLsbD 0 = g ∧ lo.getLsbD 1 = v ∧ lo.getLsbD 2 = d ∧ lo.extractLsb' 3 3 = c ∧
  lo.extractLsb' 42 22 = 0 ∧
  ∀ b, b < 36 → (b < 12 ∧ mask.getLsbD b = true) ∨ lo.getLsbD (6 + b) = pfn.getLsbD b

/-- An entry matches what EntryHi holds (45_cp0_priv.md rule R504). -/
def Probed (s : State) (e : TlbEntry) : Prop := Matches s s.cp0.entryHi e

/-- The legal values of PageMask.Mask (11_cp0_registers.md rule R100). -/
def legalMasks : List (BitVec 12) := [0x000, 0x003, 0x00F, 0x03F, 0x0FF, 0x3FF, 0xFFF]

end Sys2Proof.Claims

/-- With coprocessor 0 usable and a PageMask that has a page size, TLBWI writes the entry Index names, and TLBWR
one entry from Wired to 63, with the fields of PageMask, EntryHi, EntryLo0, EntryLo1 (G is the AND of the
two); no other entry changes. TLBR fills PageMask, EntryHi and the EntryLo registers from the entry (bits
under the mask open, log 11). TLBP sets Index to the only matching entry, sets P when none matches, and
stops by name when two match (R207). Nothing else changes. That an entry whose Mask is none of the seven
legal values goes by the same rules is log 71. What a log entry is cited for is the choice of the model.
(45_cp0_priv.md rules R504 to R507; 92_eei_decisions.md D13; notes/assumptions/11.md;
notes/assumptions/71.md). -/
def Obligations.TlbWritesAndReads : Prop :=
  ∀ s : State, s.copUsable 0 = true →
    (s.cp0.pageMask.extractLsb' 13 12 ∈ legalMasks →
      WritesEntry .tlbwi s (fun n => n.val = (s.cp0.index.extractLsb' 0 6).toNat) ∧
      WritesEntry .tlbwr s (fun n => (s.cp0.wired.extractLsb' 0 6).toNat ≤ n.val)) ∧
    (s.cp0.pageMask.extractLsb' 13 12 ∉ legalMasks →
      exec .tlbwi s = .fault .illegalPageMask ∧ exec .tlbwr s = .fault .illegalPageMask) ∧
    (∀ n : Fin 64, n.val = (s.cp0.index.extractLsb' 0 6).toNat →
      let e := s.tlb[n]
      PutsCp0With .tlbr s (fun t =>
        t.cp0.pageMask = (e.mask.setWidth 32) <<< 13 ∧
        t.cp0.entryHi.extractLsb' 62 2 = e.r ∧ t.cp0.entryHi.extractLsb' 0 8 = e.asid ∧
        (∀ b, b < 35 → (b < 12 ∧ e.mask.getLsbD b = true) ∨
          t.cp0.entryHi.getLsbD (13 + b) = e.vpn2.getLsbD b) ∧
        LoFrom t.cp0.entryLo0 e.mask e.pfn0 e.c0 e.d0 e.v0 e.g ∧
        LoFrom t.cp0.entryLo1 e.mask e.pfn1 e.c1 e.d1 e.v1 e.g ∧
        t.cp0 = { s.cp0 with pageMask := t.cp0.pageMask, entryHi := t.cp0.entryHi,
                             entryLo0 := t.cp0.entryLo0, entryLo1 := t.cp0.entryLo1 })) ∧
    ((∀ i : Fin 64, ¬ Probed s s.tlb[i]) → PutsCp0With .tlbp s (fun t =>
      t.cp0.index.getLsbD 31 = true ∧ t.cp0 = { s.cp0 with index := t.cp0.index })) ∧
    (∀ i : Fin 64, Probed s s.tlb[i] → (∀ j : Fin 64, Probed s s.tlb[j] → j = i) →
      PutsCp0With .tlbp s (fun t => t.cp0 = { s.cp0 with index := BitVec.ofNat 32 i.val })) ∧
    (∀ i j : Fin 64, i ≠ j → Probed s s.tlb[i] → Probed s s.tlb[j] →
      exec .tlbp s = .fault .tlbMultipleMatch)

/-- With coprocessor 0 usable and a translated address, Index Load Tag leaves open values in TagLo, TagHi,
DataLo, DataHi, ErrCtl (bits 7:0) and Index Load Data in DataLo, DataHi, ErrCtl, changing nothing else (log
12: R163 names ErrCtl, the table of R512 does not; TagLo.SCSETI is open for the secondary cache too, which
R168 would have 0). That these four Index operations (0b00101, 0b00111, 0b11001, 0b11011) complete at a
mapped address too, where R513 (U65) says that the model refuses them, is log 22. RDHWR needs kernel mode,
CU0 or the HWREna bit: it writes the CPU number, the SYNCI step (open, log 29), Count sign-extended, or 2; a
register above 3, or one not enabled, takes Reserved Instruction. What a log entry is cited for is the
choice of the model. (45_cp0_priv.md rules R511 to R513, R516; 11_cp0_registers.md rules R163, R168;
93_implementation_defined.md U65; notes/assumptions/12.md; notes/assumptions/22.md;
notes/assumptions/29.md). -/
def Obligations.CacheLoadOperationsAndHardwareRegisters : Prop :=
  ∀ (s : State) (base rt rd : BitVec 5) (imm : BitVec 16) (g : Target),
    (s.copUsable 0 = true → s.translate (s.readGpr base + imm.signExtend 64) .load = .ok g →
      (∀ op ∈ [0b00101#5, 0b00111], PutsCp0With (.cache base op imm) s (fun t => t.cp0 = { s.cp0 with
        tagLo := t.cp0.tagLo, tagHi := t.cp0.tagHi, dataLo := t.cp0.dataLo, dataHi := t.cp0.dataHi,
        errCtl := t.cp0.errCtl } ∧ t.cp0.errCtl.toNat < 256)) ∧
      (∀ op ∈ [0b11001#5, 0b11011], PutsCp0With (.cache base op imm) s (fun t => t.cp0 = { s.cp0 with
        dataLo := t.cp0.dataLo, dataHi := t.cp0.dataHi, errCtl := t.cp0.errCtl } ∧
        t.cp0.errCtl.toNat < 256))) ∧
    (s.copUsable 0 = false → ∀ op, Takes (.cache base op imm) s (.cpU 0)) ∧
    ((s.isKernel = true ∨ s.cu 0 = true ∨ s.cp0.hwrEna.getLsbD rd.toNat = true) →
      (rd = 0 → PutsGpr (.rdhwr rt rd) s rt ((s.cp0.ebase.extractLsb' 0 10).setWidth 64)) ∧
      (rd = 1 → ∃ v, PutsGpr (.rdhwr rt rd) s rt v) ∧
      (rd = 2 → PutsGpr (.rdhwr rt rd) s rt (s.cp0.count.signExtend 64)) ∧
      (rd = 3 → PutsGpr (.rdhwr rt rd) s rt 2)) ∧
    (3 < rd.toNat → Takes (.rdhwr rt rd) s .ri) ∧
    (s.isKernel = false → s.cu 0 = false → s.cp0.hwrEna.getLsbD rd.toNat = false →
      Takes (.rdhwr rt rd) s .ri)

namespace Sys2Proof.Claims

/-- The instructions that set only EFLAG (47_custom_int.md rule R684). -/
def eflagOps : List Instr :=
  [.x86and, .x86or, .x86xor, .x86dadd, .x86add, .x86daddu, .x86addu, .x86dsub, .x86sub, .x86dsubu, .x86subu,
   .x86inc, .x86dec, .x86dsll, .x86sll, .x86dsll32, .x86dsllv, .x86sllv, .x86dsrl, .x86srl, .x86dsrl32,
   .x86dsrlv, .x86srlv, .x86dsra, .x86sra, .x86dsra32, .x86dsrav, .x86srav, .x86drotr, .x86rotr, .x86drotr32,
   .x86drotrv, .x86rotrv]

/-- The instruction completes, leaving `x` as the x86-translation state and all else alone. -/
def PutsX86 (i : Instr) (s : State) (x : X86) : Prop := ∃ t, exec i s = .next t ∧ s.writesX86 t x

end Sys2Proof.Claims

/-- That these instructions run at all, without a usability check and without an Integer Overflow of X86DADD,
X86ADD, X86DSUB and X86SUB, is log 50: R684 would refuse them, and their exceptions are not in the source.
The flag-setting instructions complete and change only EFLAG, to a value the source does not give. X86MTFLAG
writes EFLAG with a function of EFLAG and a general register (which one is open), X86MFFLAG writes rd with a
function of EFLAG, both functions open (log 50). SETTM and CLRTM set and clear the stack mode; that this
changes neither FCSR bit 21 nor the numbers of the floating-point registers is log 50. INCTOP and DECTOP
step TOP modulo 8, a width and a wrap that log 51 presumes. MTTOP replaces TOP (source operand unknown:
open), MFTOP writes TOP, zero-extended (log 50), to rd. Nothing else changes. What a log entry is cited for
is the choice of the model. (47_custom_int.md rules R640 to R682, R684; 10_state.md rule R60;
notes/assumptions/50.md; notes/assumptions/51.md). -/
def Obligations.TranslatedInstructionsOfTheX86Group : Prop :=
  ∀ (s : State) (rd : BitVec 5),
    (∀ i ∈ eflagOps, ∃ f, PutsX86 i s { s.x86 with eflag := f }) ∧
    PutsX86 .settm s { s.x86 with tm := true } ∧ PutsX86 .clrtm s { s.x86 with tm := false } ∧
    PutsX86 .inctop s { s.x86 with top := BitVec.ofNat 3 (s.x86.top.toNat + 1) } ∧
    PutsX86 .dectop s { s.x86 with top := BitVec.ofNat 3 (s.x86.top.toNat + 7) } ∧
    (∃ n, PutsX86 .mttop s { s.x86 with top := n }) ∧
    PutsGpr (.mftop rd) s rd (s.x86.top.setWidth 64) ∧
    (∃ rs, PutsX86 .x86mtflag s
      { s.x86 with eflag := Config.x86FlagsWritten s.freeCounter s.x86.eflag (s.readGpr rs) }) ∧
    PutsGpr (.x86mfflag rd) s rd (Config.x86FlagsRead s.freeCounter s.x86.eflag)

/-- SDBBP (debug mode out of scope), X86J, X86LOOP, SETTAG (operation not in the source), CAMPV, CAMPI, CAMWI,
RAMRI (table format not in the source), CVT.D.LD, CVT.LD.D, CVT.UD.D (operation not in the source) answer a
refusal of their own name from every state. DERET (debug mode), DI and EI (disabled, behaviour not given)
take Coprocessor Unusable for unit 0 where coprocessor 0 is not usable, and are refused by name where it is.
(00_scope.md rule R8; 30_encoding.md rule R283; 45_cp0_priv.md rules R500, R510, R517, R520, R521;
60_exceptions.md rule R947; 47_custom_int.md rules R684, R690; 49_fpu.md rules R880 to R882). -/
def Obligations.StopsTheSpecLeavesWithoutAnEffect : Prop :=
  ∀ (s : State) (code : BitVec 20) (rt : BitVec 5),
    exec (.sdbbp code) s = .refused .debugMode ∧
    (s.copUsable 0 = true → exec .deret s = .refused .debugMode ∧
      exec (.di rt) s = .refused .disabledInstruction ∧ exec (.ei rt) s = .refused .disabledInstruction) ∧
    (s.copUsable 0 = false → Takes .deret s (.cpU 0) ∧ Takes (.di rt) s (.cpU 0) ∧ Takes (.ei rt) s (.cpU 0)) ∧
    (∀ i ∈ [Instr.x86j, .x86loop, .settag], exec i s = .refused .x86OperationUnknown) ∧
    (∀ i ∈ [Instr.campv, .campi, .camwi, .ramri], exec i s = .refused .lookupTableUnknown) ∧
    (∀ i ∈ [Instr.cvtDLd, .cvtLdD, .cvtUdD], exec i s = .refused .extendedDoubleUnknown)

namespace Sys2Proof.Claims

/-- An instruction with the four floating-point fields fr, ft, fs, fd (some unused). -/
abbrev FpReg4 := BitVec 5 → BitVec 5 → BitVec 5 → BitVec 5 → Instr

/-- The arithmetic of format S (49_fpu.md section 2). -/
def singleOps : List (FpReg4 × FpOp) :=
  [(fun _ _ s d => .absS s d, .abs), (fun _ _ s d => .negS s d, .neg), (fun _ _ s d => .sqrtS s d, .sqrt),
   (fun _ _ s d => .recipS s d, .recip), (fun _ _ s d => .rsqrtS s d, .rsqrt),
   (fun _ t s d => .addS t s d, .add), (fun _ t s d => .subS t s d, .sub),
   (fun _ t s d => .mulS t s d, .mul), (fun _ t s d => .divS t s d, .div),
   (.maddS, .madd), (.msubS, .msub), (.nmaddS, .nmadd), (.nmsubS, .nmsub)]
/-- The arithmetic of format D (49_fpu.md section 2). -/
def doubleOps : List (FpReg4 × FpOp) :=
  [(fun _ _ s d => .absD s d, .abs), (fun _ _ s d => .negD s d, .neg), (fun _ _ s d => .sqrtD s d, .sqrt),
   (fun _ _ s d => .recipD s d, .recip), (fun _ _ s d => .rsqrtD s d, .rsqrt),
   (fun _ t s d => .addD t s d, .add), (fun _ t s d => .subD t s d, .sub),
   (fun _ t s d => .mulD t s d, .mul), (fun _ t s d => .divD t s d, .div),
   (.maddD, .madd), (.msubD, .msub), (.nmaddD, .nmadd), (.nmsubD, .nmsub)]
/-- The arithmetic of format PS (49_fpu.md section 2). -/
def pairedOps : List (FpReg4 × FpOp) :=
  [(fun _ _ s d => .absPs s d, .abs), (fun _ _ s d => .negPs s d, .neg),
   (fun _ t s d => .addPs t s d, .add), (fun _ t s d => .subPs t s d, .sub),
   (fun _ t s d => .mulPs t s d, .mul),
   (.maddPs, .madd), (.msubPs, .msub), (.nmaddPs, .nmadd), (.nmsubPs, .nmsub)]

/-- Coprocessor 1 is usable and the registers may be named: FR = 1, or every number even. -/
def FpReady (s : State) (regs : List (BitVec 5)) : Prop :=
  s.cu 1 = true ∧ (s.fr = true ∨ ∀ r ∈ regs, r.getLsbD 0 = false)

/-- The floating-point registers an arithmetic instruction names. -/
def namedRegisters (op : FpOp) (fr ft fs fd : BitVec 5) : List (BitVec 5) := fd :: [fs, ft, fr].take op.arity

/-- One of the register numbers is odd. -/
def NamesOdd (regs : List (BitVec 5)) : Prop := ∃ r ∈ regs, r.getLsbD 0 = true

/-- The instruction stops: with Status.FR = 0 it names an odd register or needs 64-bit registers. -/
def OddRegister (i : Instr) (s : State) : Prop := exec i s = .fault .floatRegisterPair

/-- No signalled condition traps: not Unimplemented, and none enabled (10_state.md rule R57). -/
def Untrapped (s : State) (c : Conds) : Prop :=
  c.getLsbD 5 = false ∧ c.setWidth 5 &&& s.fcsr.extractLsb' 7 5 = 0#5

/-- FCSR after an instruction that signals `c` and does not trap. -/
def fcsrAfter (f : Word) (c : Conds) : Word :=
  (f &&& 0xFFFC0FFF) ||| (c.setWidth 32 <<< 12) ||| ((c.setWidth 5).setWidth 32 <<< 2)

/-- The trap of an instruction that signals `c`: only Cause is written before the exception. -/
def FpTraps (i : Instr) (s : State) (c : Conds) : Prop :=
  ∃ f, exec i s = .next ((s.setFcsr f).takeException .fpe) ∧
    (∀ b, b < 12 ∨ 18 ≤ b → f.getLsbD b = s.fcsr.getLsbD b) ∧
    (c.getLsbD 5 = false → f.extractLsb' 12 6 = c) ∧ (c.getLsbD 5 = true → f.getLsbD 17 = true)

/-- The exception procedure: the result of `done`, or the trap (49_fpu.md rule R805). -/
def FpEnds (i : Instr) (s : State) (c : Conds) (done : State → Prop) : Prop :=
  (Untrapped s c → ∃ t, exec i s = .next t ∧ done t) ∧ (¬ Untrapped s c → FpTraps i s c)

/-- The single in a register. -/
def singleOf (v : Dword) : Nat := (v.setWidth 32).toNat
/-- The upper single of a pair. -/
def upperOf (v : Dword) : Nat := (v.extractLsb' 32 32).toNat

/-- The rational number a finite number stands for. -/
def valueOf : Machine.Num → ℚ
  | .inf _ => 0
  | .fin neg m e => (if neg then -1 else 1) * (m : ℚ) * (2 : ℚ) ^ e

/-- A bit pattern is a finite number the hardware handles, with sign `neg` and value `x`. -/
def IsFinite (f : Fmt) (v : Nat) (neg : Bool) (x : ℚ) : Prop :=
  f.isDenormal v = false ∧ ∃ m e, f.toNum v = .fin neg m e ∧ valueOf (.fin neg m e) = x

/-- A bit pattern is a finite number the hardware handles, and its value is `x`. -/
def Stands (f : Fmt) (v : Nat) (x : ℚ) : Prop := ∃ neg, IsFinite f v neg x

/-- The bit patterns of a format that the default results use, by sign, and its default quiet NaN (49_fpu.md
rules R801, R802). -/
structure Encodings where
  inf : Bool → Nat
  largest : Bool → Nat
  smallest : Bool → Nat
  zero : Bool → Nat
  nan : Nat
/-- Single. -/
def singleBits : Encodings where
  inf := fun n => if n then 0xFF800000 else 0x7F800000
  largest := fun n => if n then 0xFF7FFFFF else 0x7F7FFFFF
  smallest := fun n => if n then 0x80800000 else 0x00800000
  zero := fun n => if n then 0x80000000 else 0
  nan := 0x7FBFFFFF
/-- Double. -/
def doubleBits : Encodings where
  inf := fun n => if n then 0xFFF0000000000000 else 0x7FF0000000000000
  largest := fun n => if n then 0xFFEFFFFFFFFFFFFF else 0x7FEFFFFFFFFFFFFF
  smallest := fun n => if n then 0x8010000000000000 else 0x0010000000000000
  zero := fun n => if n then 0x8000000000000000 else 0
  nan := 0x7FF7FFFFFFFFFFFF
/-- The two formats. -/
def formats : List (Fmt × Encodings) := [(.single, singleBits), (.double, doubleBits)]

/-- The overflow rows of 49_fpu.md rule R806. -/
def overflowDefault (k : Encodings) (rm : Rounding) (neg : Bool) : Nat :=
  match rm, neg with
  | .nearest, _ => k.inf neg
  | .zero, _ => k.largest neg
  | .up, false => k.inf false
  | .up, true => k.largest true
  | .down, false => k.largest false
  | .down, true => k.inf true
/-- The underflow rows of 49_fpu.md rule R806. -/
def tinyDefault (k : Encodings) (rm : Rounding) (neg : Bool) : Nat :=
  match rm, neg with
  | .nearest, _ => k.zero neg
  | .zero, _ => k.zero neg
  | .up, false => k.smallest false
  | .up, true => k.zero true
  | .down, false => k.zero false
  | .down, true => k.smallest true

/-- The integer `t` is the real number `r` rounded in a mode (10_state.md rule R58). -/
def IntegerOf (rm : Rounding) (r : ℝ) (t : ℤ) : Prop :=
  match rm with
  | .down => t = ⌊r⌋
  | .up => t = ⌈r⌉
  | .zero => t = if r < 0 then ⌈r⌉ else ⌊r⌋
  | .nearest => 2 * |(t : ℝ) - r| ≤ 1 ∧ (2 * |(t : ℝ) - r| = 1 → t % 2 = 0)

/-- `y` is the real number `r` rounded to the format's precision with unbounded exponents. -/
def RoundedUnbounded (f : Fmt) (rm : Rounding) (r y : ℝ) : Prop :=
  ∃ k t : ℤ, (2 : ℝ) ^ f.fracBits * (2 : ℝ) ^ k ≤ |r| ∧ |r| < (2 : ℝ) ^ (f.fracBits + 1) * (2 : ℝ) ^ k ∧
    IntegerOf rm (r / (2 : ℝ) ^ k) t ∧ y = t * (2 : ℝ) ^ k

/-- `o` is the real number `r`, not zero, rounded by 49_fpu.md rules R804, R806, R807 (c), R809: with `y` rounded
with unbounded exponents, a tiny `y` is Unimplemented or flushed, a too large one overflows, else `y` is the
result, Inexact if it is not `r`. -/
def RoundsByTable (f : Fmt) (k : Encodings) (env : FpEnv) (o : FpOut) (r : ℝ) : Prop :=
  r ≠ 0 → ∃ y neg, RoundedUnbounded f env.rounding r y ∧ (neg = true ↔ r < 0) ∧
    (|y| < (2 : ℝ) ^ (1 - f.bias) → env.flush = true → o = ⟨condU ||| condI, tinyDefault k env.rounding neg⟩) ∧
    (|y| < (2 : ℝ) ^ (1 - f.bias) → env.flush = false → o.conds = condE) ∧
    ((2 : ℝ) ^ (f.bias + 1) ≤ |y| → o = ⟨condO ||| condI, overflowDefault k env.rounding neg⟩) ∧
    ((2 : ℝ) ^ (1 - f.bias) ≤ |y| → |y| < (2 : ℝ) ^ (f.bias + 1) →
      (y = r → o.conds = 0) ∧ (y ≠ r → o.conds = condI) ∧ o.bits < 2 ^ (f.expBits + f.fracBits + 1) ∧
      ∃ q : ℚ, IsFinite f o.bits neg q ∧ (q : ℝ) = y)

/-- `o` is the exact result `r` rounded; a zero has the sign given (49_fpu.md rule R804). -/
def ResultOf (f : Fmt) (k : Encodings) (env : FpEnv) (o : FpOut) (zeroSign : Bool) (r : ℝ) : Prop :=
  (r = 0 → o = ⟨0, k.zero zeroSign⟩) ∧ RoundsByTable f k env o r

/-- The sign of a zero sum of numbers with signs `p` and `q` (49_fpu.md rule R804). -/
def sumSign (rm : Rounding) (p q : Bool) : Bool := if p = q then p else rm == .down

/-- Number `i` of the positive numbers that the precision of a format gives with unbounded exponents, in rising
order: the next number is one unit of the last place away. -/
def gridNumber (f : Fmt) (i : ℤ) : ℝ :=
  ((2 : ℝ) ^ f.fracBits + ((i % 2 ^ f.fracBits : ℤ) : ℝ)) * (2 : ℝ) ^ (i / 2 ^ f.fracBits)

/-- Number `j` lies within `n` units of the last place of the positive real `r`, counted in neighbouring numbers as
the examples of 49_fpu.md rules R839 to R842 count them. -/
def WithinUnits (f : Fmt) (n : Nat) (r : ℝ) (j : ℤ) : Prop :=
  ∃ i : ℤ, gridNumber f i ≤ r ∧ r < gridNumber f (i + 1) ∧ j ≤ i + n ∧
    (i - n < j ∨ (j = i - n ∧ gridNumber f i = r))

/-- The result is number `j` with a sign, if it is neither tiny nor too large, and `c` is signalled; else the
default of 49_fpu.md rules R806, R807 (c). -/
def GivesNumber (f : Fmt) (k : Encodings) (env : FpEnv) (o : FpOut) (neg : Bool) (j : ℤ) (c : Conds) : Prop :=
  let y := gridNumber f j
  (y < (2 : ℝ) ^ (1 - f.bias) → env.flush = true → o = ⟨condU ||| condI, tinyDefault k env.rounding neg⟩) ∧
  (y < (2 : ℝ) ^ (1 - f.bias) → env.flush = false → o.conds = condE) ∧
  ((2 : ℝ) ^ (f.bias + 1) ≤ y → o = ⟨condO ||| condI, overflowDefault k env.rounding neg⟩) ∧
  ((2 : ℝ) ^ (1 - f.bias) ≤ y → y < (2 : ℝ) ^ (f.bias + 1) →
    o.conds = c ∧ o.bits < 2 ^ (f.expBits + f.fracBits + 1) ∧
    ∃ q : ℚ, IsFinite f o.bits neg q ∧ |(q : ℝ)| = y)

/-- Inexact is signalled for a result `r` that the precision does not hold, and for another by an open choice
(49_fpu.md rules R839 to R842). -/
def InexactOrOpen (f : Fmt) (r : ℝ) (noisy : Bool) (c : Conds) : Prop :=
  ((∃ i, gridNumber f i = r) → c = if noisy then condI else 0) ∧ ((¬ ∃ i, gridNumber f i = r) → c = condI)

/-- Every choice gives a number within `n` units of the last place of the magnitude `r`, and every such number is
given by some choice (49_fpu.md rules R839 to R842). -/
def Approximates (f : Fmt) (k : Encodings) (env : FpEnv) (n : Nat) (run : Nat → Bool → FpOut) (neg : Bool)
    (r : ℝ) : Prop :=
  (∀ pick noisy, ∃ j c, WithinUnits f n r j ∧ InexactOrOpen f r noisy c ∧
    GivesNumber f k env (run pick noisy) neg j c) ∧
  (∀ j noisy, WithinUnits f n r j → ∃ pick c, InexactOrOpen f r noisy c ∧
    GivesNumber f k env (run pick noisy) neg j c)

/-- The arithmetic of a format on finite operands `x`, `y`, `z` with signs `p`, `q`, `w` (49_fpu.md rules R804,
R812 to R847). -/
def ArithmeticIsExact (f : Fmt) (k : Encodings) : Prop :=
  ∀ (env : FpEnv) (pick : Nat) (noisy : Bool) (a b c : Nat) (p q w : Bool) (x y z : ℚ),
    IsFinite f a p x → IsFinite f b q y → IsFinite f c w z →
    let o (op : FpOp) : FpOut := f.operate env pick noisy op a b c
    let near (op : FpOp) : Nat → Bool → FpOut := fun pick noisy => f.operate env pick noisy op a b c
    let is (out : FpOut) (zeroSign : Bool) (r : ℚ) : Prop := ResultOf f k env out zeroSign ((r : ℚ) : ℝ)
    let pq := p ^^ q
    let rm := env.rounding
    (∃ v, o .abs = ⟨0, v⟩ ∧ IsFinite f v false |x|) ∧ (∃ v, o .neg = ⟨0, v⟩ ∧ IsFinite f v (!p) (-x)) ∧
    is (o .add) (sumSign rm p q) (x + y) ∧ is (o .sub) (sumSign rm p (!q)) (x - y) ∧ is (o .mul) pq (x * y) ∧
    is (o .madd) (sumSign rm pq w) (x * y + z) ∧ is (o .msub) (sumSign rm pq (!w)) (x * y - z) ∧
    (∃ m, is m (sumSign rm pq w) (x * y + z) ∧ o .nmadd = ⟨m.conds, f.flipSign m.bits⟩) ∧
    (∃ m, is m (sumSign rm pq (!w)) (x * y - z) ∧ o .nmsub = ⟨m.conds, f.flipSign m.bits⟩) ∧
    (y ≠ 0 → is (o .div) pq (x / y)) ∧
    (0 ≤ x → ResultOf f k env (o .sqrt) p (Real.sqrt (x : ℝ))) ∧
    (x ≠ 0 → Approximates f k env 1 (near .recip) p ((|1 / x| : ℚ) : ℝ)) ∧
    (0 < x → Approximates f k env 2 (near .rsqrt) false (1 / Real.sqrt (x : ℝ)))

/-- Invalid Operation with its default result (49_fpu.md rules R806, R808). -/
def Encodings.invalid (k : Encodings) : FpOut := ⟨condV, k.nan⟩
/-- An infinite result that signals nothing. -/
def Encodings.infinite (k : Encodings) (neg : Bool) : FpOut := ⟨0, k.inf neg⟩
/-- Divide by zero with its default result (49_fpu.md rules R806, R809). -/
def Encodings.divided (k : Encodings) (neg : Bool) : FpOut := ⟨condZ, k.inf neg⟩

/-- The product of the two operands is an infinity of sign `n`. -/
def ProductInfinite (f : Fmt) (k : Encodings) (a b : Nat) (n : Bool) : Prop :=
  ∃ p q, n = (p ^^ q) ∧ ((a = k.inf p ∧ b = k.inf q) ∨ (∃ y, a = k.inf p ∧ IsFinite f b q y ∧ y ≠ 0) ∨
    (∃ x, IsFinite f a p x ∧ x ≠ 0 ∧ b = k.inf q))
/-- The product of the two operands is zero times infinity. -/
def ProductInvalid (f : Fmt) (k : Encodings) (a b : Nat) : Prop :=
  ∃ p q, (a = k.inf p ∧ IsFinite f b q 0) ∨ (IsFinite f a p 0 ∧ b = k.inf q)

/-- The operand is one the hardware does not handle (49_fpu.md rule R807 (a), (b)). -/
def Unhandled (f : Fmt) (x : Nat) : Prop := f.isDenormal x = true ∨ f.isQuiet x = true

/-- The operations with an infinity, a zero divisor or a NaN among their operands (49_fpu.md rules R804, R806 to
R809). -/
def SpecialOperands (f : Fmt) (k : Encodings) : Prop :=
  ∀ (env : FpEnv) (pick : Nat) (noisy : Bool) (a b c : Nat) (p q w : Bool),
    let o (op : FpOp) : FpOut := f.operate env pick noisy op a b c
    let pq := p ^^ q
    (a = k.inf p → o .abs = k.infinite false ∧ o .neg = k.infinite (!p) ∧ o .recip = ⟨0, k.zero p⟩ ∧
      o .sqrt = (if p then k.invalid else k.infinite false) ∧
      o .rsqrt = (if p then k.invalid else ⟨0, k.zero false⟩)) ∧
    (a = k.inf p → b = k.inf q →
      o .add = (if p = q then k.infinite p else k.invalid) ∧
      o .sub = (if p = q then k.invalid else k.infinite p) ∧ o .mul = k.infinite pq ∧ o .div = k.invalid) ∧
    (∀ y, a = k.inf p → IsFinite f b q y → o .add = k.infinite p ∧ o .sub = k.infinite p ∧
      (y = 0 → o .mul = k.invalid) ∧ (y ≠ 0 → o .mul = k.infinite pq) ∧ o .div = k.infinite pq) ∧
    (∀ x, IsFinite f a p x → b = k.inf q → o .add = k.infinite q ∧ o .sub = k.infinite (!q) ∧
      (x = 0 → o .mul = k.invalid) ∧ (x ≠ 0 → o .mul = k.infinite pq) ∧ o .div = ⟨0, k.zero pq⟩) ∧
    (∀ x, IsFinite f a p x → b = k.zero q → (x = 0 → o .div = k.invalid) ∧ (x ≠ 0 → o .div = k.divided pq)) ∧
    (a = k.zero p → o .recip = k.divided p ∧ o .rsqrt = k.divided p) ∧
    (∀ x, IsFinite f a p x → x < 0 → o .sqrt = k.invalid ∧ o .rsqrt = k.invalid) ∧
    (ProductInvalid f k a b → (c = k.inf w ∨ ∃ z, IsFinite f c w z) →
      ∀ op ∈ [FpOp.madd, .msub, .nmadd, .nmsub], o op = k.invalid) ∧
    (ProductInfinite f k a b p → ∀ z, IsFinite f c w z → o .madd = k.infinite p ∧ o .msub = k.infinite p ∧
      o .nmadd = k.infinite (!p) ∧ o .nmsub = k.infinite (!p)) ∧
    (ProductInfinite f k a b p → c = k.inf w →
      o .madd = (if p = w then k.infinite p else k.invalid) ∧
      o .msub = (if p = w then k.invalid else k.infinite p) ∧
      o .nmadd = (if p = w then k.infinite (!p) else k.invalid) ∧
      o .nmsub = (if p = w then k.invalid else k.infinite (!p))) ∧
    (∀ x y, IsFinite f a p x → IsFinite f b q y → c = k.inf w → o .madd = k.infinite w ∧
      o .msub = k.infinite (!w) ∧ o .nmadd = k.infinite (!w) ∧ o .nmsub = k.infinite w) ∧
    (∀ op : FpOp, let vs := [a, b, c].take op.arity
      ((∃ v ∈ vs, Unhandled f v) → (o op).conds = condE) ∧
      ((∀ v ∈ vs, ¬ Unhandled f v) → (∃ v ∈ vs, f.isSignaling v = true) → o op = k.invalid))

/-- Writes a 32-bit result, the upper half open, and FCSR. -/
def WritesLow (s : State) (fd : BitVec 5) (v : Word) (f : Word) (t : State) : Prop :=
  ∃ high : Word, s.writesFprFcsr t fd (high ++ v) f

end Sys2Proof.Claims

/-- With coprocessor 1 usable and legal register numbers (FR = 1, or even numbers and no PS), each arithmetic
instruction computes Fmt.operate: on finite operands ABS and NEG are exact, and ADD, SUB, MUL, DIV, SQRT,
MADD, MSUB give the exact real result rounded once by the table of R806 (RoundsByTable): rounded with
unbounded exponents in the mode, a tiny result is Unimplemented or, with FS = 1 and the U and I enables 0
(R807 (c)), flushed with U and I, a too large one signals O and I with its default by mode, else it is
written, Inexact if it differs. A zero result has the sign of R804. NMADD and NMSUB negate the rounded
result (log 55). RECIP and RSQRT give a number at most 1 and 2 units of the last place from the exact
result, counted in neighbouring numbers (log 72), any of them by an open choice (log 4); Inexact, open for
an exact result, and the tiny and too large outcomes follow that number. Infinities, zero divisors and NaNs
give what R807 to R809 say: Invalid with the quiet NaN, Divide by Zero with the signed infinity,
Unimplemented for a quiet NaN or denormalised operand. If no signalled condition is enabled and none is
Unimplemented, the instruction writes Cause, adds the Flags, writes fd (S: bits 63:32 open) and changes
nothing else. Otherwise it writes only Cause and takes the floating-point exception. With coprocessor 1
unusable it takes Coprocessor Unusable; an odd number among those it names, or PS, with FR = 0 stops by name
(log 54). What a log entry is cited for is the choice of the model. (49_fpu.md rules R801 to R847;
10_state.md rules R46, R47, R53, R58; 92_eei_decisions.md D12; notes/assumptions/4.md;
notes/assumptions/54.md; notes/assumptions/55.md; notes/assumptions/72.md). -/
def Obligations.FpArithmeticFollowsTheExceptionProcedure : Prop :=
  (∀ p ∈ formats, ArithmeticIsExact p.1 p.2 ∧ SpecialOperands p.1 p.2) ∧
  ∀ (s : State) (fr ft fs fd : BitVec 5),
    s.fpEnv = ⟨[Rounding.nearest, .zero, .up, .down].getD (s.fcsr.extractLsb' 0 2).toNat .nearest,
      s.fcsr.getLsbD 24 && !s.fcsr.getLsbD 8 && !s.fcsr.getLsbD 7⟩ ∧
    let run (f : Fmt) (op : FpOp) (x : Dword → Nat) : FpOut := f.operate s.fpEnv s.recipPick s.recipNoisy op
      (x (s.readFpr fs)) (x (s.readFpr ft)) (x (s.readFpr fr))
    (∀ p ∈ singleOps, FpReady s (namedRegisters p.2 fr ft fs fd) → let o := run .single p.2 singleOf
      FpEnds (p.1 fr ft fs fd) s o.conds
        (WritesLow s fd (BitVec.ofNat 32 o.bits) (fcsrAfter s.fcsr o.conds))) ∧
    (∀ p ∈ doubleOps, FpReady s (namedRegisters p.2 fr ft fs fd) → let o := run .double p.2 BitVec.toNat
      FpEnds (p.1 fr ft fs fd) s o.conds
        (fun t => s.writesFprFcsr t fd (BitVec.ofNat 64 o.bits) (fcsrAfter s.fcsr o.conds))) ∧
    (s.cu 1 = true → s.fr = true → ∀ p ∈ pairedOps, let l := run .single p.2 singleOf
      let u := run .single p.2 upperOf
      FpEnds (p.1 fr ft fs fd) s (u.conds ||| l.conds)
        (fun t => s.writesFprFcsr t fd (BitVec.ofNat 32 u.bits ++ BitVec.ofNat 32 l.bits)
          (fcsrAfter s.fcsr (u.conds ||| l.conds)))) ∧
    (s.cu 1 = false → ∀ p ∈ singleOps ++ doubleOps ++ pairedOps, Takes (p.1 fr ft fs fd) s (.cpU 1)) ∧
    (s.cu 1 = true → s.fr = false →
      (∀ p ∈ singleOps ++ doubleOps, NamesOdd (namedRegisters p.2 fr ft fs fd) → OddRegister (p.1 fr ft fs fd) s) ∧
      ∀ p ∈ pairedOps, OddRegister (p.1 fr ft fs fd) s)

namespace Sys2Proof.Claims

/-- A compare. -/
abbrev FpCmp := BitVec 5 → BitVec 5 → BitVec 3 → Instr

/-- C.cond.S, C.cond.D, C.cond.PS by condition number (49_fpu.md rule R848). -/
def compares : List (BitVec 4 × FpCmp × FpCmp × FpCmp) :=
  [(0, .cFS, .cFD, .cFPs), (1, .cUnS, .cUnD, .cUnPs), (2, .cEqS, .cEqD, .cEqPs),
   (3, .cUeqS, .cUeqD, .cUeqPs), (4, .cOltS, .cOltD, .cOltPs), (5, .cUltS, .cUltD, .cUltPs),
   (6, .cOleS, .cOleD, .cOlePs), (7, .cUleS, .cUleD, .cUlePs), (8, .cSfS, .cSfD, .cSfPs),
   (9, .cNgleS, .cNgleD, .cNglePs), (10, .cSeqS, .cSeqD, .cSeqPs), (11, .cNglS, .cNglD, .cNglPs),
   (12, .cLtS, .cLtD, .cLtPs), (13, .cNgeS, .cNgeD, .cNgePs), (14, .cLeS, .cLeD, .cLePs),
   (15, .cNgtS, .cNgtD, .cNgtPs)]

/-- The result of condition `k` on the bit patterns `x`, `y` (49_fpu.md rule R848). -/
def condResult (f : Fmt) (k : BitVec 4) (x y : Nat) : Bool :=
  if f.isNan x || f.isNan y then k.getLsbD 0
  else (k.getLsbD 2 && ((f.toNum x).compare (f.toNum y)).1) ||
    (k.getLsbD 1 && ((f.toNum x).compare (f.toNum y)).2)
/-- The condition it signals. -/
def condSignal (f : Fmt) (k : BitVec 4) (x y : Nat) : Conds :=
  if f.isSignaling x || f.isSignaling y || (k.getLsbD 3 && (f.isNan x || f.isNan y)) then 16#6 else 0#6

/-- FCSR's bit of a condition code. -/
def codeBit (cc : Nat) : Nat := if cc = 0 then 23 else 24 + cc

/-- FCSR of `t`: Cause and Flags of `c`, the condition codes in `codes` as given, the rest as before. -/
def CodesWritten (s : State) (c : Conds) (codes : List (Nat × Bool)) (t : State) : Prop :=
  s.writesFcsr t t.fcsr ∧ ∀ b, b < 32 → t.fcsr.getLsbD b =
    ((codes.find? (fun p => codeBit p.1 == b)).map Prod.snd).getD ((fcsrAfter s.fcsr c).getLsbD b)

end Sys2Proof.Claims

/-- With coprocessor 1 usable and legal register numbers, C.cond compares fs with ft: its result is cond bit 2
if less, bit 1 if equal, bit 0 if unordered (a NaN operand), and it signals Invalid for a signaling NaN, or
for unordered operands when cond bit 3 is set. If Invalid is not enabled, FCC[cc] (PS with even cc: FCC[cc]
from the lower, FCC[cc + 1] from the upper halves) takes the result, Cause and Flags are written and nothing
else changes; otherwise only Cause is written and the exception is taken. PS with an odd cc leaves the
condition codes open (log 6). An odd number or PS with FR = 0 stops by name (log 54). What a log entry is
cited for is the choice of the model. (49_fpu.md rules R848 to R851; notes/assumptions/6.md;
notes/assumptions/54.md). -/
def Obligations.ComparesWriteOneConditionCode : Prop :=
  ∀ (s : State) (ft fs : BitVec 5) (cc : BitVec 3), ∀ p ∈ compares,
    let a := s.readFpr fs
    let b := s.readFpr ft
    (FpReady s [ft, fs] →
      FpEnds (p.2.1 ft fs cc) s (condSignal .single p.1 (singleOf a) (singleOf b))
        (CodesWritten s (condSignal .single p.1 (singleOf a) (singleOf b))
          [(cc.toNat, condResult .single p.1 (singleOf a) (singleOf b))]) ∧
      FpEnds (p.2.2.1 ft fs cc) s (condSignal .double p.1 a.toNat b.toNat)
        (CodesWritten s (condSignal .double p.1 a.toNat b.toNat)
          [(cc.toNat, condResult .double p.1 a.toNat b.toNat)]) ∧
      (s.fr = true →
        let c := condSignal .single p.1 (upperOf a) (upperOf b) |||
          condSignal .single p.1 (singleOf a) (singleOf b)
        FpEnds (p.2.2.2 ft fs cc) s c (fun t =>
          (cc.getLsbD 0 = false → CodesWritten s c
            [(cc.toNat, condResult .single p.1 (singleOf a) (singleOf b)),
             (cc.toNat + 1, condResult .single p.1 (upperOf a) (upperOf b))] t) ∧
          (cc.getLsbD 0 = true → s.writesFcsr t t.fcsr ∧
            t.fcsr &&& 0x017FFFFF = fcsrAfter s.fcsr c &&& 0x017FFFFF)))) ∧
    (s.cu 1 = false → Takes (p.2.1 ft fs cc) s (.cpU 1) ∧ Takes (p.2.2.1 ft fs cc) s (.cpU 1) ∧
      Takes (p.2.2.2 ft fs cc) s (.cpU 1)) ∧
    (s.cu 1 = true → s.fr = false → OddRegister (p.2.2.2 ft fs cc) s ∧
      (NamesOdd [ft, fs] → OddRegister (p.2.1 ft fs cc) s ∧ OddRegister (p.2.2.1 ft fs cc) s))

namespace Sys2Proof.Claims

/-- A source operand: its format and how it is read from a register. -/
def sourceOf : Bool → Fmt × (Dword → Nat)
  | false => (.single, singleOf)
  | true => (.double, BitVec.toNat)

/-- Conversions to an integer: constructor, source is D, result is L, mode (none: FCSR.RM). -/
def toIntOps : List (Reg2 × Bool × Bool × Option Rounding) :=
  [(.cvtWS, false, false, none), (.cvtWD, true, false, none), (.cvtLS, false, true, none),
   (.cvtLD, true, true, none), (.roundWS, false, false, some .nearest), (.roundWD, true, false, some .nearest),
   (.roundLS, false, true, some .nearest), (.roundLD, true, true, some .nearest),
   (.truncWS, false, false, some .zero), (.truncWD, true, false, some .zero),
   (.truncLS, false, true, some .zero), (.truncLD, true, true, some .zero),
   (.ceilWS, false, false, some .up), (.ceilWD, true, false, some .up), (.ceilLS, false, true, some .up),
   (.ceilLD, true, true, some .up), (.floorWS, false, false, some .down), (.floorWD, true, false, some .down),
   (.floorLS, false, true, some .down), (.floorLD, true, true, some .down)]

/-- The outcome on a screened operand (49_fpu.md rules R807, R808). -/
def Screened (f : Fmt) (x default : Nat) (o : FpOut) : FpOut :=
  if f.isDenormal x || f.isQuiet x then ⟨32#6, 0⟩
  else if f.isSignaling x then ⟨16#6, default⟩
  else o

/-- The integer `t` is `x` rounded in a mode (10_state.md rule R58). -/
def RoundedTo (rm : Rounding) (x : ℚ) (t : Int) : Prop :=
  match rm with
  | .down => t = ⌊x⌋
  | .up => t = ⌈x⌉
  | .zero => t = if x < 0 then ⌈x⌉ else ⌊x⌋
  | .nearest => 2 * |(t : ℚ) - x| ≤ 1 ∧ (2 * |(t : ℚ) - x| = 1 → t % 2 = 0)

/-- The outcome of converting bit pattern `v` to an integer of `w` bits (49_fpu.md rules R807, R808, R811). -/
def ToInteger (f : Fmt) (w : Nat) (rm : Rounding) (v : Nat) (o : FpOut) : Prop :=
  if f.isDenormal v || f.isQuiet v then o = ⟨32#6, 0⟩
  else if f.isSignaling v then o = ⟨16#6, 2 ^ (w - 1) - 1⟩
  else match f.toNum v with
    | .inf _ => o = ⟨16#6, 2 ^ (w - 1) - 1⟩
    | .fin n m e => ∃ t : Int, RoundedTo rm (valueOf (.fin n m e)) t ∧
      let changed : Conds := if (t : ℚ) = valueOf (.fin n m e) then 0#6 else 1#6
      (Fits w t → o = ⟨changed, (BitVec.ofInt w t).toNat⟩) ∧
      (¬ Fits w t → o = ⟨16#6 ||| changed, 2 ^ (w - 1) - 1⟩)

/-- Writes a result of 32 or 64 bits. -/
def WritesWide (s : State) (wide : Bool) (fd : BitVec 5) (v : Nat) (f : Word) (t : State) : Prop :=
  if wide then s.writesFprFcsr t fd (BitVec.ofNat 64 v) f else WritesLow s fd (BitVec.ofNat 32 v) f t

/-- Forms that copy halves: constructor and value (49_fpu.md rules R878, R884 to R887). -/
def pairForms : List (Reg3 × (Dword → Dword → Dword)) :=
  [(.cvtPsS, fun a b => a.setWidth 32 ++ b.setWidth 32), (.pllPs, fun a b => a.setWidth 32 ++ b.setWidth 32),
   (.pluPs, fun a b => a.setWidth 32 ++ b.extractLsb' 32 32),
   (.pulPs, fun a b => a.extractLsb' 32 32 ++ b.setWidth 32),
   (.puuPs, fun a b => a.extractLsb' 32 32 ++ b.extractLsb' 32 32)]

/-- The instruction completes, writing one floating-point register with a value that has the property. -/
def PutsFprWith (i : Instr) (s : State) (fd : BitVec 5) (good : Dword → Prop) : Prop :=
  ∃ t v, exec i s = .next t ∧ s.writesFpr t fd v ∧ good v

end Sys2Proof.Claims

/-- With coprocessor 1 usable and legal register numbers, each conversion screens its operand (denormalised or
quiet NaN: Unimplemented; signaling NaN: Invalid) and rounds it in the mode of its name (CVT: FCSR.RM); W
and S results leave bits 63:32 open. To an integer: the operand is rounded to the integer below (FLOOR, RM),
above (CEIL, RP), toward zero (TRUNC, RZ) or nearest with ties to even (ROUND, RN), Inexact if that changes
it; an infinity, or an integer out of range, signals Invalid (out of range and changed: Inexact too) and
gives 2^31-1 or 2^63-1, the choice of log 55 where R811 infers it and lets a model refuse. To S or D: an
integer (0 to +0) or a number of the other format is rounded once by the table of R806, as O44 says; an
infinity stays one. Cause, Flags, result and trap follow the exception procedure. CVT.PS.S, CVT.S.PL,
CVT.S.PU, PLL, PLU, PUL, PUU copy halves and write no FCSR. With coprocessor 1 unusable all take Coprocessor
Unusable; an odd number, L or PS with FR = 0 stop by name (log 54). What a log entry is cited for is the
choice of the model. (49_fpu.md rules R804 to R809, R811, R852 to R879, R883 to R887; 10_state.md rule R58;
93_implementation_defined.md U92; notes/assumptions/54.md; notes/assumptions/55.md). -/
def Obligations.ConversionsRoundInTheirMode : Prop :=
  (∀ p ∈ formats, ∀ env : FpEnv,
    (∀ t : ℤ, ResultOf p.1 p.2 env (p.1.ofInt env t) false (t : ℝ)) ∧
    (∀ n, p.1.round env (.inf n) = p.2.infinite n) ∧ p.1.quietNan = p.2.nan) ∧
  ∀ (s : State) (ft fs fd : BitVec 5),
    let a := s.readFpr fs
    (FpReady s [fs, fd] →
      (∀ p ∈ toIntOps, (p.2.2.1 = true → s.fr = true) →
        let src := sourceOf p.2.1
        ∃ o, ToInteger src.1 (if p.2.2.1 then 64 else 32) (p.2.2.2.getD (.ofBits (s.fcsr.setWidth 2)))
            (src.2 a) o ∧
          FpEnds (p.1 fs fd) s o.conds (WritesWide s p.2.2.1 fd o.bits (fcsrAfter s.fcsr o.conds))) ∧
      (let o := Screened .single (singleOf a) Fmt.double.quietNan
          (Fmt.double.round s.fpEnv (Fmt.single.toNum (singleOf a)))
       FpEnds (.cvtDS fs fd) s o.conds (WritesWide s true fd o.bits (fcsrAfter s.fcsr o.conds))) ∧
      (let o := Screened .double a.toNat Fmt.single.quietNan (Fmt.single.round s.fpEnv (Fmt.double.toNum a.toNat))
       FpEnds (.cvtSD fs fd) s o.conds (WritesWide s false fd o.bits (fcsrAfter s.fcsr o.conds))) ∧
      (let o := Fmt.double.ofInt s.fpEnv (a.setWidth 32).toInt
       FpEnds (.cvtDW fs fd) s o.conds (WritesWide s true fd o.bits (fcsrAfter s.fcsr o.conds))) ∧
      (let o := Fmt.single.ofInt s.fpEnv (a.setWidth 32).toInt
       FpEnds (.cvtSW fs fd) s o.conds (WritesWide s false fd o.bits (fcsrAfter s.fcsr o.conds)))) ∧
    (s.cu 1 = true → s.fr = true →
      (let o := Fmt.double.ofInt s.fpEnv a.toInt
       FpEnds (.cvtDL fs fd) s o.conds (WritesWide s true fd o.bits (fcsrAfter s.fcsr o.conds))) ∧
      (let o := Fmt.single.ofInt s.fpEnv a.toInt
       FpEnds (.cvtSL fs fd) s o.conds (WritesWide s false fd o.bits (fcsrAfter s.fcsr o.conds))) ∧
      (∀ p ∈ pairForms, PutsFprWith (p.1 ft fs fd) s fd (fun v => v = p.2 a (s.readFpr ft))) ∧
      PutsFprWith (.cvtSPl fs fd) s fd (fun v => v.setWidth 32 = a.setWidth 32) ∧
      PutsFprWith (.cvtSPu fs fd) s fd (fun v => v.setWidth 32 = a.extractLsb' 32 32)) ∧
    (s.cu 1 = false → (∀ p ∈ toIntOps, Takes (p.1 fs fd) s (.cpU 1)) ∧
      (∀ p ∈ pairForms, Takes (p.1 ft fs fd) s (.cpU 1)) ∧
      (∀ c ∈ ([.cvtDS, .cvtSD, .cvtDW, .cvtSW, .cvtDL, .cvtSL, .cvtSPl, .cvtSPu] : List Reg2),
        Takes (c fs fd) s (.cpU 1))) ∧
    (s.cu 1 = true → s.fr = false →
      (∀ p ∈ toIntOps, p.2.2.1 = true ∨ NamesOdd [fs, fd] → OddRegister (p.1 fs fd) s) ∧
      (NamesOdd [fs, fd] → ∀ c ∈ ([.cvtDS, .cvtSD, .cvtDW, .cvtSW] : List Reg2), OddRegister (c fs fd) s) ∧
      (∀ p ∈ pairForms, OddRegister (p.1 ft fs fd) s) ∧
      (∀ c ∈ ([.cvtDL, .cvtSL, .cvtSPl, .cvtSPu] : List Reg2), OddRegister (c fs fd) s))

/-- With coprocessor 1 usable and legal register numbers, an arithmetic instruction in S or D one of whose
operands is denormalised or a quiet NaN takes the floating-point exception whatever the Enables are: Cause.E
is set, no Flag, condition code or other FCSR bit outside Cause changes, and no floating-point register is
written. (49_fpu.md rules R805, R807 (a), (b); 10_state.md rule R57). -/
def Obligations.DenormalAndQuietNanOperandsAreUnimplemented : Prop :=
  ∀ (s : State) (fr ft fs fd : BitVec 5), FpReady s [fr, ft, fs, fd] →
    let stops (i : Instr) : Prop := ∃ f, exec i s = .next ((s.setFcsr f).takeException .fpe) ∧
      f.getLsbD 17 = true ∧ (∀ b, b < 12 ∨ 18 ≤ b → f.getLsbD b = s.fcsr.getLsbD b) ∧
      ∀ r, ((s.setFcsr f).takeException .fpe).readFpr r = s.readFpr r
    (∀ p ∈ singleOps,
      (Unhandled .single (singleOf (s.readFpr fs)) ∨
        (2 ≤ p.2.arity ∧ Unhandled .single (singleOf (s.readFpr ft))) ∨
        (3 ≤ p.2.arity ∧ Unhandled .single (singleOf (s.readFpr fr)))) → stops (p.1 fr ft fs fd)) ∧
    (∀ p ∈ doubleOps,
      (Unhandled .double (s.readFpr fs).toNat ∨
        (2 ≤ p.2.arity ∧ Unhandled .double (s.readFpr ft).toNat) ∨
        (3 ≤ p.2.arity ∧ Unhandled .double (s.readFpr fr).toNat)) → stops (p.1 fr ft fs fd))

/-- For both formats, every mode and every number m * 2^e with its sign: zero stays zero with its sign; else the
number is rounded to the precision of the format with unbounded exponents in the mode (RN, ties to even; RZ;
RP; RM). If that is tiny, it is Unimplemented, or, in the flush case of R807 (c), U and I are signalled and
the result is the zero or the smallest normal number that R806 names for the mode and sign. If it is above
the largest number, O and I are signalled and the result is the infinity or the largest number that R806
names. Else it is the result, and only Inexact is signalled, exactly if it differs. If rounding signals
nothing the result bits stand for exactly the number; if it signals only Inexact, for a number less than one
unit of the last place away, below it in RM, above it in RP, not larger in magnitude in RZ, and at most half
a unit away in RN. (10_state.md rule R58; 49_fpu.md rules R801, R804, R806, R807, R809). -/
def Obligations.RoundedResultsAreExactOrWithinOneUnit : Prop :=
  ∀ p ∈ formats, ∀ (env : FpEnv) (neg : Bool) (m : Nat) (e : Int),
    let f := p.1
    let o := f.round env (.fin neg m e)
    let x := valueOf (.fin neg m e)
    ResultOf f p.2 env o neg (x : ℝ) ∧
    (o.conds = 0 → ∃ n k, f.toNum o.bits = .fin neg n k ∧ valueOf (.fin neg n k) = x) ∧
    (o.conds = condI → ∃ n k, f.toNum o.bits = .fin neg n k ∧
      let y := valueOf (.fin neg n k)
      |y - x| < (2 : ℚ) ^ k ∧
      (env.rounding = .nearest → 2 * |y - x| ≤ (2 : ℚ) ^ k) ∧
      (env.rounding = .zero → |y| ≤ |x|) ∧
      (env.rounding = .up → x ≤ y) ∧ (env.rounding = .down → y ≤ x))

/-- For finite numbers: the sum and the product the model rounds stand for the rational sum and product, and a
zero result has the sign of R804; the comparison says less and equal as the rationals do (so -0 equals +0);
rounding to an integer gives the floor (FLOOR, RM), the ceiling (CEIL, RP), the integer toward zero (TRUNC,
RZ) or the nearest with ties to even (ROUND, RN), and reports a change exactly when the number is not an
integer. (49_fpu.md rules R804, R811, R848; 10_state.md rule R58). -/
def Obligations.NumbersAddMultiplyCompareAndRoundAsRationals : Prop :=
  ∀ (a b : Bool) (m n : Nat) (e k : Int) (rm : Rounding),
    let x := valueOf (.fin a m e)
    let y := valueOf (.fin b n k)
    (∃ z, (Machine.Num.fin a m e).add rm (.fin b n k) = some z ∧ valueOf z = x + y ∧
      (x + y = 0 → z.neg = sumSign rm a b)) ∧
    (∃ z, (Machine.Num.fin a m e).mul (.fin b n k) = some z ∧ valueOf z = x * y ∧ z.neg = (a ^^ b)) ∧
    (((Machine.Num.fin a m e).compare (.fin b n k)).1 = true ↔ x < y) ∧
    (((Machine.Num.fin a m e).compare (.fin b n k)).2 = true ↔ x = y) ∧
    (let t := Machine.Num.toInteger rm a m e
     (t.2 = true ↔ (t.1 : ℚ) ≠ x) ∧
      (rm = .down → t.1 = ⌊x⌋) ∧ (rm = .up → t.1 = ⌈x⌉) ∧
      (rm = .zero → t.1 = if x < 0 then ⌈x⌉ else ⌊x⌋) ∧
      (rm = .nearest → 2 * |(t.1 : ℚ) - x| ≤ 1 ∧ (2 * |(t.1 : ℚ) - x| = 1 → t.1 % 2 = 0)))

namespace Sys2Proof.Claims

/-- The 32-bit location of register number `n` (49_fpu_move_mem.md rule R902). -/
def word32 (s : State) (n : BitVec 5) : Word :=
  if s.fr = true ∨ n.getLsbD 0 = false then (s.readFpr n).setWidth 32
  else (s.readFpr (n - 1)).extractLsb' 32 32

/-- The instruction completes with `v` in the 32-bit location `n`: with FR = 1 the upper half is open, with
FR = 0 the other half stays. -/
def PutsWord32 (i : Instr) (s : State) (n : BitVec 5) (v : Word) : Prop :=
  (s.fr = true → PutsFprWith i s n (fun x => x.setWidth 32 = v)) ∧
  (s.fr = false → n.getLsbD 0 = false → PutsFprWith i s n (fun x => x = (s.readFpr n).extractLsb' 32 32 ++ v)) ∧
  (s.fr = false → n.getLsbD 0 = true →
    PutsFprWith i s (n - 1) (fun x => x = v ++ (s.readFpr (n - 1)).setWidth 32))

/-- A move of a single on condition `c`. -/
def MovesSingle (i : Instr) (s : State) (fs fd : BitVec 5) (c : Prop) : Prop :=
  (c → PutsFprWith i s fd (fun v => v.setWidth 32 = (s.readFpr fs).setWidth 32 ∧
    (s.fr = false → v.extractLsb' 32 32 = (s.readFpr fd).extractLsb' 32 32))) ∧ (¬ c → JustGoesOn i s)
/-- A move of all 64 bits on condition `c`. -/
def MovesDouble (i : Instr) (s : State) (fs fd : BitVec 5) (c : Prop) : Prop :=
  (c → PutsFprWith i s fd (fun v => v = s.readFpr fs)) ∧ (¬ c → JustGoesOn i s)
/-- A move of each half on its condition. -/
def MovesPair (i : Instr) (s : State) (fs fd : BitVec 5) (lower upper : Prop) : Prop :=
  PutsFprWith i s fd (fun v =>
    (lower → v.setWidth 32 = (s.readFpr fs).setWidth 32) ∧
    (¬ lower → v.setWidth 32 = (s.readFpr fd).setWidth 32) ∧
    (upper → v.extractLsb' 32 32 = (s.readFpr fs).extractLsb' 32 32) ∧
    (¬ upper → v.extractLsb' 32 32 = (s.readFpr fd).extractLsb' 32 32))

end Sys2Proof.Claims

/-- With coprocessor 1 usable: MFC1 and MTC1 use the 32-bit location F32(n) (FR = 1: the low word, bits 63:32
open after a write; FR = 0: an odd number is the high word of the even register, the other half stays);
MFHC1 and MTHC1 the high word, DMFC1 and DMTC1 (64-bit operations enabled) all 64 bits, with a legal number.
MOV and the conditional moves copy fs to fd on their condition (S: with FR = 1 bits 63:32 open, with FR = 0
unchanged; PS with FR = 1: half by half on FCC[cc] and FCC[cc + 1]; odd cc open, log 6), else leave fd.
ALNV.PS with alignment 0 or 4 assembles a pair (others open, log 6). FCSR and all else stay. A number or
form that FR = 0 does not allow stops by name (log 54). What a log entry is cited for is the choice of the
model. (49_fpu_move_mem.md rules R902, R907 to R928; notes/assumptions/6.md; notes/assumptions/54.md). -/
def Obligations.MovesBetweenRegisterFiles : Prop :=
  ∀ (s : State) (rs rt ft fs fd : BitVec 5) (cc : BitVec 3), s.cu 1 = true →
    let r := s.readGpr rt
    PutsGpr (.mfc1 rt fs) s rt ((word32 s fs).signExtend 64) ∧
    PutsWord32 (.mtc1 rt fs) s fs (r.setWidth 32) ∧
    (FpReady s [fs] →
      PutsGpr (.mfhc1 rt fs) s rt (((s.readFpr fs).extractLsb' 32 32).signExtend 64) ∧
      PutsFprWith (.mthc1 rt fs) s fs (fun v => v = r.setWidth 32 ++ (s.readFpr fs).setWidth 32) ∧
      (s.are64 = true → PutsGpr (.dmfc1 rt fs) s rt (s.readFpr fs) ∧
        PutsFprWith (.dmtc1 rt fs) s fs (fun v => v = r))) ∧
    (s.are64 = false → Takes (.dmfc1 rt fs) s .ri ∧ Takes (.dmtc1 rt fs) s .ri) ∧
    (FpReady s [fs, fd] →
      MovesSingle (.movS fs fd) s fs fd True ∧ MovesDouble (.movD fs fd) s fs fd True ∧
      MovesSingle (.movfS cc fs fd) s fs fd (conditionCode s cc = false) ∧
      MovesDouble (.movfD cc fs fd) s fs fd (conditionCode s cc = false) ∧
      MovesSingle (.movtS cc fs fd) s fs fd (conditionCode s cc = true) ∧
      MovesDouble (.movtD cc fs fd) s fs fd (conditionCode s cc = true) ∧
      MovesSingle (.movnS rt fs fd) s fs fd (r ≠ 0) ∧ MovesDouble (.movnD rt fs fd) s fs fd (r ≠ 0) ∧
      MovesSingle (.movzS rt fs fd) s fs fd (r = 0) ∧ MovesDouble (.movzD rt fs fd) s fs fd (r = 0)) ∧
    (s.fr = false → fs.getLsbD 0 = true →
      OddRegister (.mfhc1 rt fs) s ∧ OddRegister (.mthc1 rt fs) s ∧
      (s.are64 = true → OddRegister (.dmfc1 rt fs) s ∧ OddRegister (.dmtc1 rt fs) s)) ∧
    (s.fr = false → NamesOdd [fs, fd] →
      ∀ i ∈ [Instr.movS fs fd, .movD fs fd, .movfS cc fs fd, .movfD cc fs fd, .movtS cc fs fd, .movtD cc fs fd,
        .movnS rt fs fd, .movnD rt fs fd, .movzS rt fs fd, .movzD rt fs fd], OddRegister i s) ∧
    (s.fr = false → ∀ i ∈ [Instr.movPs fs fd, .movnPs rt fs fd, .movzPs rt fs fd, .movfPs cc fs fd,
      .movtPs cc fs fd, .alnvPs rs ft fs fd], OddRegister i s) ∧
    (s.fr = true →
      MovesPair (.movPs fs fd) s fs fd True True ∧
      MovesPair (.movnPs rt fs fd) s fs fd (r ≠ 0) (r ≠ 0) ∧
      MovesPair (.movzPs rt fs fd) s fs fd (r = 0) (r = 0) ∧
      (cc.getLsbD 0 = false →
        MovesPair (.movfPs cc fs fd) s fs fd (conditionCode s cc = false) (conditionCode s (cc + 1) = false) ∧
        MovesPair (.movtPs cc fs fd) s fs fd (conditionCode s cc = true) (conditionCode s (cc + 1) = true)) ∧
      (cc.getLsbD 0 = true → PutsFprWith (.movfPs cc fs fd) s fd (fun _ => True) ∧
        PutsFprWith (.movtPs cc fs fd) s fd (fun _ => True)) ∧
      PutsFprWith (.alnvPs rs ft fs fd) s fd (fun v =>
        ((s.readGpr rs).setWidth 3 = 0#3 → v = s.readFpr fs) ∧
        ((s.readGpr rs).setWidth 3 = 4#3 →
          v = (s.readFpr ft).setWidth 32 ++ (s.readFpr fs).extractLsb' 32 32)))

namespace Sys2Proof.Claims

/-- What CFC1 reads of FCSR `f` (10_state.md rules R52 to R56). -/
def viewOf (f : Word) (n : Nat) : Option Word :=
  match n with
  | 0 => some 0x00770501
  | 25 => some ((f.extractLsb' 25 7 ++ f.extractLsb' 23 1 : BitVec 8).setWidth 32)
  | 26 => some (f &&& 0x0003F07C)
  | 28 => some ((f &&& 0x00000F83) ||| (if f.getLsbD 24 then 4 else 0))
  | 31 => some f
  | _ => none

/-- FCSR after CTC1 writes `v` to view `n` of `f` (49_fpu_move_mem.md rule R906); bit 22 is stored (U9, log 53). -/
def viewWritten (f : Word) (n : Nat) (v : Word) : Option Word :=
  match n with
  | 25 => some ((f &&& 0x017FFFFF) ||| ((v &&& 0xFE) <<< 24) ||| ((v &&& 1) <<< 23))
  | 26 => some ((f &&& 0xFFFC0F83) ||| (v &&& 0x0003F07C))
  | 28 => some ((f &&& 0xFEFFF07C) ||| (v &&& 0x00000F83) ||| ((v &&& 4) <<< 22))
  | 31 => some (v &&& 0xFFC3FFFF)
  | _ => none

/-- A Cause bit that traps is set. -/
def PendingCause (f : Word) : Prop := f.getLsbD 17 = true ∨ f.extractLsb' 12 5 &&& f.extractLsb' 7 5 ≠ 0#5

end Sys2Proof.Claims

/-- With coprocessor 1 usable, CFC1 writes FIR, FCSR, or its view of FCSR (FCCR: condition codes; FEXR:
Cause and Flags; FENR: Enables, FS, RM), sign-extended. CTC1 writes exactly the bits of the view (FCSR: all
but 20:18, which are ignored and read 0, bit 21, with which a value is refused (top_mode), and bit 22, which
is stored without effect, as U9 rules; that this goes before R906 and V13, which ignore it, is log 53) and
then, if Cause.E or a Cause bit with its Enable is set, takes the floating-point exception with the register
written; otherwise it goes on. Another register number is refused by name. What a log entry is cited for is
the choice of the model. (49_fpu_move_mem.md rules R905, R906; 10_state.md rules R52 to R56;
92_eei_decisions.md D16; 93_implementation_defined.md U9; notes/assumptions/53.md). -/
def Obligations.FloatingControlRegisterViews : Prop :=
  ∀ (s : State) (rt fs : BitVec 5),
    let v := (s.readGpr rt).setWidth 32
    (s.cu 1 = true →
      (∀ x, viewOf s.fcsr fs.toNat = some x → PutsGpr (.cfc1 rt fs) s rt (x.signExtend 64)) ∧
      (viewOf s.fcsr fs.toNat = none → exec (.cfc1 rt fs) s = .refused .noSuchFpuRegister) ∧
      (∀ f, viewWritten s.fcsr fs.toNat v = some f → ¬ (fs = 31 ∧ v.getLsbD 21 = true) →
        (PendingCause f → exec (.ctc1 rt fs) s = .next ((s.setFcsr f).takeException .fpe)) ∧
        (¬ PendingCause f → ∃ t, exec (.ctc1 rt fs) s = .next t ∧ s.writesFcsr t f)) ∧
      (fs = 31 → v.getLsbD 21 = true → exec (.ctc1 rt fs) s = .refused .topMode) ∧
      (viewWritten s.fcsr fs.toNat v = none → exec (.ctc1 rt fs) s = .refused .noSuchFpuRegister)) ∧
    (s.cu 1 = false → Takes (.cfc1 rt fs) s (.cpU 1) ∧ Takes (.ctc1 rt fs) s (.cpU 1))

/-- With coprocessor 1 usable and outside a delay slot, BC1F and BC1T go through the delay slot to the target
when FCC[cc] is 0 or 1, else to the instruction after the slot; BC1FL and BC1TL skip the slot when not
taken. No register and no byte of memory changes. With coprocessor 1 unusable they take Coprocessor
Unusable; in a delay slot they end in the named fault (R486, D30, log 65). What a log entry is cited for is
the choice of the model. (49_fpu_move_mem.md rules R929, R1100 to R1103; 44_branch.md rule R486;
92_eei_decisions.md D30; notes/assumptions/65.md). -/
def Obligations.FloatingConditionBranches : Prop :=
  ∀ (s : State) (cc : BitVec 3) (imm : BitVec 16),
    (s.cu 1 = true → s.inDelaySlot = false →
      Branches (.bc1f cc imm) s imm (conditionCode s cc = false) s.sameGprs ∧
      Branches (.bc1t cc imm) s imm (conditionCode s cc = true) s.sameGprs ∧
      BranchesLikely (.bc1fl cc imm) s imm (conditionCode s cc = false) s.sameGprs ∧
      BranchesLikely (.bc1tl cc imm) s imm (conditionCode s cc = true) s.sameGprs) ∧
    (s.cu 1 = true → s.inDelaySlot = true →
      ∀ i ∈ [Instr.bc1f cc imm, .bc1t cc imm, .bc1fl cc imm, .bc1tl cc imm],
        exec i s = .fault .controlInDelaySlot) ∧
    (s.cu 1 = false → ∀ i ∈ [Instr.bc1f cc imm, .bc1t cc imm, .bc1fl cc imm, .bc1tl cc imm],
      Takes i s (.cpU 1))

namespace Sys2Proof.Claims

/-- Where a floating-point access of 4 or 8 bytes goes: its register, and whether the bound check passes. -/
structure FpAccess where
  instr : Instr
  reg : BitVec 5
  va : Dword
  ok : Bool

/-- The word loads: standard, then custom (49_fpu_move_mem.md). -/
def wordLoads (s : State) (base n index : BitVec 5) (imm : BitVec 16) : List FpAccess :=
  [⟨.lwc1 base n imm, n, s.readGpr base + imm.signExtend 64, true⟩,
   ⟨.lwxc1 base index n, n, s.readGpr base + s.readGpr index, true⟩]
/-- The custom word loads. -/
def customWordLoads (s : State) (base n index : BitVec 5) (off : BitVec 8) : List FpAccess :=
  [⟨.gslwlec1 base n index, n, s.readGpr base, boundLe (s.readGpr base) (s.readGpr index)⟩,
   ⟨.gslwgtc1 base n index, n, s.readGpr base, !boundLe (s.readGpr base) (s.readGpr index)⟩,
   ⟨.gslwxc1 base n index off, n, s.readGpr base + s.readGpr index + off.signExtend 64, true⟩]
/-- The doubleword loads. -/
def doubleLoads (s : State) (base n index : BitVec 5) (imm : BitVec 16) : List FpAccess :=
  [⟨.ldc1 base n imm, n, s.readGpr base + imm.signExtend 64, true⟩,
   ⟨.ldxc1 base index n, n, s.readGpr base + s.readGpr index, true⟩,
   ⟨.luxc1 base index n, n, (s.readGpr base + s.readGpr index) &&& ~~~7#64, true⟩]
/-- The custom doubleword loads. -/
def customDoubleLoads (s : State) (base n index : BitVec 5) (off : BitVec 8) : List FpAccess :=
  [⟨.gsldlec1 base n index, n, s.readGpr base, boundLe (s.readGpr base) (s.readGpr index)⟩,
   ⟨.gsldgtc1 base n index, n, s.readGpr base, !boundLe (s.readGpr base) (s.readGpr index)⟩,
   ⟨.gsldxc1 base n index off, n, s.readGpr base + s.readGpr index + off.signExtend 64, true⟩]

/-- The instruction completes from `s`; against `u`, `s` with its pages remembered, it writes one
floating-point register with a value that has the property. -/
def PutsFprFrom (i : Instr) (s u : State) (fd : BitVec 5) (good : Dword → Prop) : Prop :=
  ∃ t v, exec i s = .next t ∧ u.writesFpr t fd v ∧ good v

/-- `PutsWord32` for a load, against `u`. -/
def FillsWord32 (i : Instr) (s u : State) (n : BitVec 5) (v : Word) : Prop :=
  (s.fr = true → PutsFprFrom i s u n (fun x => x.setWidth 32 = v)) ∧
  (s.fr = false → n.getLsbD 0 = false →
    PutsFprFrom i s u n (fun x => x = (s.readFpr n).extractLsb' 32 32 ++ v)) ∧
  (s.fr = false → n.getLsbD 0 = true →
    PutsFprFrom i s u (n - 1) (fun x => x = v ++ (s.readFpr (n - 1)).setWidth 32))

/-- What an access of `n` bytes takes when its bound check fails, off its boundary, where its translation raises
and where the bus answers ERR. -/
def FpAccessFails (s : State) (p : FpAccess) (n : Nat) (kind : AccessKind) : Prop :=
  (p.ok = false → Takes p.instr s (.boundError (kind == .store))) ∧
  (p.ok = true → p.va.toNat % n ≠ 0 → Takes p.instr s (.addressError (kind == .store) p.va)) ∧
  (p.ok = true → p.va.toNat % n = 0 → AccessFails s p.va kind here n (Takes p.instr s))

/-- The word load of a row completes, or takes its exception. -/
def FillsWord (s : State) (p : FpAccess) : Prop :=
  (p.ok = true → ∀ g, Readable s p.va 4 g →
    FillsWord32 p.instr s (Remembered s p.va g) p.reg ((s.seenLE g.pa.toNat 4).setWidth 32)) ∧
  FpAccessFails s p 4 .load
/-- The doubleword load of a row completes, or takes its exception. -/
def FillsDouble (s : State) (p : FpAccess) : Prop :=
  FpReady s [p.reg] →
    (p.ok = true → ∀ g, Readable s p.va 8 g →
      PutsFprFrom p.instr s (Remembered s p.va g) p.reg (fun v => v = s.seenLE g.pa.toNat 8)) ∧
    FpAccessFails s p 8 .load

/-- The word load of a part of a block completes: the bytes joined with the old location. -/
def FillsPart (i : Instr) (s u : State) (n : BitVec 5) (good : Dword → Prop) : Prop :=
  ∃ w : Word, FillsWord32 i s u n w ∧ good (w.setWidth 64)

/-- GSLQC1 completes. -/
def FillsQuad (s : State) (base n q : BitVec 5) (off : BitVec 9) (g h : Target) : Prop :=
  let va := QuadAddress s base off
  let lo := s.seenLE g.pa.toNat 8
  let hi := s.seenLE h.pa.toNat 8
  ∃ t, exec (.gslqc1 base n off q) s = .next t ∧ s.wentOn t ∧ s.sameBytes t ∧
    State.sameButFlow { QuadRemembered s va g h with fpr := t.fpr } t ∧
    (n ≠ q → ∀ r, t.readFpr r = if r = q then hi else if r = n then lo else s.readFpr r) ∧
    (n = q → s.fprsBut t n lo ∨ s.fprsBut t n hi)

end Sys2Proof.Claims

/-- When the address translates to memory, is aligned, and a cached page has no other colour (log 46), and
coprocessor 1 (for the custom forms also 2) is usable: the word loads put the four bytes into F32(n), the
doubleword loads the eight bytes into a register with a legal number; LUXC1 ignores the low three address
bits. Memory bytes are those this core sees, the latest stores in the buffer among them (R230, as in O21;
log 45). Bound-checked forms need a passing check. The left and right forms join memory bytes with the old
value as LWL, LWR, LDL, LDR do. GSLQC1 fills two registers (8 modulo 16: completes or takes Address Error,
log 25; one of the two values if they are one register, log 10). Nothing else changes. Off its boundary an
access takes AdEL with BadVAddr the address; an exception of the translation is taken, and DBE where the bus
answers ERR (that the left and right forms ask for the whole block is log 70). A failed bound check takes
AdEL before these: that it comes first where another address exception coincides, which R633 lets a model
refuse, is log 58. With FR = 0 a doubleword form that names an odd register stops by name (log 54). What a
log entry is cited for is the choice of the model. (49_fpu_move_mem.md rules R902, R1104, R1110 to R1114,
R1122 to R1132, R1142, R1143; 20_memory.md rules R184, R200, R221, R230; 60_exceptions.md rules R938, R944;
47_custom_int.md rules R612, R633; notes/assumptions/10.md; notes/assumptions/25.md;
notes/assumptions/27.md; notes/assumptions/45.md; notes/assumptions/46.md; notes/assumptions/54.md;
notes/assumptions/58.md; notes/assumptions/70.md). -/
def Obligations.FloatingLoadsFillOneLocation : Prop :=
  ∀ (s : State) (base n q index : BitVec 5) (imm : BitVec 16) (off : BitVec 8) (off9 : BitVec 9),
    s.cu 1 = true →
    (∀ p ∈ wordLoads s base n index imm, FillsWord s p) ∧
    (∀ p ∈ doubleLoads s base n index imm, FillsDouble s p ∧
      (s.fr = false → n.getLsbD 0 = true → OddRegister p.instr s)) ∧
    (s.cu 2 = true →
      (∀ p ∈ customWordLoads s base n index off, FillsWord s p) ∧
      (∀ p ∈ customDoubleLoads s base n index off, FillsDouble s p) ∧
      (s.fr = false → n.getLsbD 0 = true →
        (∀ p ∈ customDoubleLoads s base n index off, OddRegister p.instr s) ∧
        OddRegister (.gsldlc1 base n off) s ∧ OddRegister (.gsldrc1 base n off) s) ∧
      (s.fr = false → n.getLsbD 0 = true ∨ q.getLsbD 0 = true → OddRegister (.gslqc1 base n off9 q) s) ∧
      (let va := s.readGpr base + off.signExtend 64
       (∀ g, BlockReadable s va 4 g →
          FillsPart (.gslwlc1 base n off) s (Remembered s va g) n
            (JoinsLeft s g 4 (va.toNat % 4) ((word32 s n).setWidth 64)) ∧
          FillsPart (.gslwrc1 base n off) s (Remembered s va g) n
            (JoinsRight s g 4 (va.toNat % 4) ((word32 s n).setWidth 64))) ∧
        (FpReady s [n] → ∀ g, BlockReadable s va 8 g →
          PutsFprFrom (.gsldlc1 base n off) s (Remembered s va g) n
            (JoinsLeft s g 8 (va.toNat % 8) (s.readFpr n)) ∧
          PutsFprFrom (.gsldrc1 base n off) s (Remembered s va g) n
            (JoinsRight s g 8 (va.toNat % 8) (s.readFpr n))) ∧
        (PartLoadFails s va 4 (Takes (.gslwlc1 base n off) s) ∧
          PartLoadFails s va 4 (Takes (.gslwrc1 base n off) s)) ∧
        (FpReady s [n] → PartLoadFails s va 8 (Takes (.gsldlc1 base n off) s) ∧
          PartLoadFails s va 8 (Takes (.gsldrc1 base n off) s))) ∧
      (FpReady s [n, q] → ∀ g h,
        let va := QuadAddress s base off9
        QuadCases (.gslqc1 base n off9 q) s va false
          ((QuadReadable s va g h → FillsQuad s base n q off9 g h) ∧
            QuadLoadFails s va (Takes (.gslqc1 base n off9 q) s))))

namespace Sys2Proof.Claims

/-- The word stores, standard. -/
def wordStores (s : State) (base n index : BitVec 5) (imm : BitVec 16) : List FpAccess :=
  [⟨.swc1 base n imm, n, s.readGpr base + imm.signExtend 64, true⟩,
   ⟨.swxc1 base index n, n, s.readGpr base + s.readGpr index, true⟩]
/-- The custom word stores. -/
def customWordStores (s : State) (base n index : BitVec 5) (off : BitVec 8) : List FpAccess :=
  [⟨.gsswlec1 base n index, n, s.readGpr base, boundLe (s.readGpr base) (s.readGpr index)⟩,
   ⟨.gsswgtc1 base n index, n, s.readGpr base, !boundLe (s.readGpr base) (s.readGpr index)⟩,
   ⟨.gsswxc1 base n index off, n, s.readGpr base + s.readGpr index + off.signExtend 64, true⟩]
/-- The doubleword stores, standard. -/
def doubleStores (s : State) (base n index : BitVec 5) (imm : BitVec 16) : List FpAccess :=
  [⟨.sdc1 base n imm, n, s.readGpr base + imm.signExtend 64, true⟩,
   ⟨.sdxc1 base index n, n, s.readGpr base + s.readGpr index, true⟩,
   ⟨.suxc1 base index n, n, (s.readGpr base + s.readGpr index) &&& ~~~7#64, true⟩]
/-- The custom doubleword stores. -/
def customDoubleStores (s : State) (base n index : BitVec 5) (off : BitVec 8) : List FpAccess :=
  [⟨.gssdlec1 base n index, n, s.readGpr base, boundLe (s.readGpr base) (s.readGpr index)⟩,
   ⟨.gssdgtc1 base n index, n, s.readGpr base, !boundLe (s.readGpr base) (s.readGpr index)⟩,
   ⟨.gssdxc1 base n index off, n, s.readGpr base + s.readGpr index + off.signExtend 64, true⟩]

/-- The word store of a row completes, or takes its exception. -/
def SpillsWord (s : State) (p : FpAccess) : Prop :=
  (p.ok = true → ∀ g, Writable s p.va 4 g → Stores p.instr s p.va g 4 ((word32 s p.reg).setWidth 64)) ∧
  FpAccessFails s p 4 .store
/-- The doubleword store of a row completes, or takes its exception. -/
def SpillsDouble (s : State) (p : FpAccess) : Prop :=
  FpReady s [p.reg] →
    (p.ok = true → ∀ g, Writable s p.va 8 g → Stores p.instr s p.va g 8 (s.readFpr p.reg)) ∧
    FpAccessFails s p 8 .store

end Sys2Proof.Claims

/-- When the address translates for a store to RAM, is aligned, and a cached page has no other colour (log 46),
and coprocessor 1 (for the custom forms also 2) is usable: the word stores write the four bytes of F32(n),
the doubleword stores the eight bytes of a register with a legal number; SUXC1 ignores the low three address
bits; bound-checked forms need a passing check; the left and right forms write the part of the block that
SWL, SWR, SDL, SDR write; GSSQC1 writes two doublewords (8 modulo 16: completes or takes Address Error, log
25). With attribute 7 the bytes wait in the buffer of R225 (log 45). Every other byte, every register and
the TLB are unchanged. Off its boundary an access takes AdES with BadVAddr the address; an exception of the
translation is taken, and DBE where the bus answers ERR. A failed bound check takes AdES before these: that
it comes first where another address exception coincides, which R633 lets a model refuse, is log 58. With FR
= 0 a doubleword form that names an odd register stops by name (log 54). What a log entry is cited for is
the choice of the model. (49_fpu_move_mem.md rules R1104, R1115 to R1121, R1133 to R1143; 20_memory.md rules
R184, R200, R221 to R225, R231, R232; 60_exceptions.md rules R938, R944; 47_custom_int.md rules R612, R633;
notes/assumptions/2.md; notes/assumptions/25.md; notes/assumptions/27.md; notes/assumptions/45.md;
notes/assumptions/46.md; notes/assumptions/54.md; notes/assumptions/58.md). -/
def Obligations.FloatingStoresWriteExactlyTheirBytes : Prop :=
  ∀ (s : State) (base n q index : BitVec 5) (imm : BitVec 16) (off : BitVec 8) (off9 : BitVec 9),
    s.cu 1 = true →
    (∀ p ∈ wordStores s base n index imm, SpillsWord s p) ∧
    (∀ p ∈ doubleStores s base n index imm, SpillsDouble s p ∧
      (s.fr = false → n.getLsbD 0 = true → OddRegister p.instr s)) ∧
    (s.cu 2 = true →
      (∀ p ∈ customWordStores s base n index off, SpillsWord s p) ∧
      (∀ p ∈ customDoubleStores s base n index off, SpillsDouble s p) ∧
      (s.fr = false → n.getLsbD 0 = true →
        (∀ p ∈ customDoubleStores s base n index off, OddRegister p.instr s) ∧
        OddRegister (.gssdlc1 base n off) s ∧ OddRegister (.gssdrc1 base n off) s) ∧
      (s.fr = false → n.getLsbD 0 = true ∨ q.getLsbD 0 = true → OddRegister (.gssqc1 base n off9 q) s) ∧
      (let va := s.readGpr base + off.signExtend 64
       (∀ g, Reaches s va .store g →
          StoresLeft (.gsswlc1 base n off) s va g 4 ((word32 s n).setWidth 64) ∧
          StoresRight (.gsswrc1 base n off) s va g 4 ((word32 s n).setWidth 64) ∧
          (FpReady s [n] → StoresLeft (.gssdlc1 base n off) s va g 8 (s.readFpr n) ∧
            StoresRight (.gssdrc1 base n off) s va g 8 (s.readFpr n))) ∧
        (LeftStoreFails (.gsswlc1 base n off) s va 4 ∧ RightStoreFails (.gsswrc1 base n off) s va 4) ∧
        (FpReady s [n] →
          LeftStoreFails (.gssdlc1 base n off) s va 8 ∧ RightStoreFails (.gssdrc1 base n off) s va 8)) ∧
      (FpReady s [n, q] → ∀ g h,
        let va := QuadAddress s base off9
        QuadCases (.gssqc1 base n off9 q) s va true
          ((QuadWritable s va g h → StoresQuad (.gssqc1 base n off9 q) s va g h (s.readFpr n) (s.readFpr q)) ∧
            QuadStoreFails s va (Takes (.gssqc1 base n off9 q) s))))

namespace Sys2Proof.Claims

/-- Coprocessors 2 and 1 are usable and the registers may be named (48_custom_mmi.md rule R700). -/
def MmiReady (s : State) (regs : List (BitVec 5)) : Prop := s.cu 2 = true ∧ FpReady s regs

/-- The clamp of an integer. -/
def clamp (lo hi v : Int) : Int := if v < lo then lo else if hi < v then hi else v
/-- sat_s16, sat_u16, sat_s8, sat_u8 (48_custom_mmi.md rule R701). -/
def satS16 (v : Int) : BitVec 16 := BitVec.ofInt 16 (clamp (-32768) 32767 v)
/-- See `satS16`. -/
def satU16 (v : Int) : BitVec 16 := BitVec.ofInt 16 (clamp 0 65535 v)
/-- See `satS16`. -/
def satS8 (v : Int) : BitVec 8 := BitVec.ofInt 8 (clamp (-128) 127 v)
/-- See `satS16`. -/
def satU8 (v : Int) : BitVec 8 := BitVec.ofInt 8 (clamp 0 255 v)
/-- All ones or all zeros. -/
def maskIf (w : Nat) (c : Prop) [Decidable c] : BitVec w := if c then BitVec.allOnes w else 0

/-- Lane `i` of `w` bits. -/
def laneOf (w : Nat) (v : Dword) (i : Nat) : BitVec w := v.extractLsb' (w * i) w

/-- Halfword operations. -/
def halfOps : List (Reg3 × (BitVec 16 → BitVec 16 → BitVec 16)) :=
  [(.paddh, fun a b => a + b), (.psubh, fun a b => a - b),
   (.paddsh, fun a b => satS16 (a.toInt + b.toInt)), (.paddush, fun a b => satU16 (a.toNat + b.toNat)),
   (.psubsh, fun a b => satS16 (a.toInt - b.toInt)), (.psubush, fun a b => satU16 ((a.toNat : Int) - b.toNat)),
   (.pavgh, fun a b => BitVec.ofNat 16 ((a.toNat + b.toNat + 1) / 2)),
   (.pmaxsh, fun a b => BitVec.ofInt 16 (max a.toInt b.toInt)),
   (.pminsh, fun a b => BitVec.ofInt 16 (min a.toInt b.toInt)),
   (.pcmpeqh, fun a b => maskIf 16 (a = b)), (.pcmpgth, fun a b => maskIf 16 (b.toInt < a.toInt)),
   (.pmullh, fun a b => BitVec.ofInt 16 (a.toInt * b.toInt)),
   (.pmulhh, fun a b => BitVec.ofInt 16 (a.toInt * b.toInt / 65536)),
   (.pmulhuh, fun a b => BitVec.ofNat 16 (a.toNat * b.toNat / 65536))]
/-- Word operations. -/
def wordLaneOps : List (Reg3 × (BitVec 32 → BitVec 32 → BitVec 32)) :=
  [(.paddw, fun a b => a + b), (.psubw, fun a b => a - b), (.pcmpeqw, fun a b => maskIf 32 (a = b)),
   (.pcmpgtw, fun a b => maskIf 32 (b.toInt < a.toInt))]
/-- Byte operations. -/
def byteOps : List (Reg3 × (BitVec 8 → BitVec 8 → BitVec 8)) :=
  [(.paddb, fun a b => a + b), (.psubb, fun a b => a - b),
   (.paddsb, fun a b => satS8 (a.toInt + b.toInt)), (.paddusb, fun a b => satU8 (a.toNat + b.toNat)),
   (.psubsb, fun a b => satS8 (a.toInt - b.toInt)), (.psubusb, fun a b => satU8 ((a.toNat : Int) - b.toNat)),
   (.pavgb, fun a b => BitVec.ofNat 8 ((a.toNat + b.toNat + 1) / 2)),
   (.pmaxub, fun a b => BitVec.ofNat 8 (max a.toNat b.toNat)),
   (.pminub, fun a b => BitVec.ofNat 8 (min a.toNat b.toNat)),
   (.pcmpeqb, fun a b => maskIf 8 (a = b)), (.pcmpgtb, fun a b => maskIf 8 (b.toInt < a.toInt)),
   (.pasubub, fun a b => BitVec.ofNat 8 ((a.toNat : Int) - b.toNat).natAbs)]
/-- Operations on the whole register. -/
def wholeOps : List (Reg3 × (Dword → Dword → Dword)) :=
  [(.paddd, fun a b => a + b), (.psubd, fun a b => a - b), (.pandn, fun a b => ~~~a &&& b),
   (.gsxor, fun a b => a ^^^ b), (.gsnor, fun a b => ~~~(a ||| b)), (.gsand, fun a b => a &&& b),
   (.gsor, fun a b => a ||| b), (.gsaddu, fun a b => sx 32 (a + b)), (.gssubu, fun a b => sx 32 (a - b)),
   (.pmuluw, fun a b => BitVec.ofNat 64 ((a.setWidth 32).toNat * (b.setWidth 32).toNat)),
   (.gsdsll, fun a b => a <<< (b.toNat % 128)), (.gsdsrl, fun a b => a >>> (b.toNat % 128)),
   (.gssll, fun a b => sx 32 ((a.setWidth 32 <<< (b.toNat % 128) : Word).setWidth 64)),
   (.gssrl, fun a b => sx 32 ((a.setWidth 32 >>> (b.toNat % 128) : Word).setWidth 64)),
   (.pextrh, fun a b => (laneOf 16 a (b.toNat % 4)).setWidth 64)]
/-- Shifts of every lane by one count. -/
def laneShifts : List (Reg3 × Reg3 × ((w : Nat) → BitVec w → Nat → BitVec w)) :=
  [(.psllh, .psllw, fun _ a n => a <<< n), (.psrlh, .psrlw, fun _ a n => a >>> n),
   (.psrah, .psraw, fun _ a n => a.sshiftRight n)]
/-- Rearrangements: for each lane of the result, from the low one, whether it is ft's and which. -/
def halfMoves : List (Reg3 × List (Bool × Nat)) :=
  [(.punpcklhw, [(false, 0), (true, 0), (false, 1), (true, 1)]),
   (.punpckhhw, [(false, 2), (true, 2), (false, 3), (true, 3)]),
   (.pinsrh0, [(true, 0), (false, 1), (false, 2), (false, 3)]),
   (.pinsrh1, [(false, 0), (true, 0), (false, 2), (false, 3)]),
   (.pinsrh2, [(false, 0), (false, 1), (true, 0), (false, 3)]),
   (.pinsrh3, [(false, 0), (false, 1), (false, 2), (true, 0)])]
/-- See `halfMoves`: bytes. -/
def byteMoves : List (Reg3 × List (Bool × Nat)) :=
  [(.punpcklbh, [(false, 0), (true, 0), (false, 1), (true, 1), (false, 2), (true, 2), (false, 3), (true, 3)]),
   (.punpckhbh, [(false, 4), (true, 4), (false, 5), (true, 5), (false, 6), (true, 6), (false, 7), (true, 7)])]
/-- See `halfMoves`: words. -/
def wordMoves : List (Reg3 × List (Bool × Nat)) :=
  [(.punpcklwd, [(false, 0), (true, 0)]), (.punpckhwd, [(false, 1), (true, 1)])]
/-- The scalar compares with their condition. -/
def scalarCompares : List (Reg2 × (Dword → Dword → Prop)) :=
  [(.gssequ, fun a b => a = b), (.gsseq, fun a b => a = b), (.gssltu, fun a b => a.toNat < b.toNat),
   (.gsslt, fun a b => a.toInt < b.toInt), (.gssleu, fun a b => a.toNat ≤ b.toNat),
   (.gssle, fun a b => a.toInt ≤ b.toInt)]

/-- Every lane of `v` is what the list says. -/
def Rearranged (w : Nat) (from_ : List (Bool × Nat)) (a b v : Dword) : Prop :=
  ∀ i, (h : i < from_.length) → laneOf w v i = laneOf w (if from_[i].1 then b else a) from_[i].2

/-- The exact result `r` of `w` bits is written sign-extended, or Integer Overflow is taken. -/
def FpExactOrOverflow (w : Nat) (i : Instr) (s : State) (fd : BitVec 5) (r : Int) : Prop :=
  (Fits w r → PutsFprWith i s fd (fun v => v = BitVec.ofInt 64 r)) ∧ (¬ Fits w r → Takes i s .ov)

end Sys2Proof.Claims

/-- With coprocessors 2 and 1 usable and legal register numbers (FR = 1 or even), each multimedia instruction
writes fd, lane by lane, with the sum, saturated sum, difference, average, maximum, minimum, comparison
mask, product half, absolute difference, shift, packed, unpacked, inserted or shuffled lane the rules give,
from the old values of fs and ft; PMADDHW, PEXTRH, BIADD, PMOVMSKB and the 64-bit and word forms likewise.
GSADD, GSSUB, GSDADD, GSDSUB take Integer Overflow when the result does not fit (the choice of log 64: R703
infers it and lets a model refuse); GSSRA and GSDSRA leave the value open for a count above the width (log
6). The compare forms write FCC[0] only. Nothing else changes. What a log entry is cited for is the choice
of the model. (48_custom_mmi.md rules R700 to R703, R710 to R791; notes/assumptions/6.md;
notes/assumptions/64.md). -/
def Obligations.MultimediaLanesAreIndependent : Prop :=
  ∀ (s : State) (ft fs fd : BitVec 5), MmiReady s [ft, fs, fd] →
    let a := s.readFpr fs
    let b := s.readFpr ft
    (∀ p ∈ halfOps, PutsFprWith (p.1 ft fs fd) s fd (fun v =>
      ∀ i, i < 4 → laneOf 16 v i = p.2 (laneOf 16 a i) (laneOf 16 b i))) ∧
    (∀ p ∈ wordLaneOps, PutsFprWith (p.1 ft fs fd) s fd (fun v =>
      ∀ i, i < 2 → laneOf 32 v i = p.2 (laneOf 32 a i) (laneOf 32 b i))) ∧
    (∀ p ∈ byteOps, PutsFprWith (p.1 ft fs fd) s fd (fun v =>
      ∀ i, i < 8 → laneOf 8 v i = p.2 (laneOf 8 a i) (laneOf 8 b i))) ∧
    (∀ p ∈ wholeOps, PutsFprWith (p.1 ft fs fd) s fd (fun v => v = p.2 a b)) ∧
    (∀ p ∈ laneShifts,
      PutsFprWith (p.1 ft fs fd) s fd (fun v =>
        ∀ i, i < 4 → laneOf 16 v i = p.2.2 16 (laneOf 16 a i) (b.toNat % 128)) ∧
      PutsFprWith (p.2.1 ft fs fd) s fd (fun v =>
        ∀ i, i < 2 → laneOf 32 v i = p.2.2 32 (laneOf 32 a i) (b.toNat % 128))) ∧
    (∀ p ∈ halfMoves, PutsFprWith (p.1 ft fs fd) s fd (Rearranged 16 p.2 a b)) ∧
    (∀ p ∈ byteMoves, PutsFprWith (p.1 ft fs fd) s fd (Rearranged 8 p.2 a b)) ∧
    (∀ p ∈ wordMoves, PutsFprWith (p.1 ft fs fd) s fd (Rearranged 32 p.2 a b)) ∧
    PutsFprWith (.pshufh ft fs fd) s fd (fun v =>
      ∀ i, i < 4 → laneOf 16 v i = laneOf 16 a (b.toNat / 4 ^ i % 4)) ∧
    PutsFprWith (.packsswh ft fs fd) s fd (fun v => ∀ i, i < 4 →
      laneOf 16 v i = satS16 (laneOf 32 (if i < 2 then a else b) (i % 2)).toInt) ∧
    PutsFprWith (.packsshb ft fs fd) s fd (fun v => ∀ i, i < 8 →
      laneOf 8 v i = satS8 (laneOf 16 (if i < 4 then a else b) (i % 4)).toInt) ∧
    PutsFprWith (.packushb ft fs fd) s fd (fun v => ∀ i, i < 8 →
      laneOf 8 v i = satU8 (laneOf 16 (if i < 4 then a else b) (i % 4)).toInt) ∧
    PutsFprWith (.pmaddhw ft fs fd) s fd (fun v => ∀ i, i < 2 → laneOf 32 v i = BitVec.ofInt 32
      ((laneOf 16 a (2 * i)).toInt * (laneOf 16 b (2 * i)).toInt +
        (laneOf 16 a (2 * i + 1)).toInt * (laneOf 16 b (2 * i + 1)).toInt)) ∧
    PutsFprWith (.biadd fs fd) s fd (fun v =>
      v.toNat = ((List.range 8).map fun i => (laneOf 8 a i).toNat).sum) ∧
    PutsFprWith (.pmovmskb fs fd) s fd (fun v =>
      ∀ i, v.getLsbD i = (decide (i < 8) && a.getLsbD (8 * i + 7))) ∧
    FpExactOrOverflow 32 (.gsadd ft fs fd) s fd ((a.setWidth 32).toInt + (b.setWidth 32).toInt) ∧
    FpExactOrOverflow 32 (.gssub ft fs fd) s fd ((a.setWidth 32).toInt - (b.setWidth 32).toInt) ∧
    FpExactOrOverflow 64 (.gsdadd ft fs fd) s fd (a.toInt + b.toInt) ∧
    FpExactOrOverflow 64 (.gsdsub ft fs fd) s fd (a.toInt - b.toInt) ∧
    PutsFprWith (.gssra ft fs fd) s fd (fun v => b.toNat % 128 ≤ 31 →
      v = ((a.setWidth 32).sshiftRight (b.toNat % 128)).signExtend 64) ∧
    PutsFprWith (.gsdsra ft fs fd) s fd (fun v => b.toNat % 128 ≤ 63 →
      v = a.sshiftRight (b.toNat % 128)) ∧
    (∀ p ∈ scalarCompares, ∃ t, exec (p.1 ft fs) s = .next t ∧ s.writesFcsr t t.fcsr ∧
      (t.fcsr.getLsbD 23 = true ↔ p.2 a b) ∧ ∀ k, k ≠ 23 → t.fcsr.getLsbD k = s.fcsr.getLsbD k)

namespace Sys2Proof.Claims

/-- The coprocessor an opcode needs (60_exceptions.md rules R947, R948). -/
def unitOf (op : Nat) : Option (BitVec 2) :=
  if op = 16 ∨ op = 47 then some 0
  else if op = 17 ∨ op = 19 ∨ op = 49 ∨ op = 53 ∨ op = 57 ∨ op = 61 then some 1
  else if op = 18 ∨ op = 50 ∨ op = 54 ∨ op = 58 ∨ op = 62 then some 2
  else none

/-- PREFX checks by an open choice (log 24). -/
def gateExcepted (i : Instr) : Prop := ∃ a b c, i = .prefx a b c

/-- The custom floating-point memory instructions (49_fpu_move_mem.md, Table 7-5). -/
def customFpMemory (b n x q : BitVec 5) (off : BitVec 8) (off9 : BitVec 9) : List Instr :=
  [.gslwlec1 b n x, .gsldlec1 b n x, .gsswlec1 b n x, .gssdlec1 b n x, .gslwgtc1 b n x, .gsldgtc1 b n x,
   .gsswgtc1 b n x, .gssdgtc1 b n x, .gslwxc1 b n x off, .gsldxc1 b n x off, .gsswxc1 b n x off,
   .gssdxc1 b n x off, .gslwlc1 b n off, .gsldlc1 b n off, .gsswlc1 b n off, .gssdlc1 b n off,
   .gslwrc1 b n off, .gsldrc1 b n off, .gsswrc1 b n off, .gssdrc1 b n off, .gslqc1 b n off9 q,
   .gssqc1 b n off9 q]

end Sys2Proof.Claims

/-- For every instruction with a word: opcode COP0 or CACHE with coprocessor 0 unusable, opcode COP1, COP1X,
LWC1, LDC1, SWC1, SDC1 with coprocessor 1 unusable (PREFX excepted, log 24), and opcode COP2, LWC2, LDC2,
SWC2, SDC2 with coprocessor 2 unusable take Coprocessor Unusable with Cause.CE the unit. So do GSLE and GSGT
(opcode SPECIAL2) with coprocessor 2 unusable, MOVF and MOVT with coprocessor 1 unusable, and, with
coprocessor 2 usable and coprocessor 1 not, the custom floating-point memory instructions, for unit 1. What
a log entry is cited for is the choice of the model. (60_exceptions.md rules R947, R948; 45_cp0_priv.md rule
R500; 49_fpu_move_mem.md rule R1142; notes/assumptions/24.md). -/
def Obligations.CoprocessorUnusableComesFirst : Prop :=
  (∀ (s : State) (i : Instr) (w : Word) (n : BitVec 2), encode i = some w →
    unitOf (w.extractLsb' 26 6).toNat = some n → ¬ gateExcepted i → s.copUsable n = false →
    Takes i s (.cpU n) ∧ (s.takeException (.cpU n)).cp0.cause.extractLsb' 28 2 = n) ∧
  (∀ (s : State) (b n x q : BitVec 5) (cc : BitVec 3) (off : BitVec 8) (off9 : BitVec 9),
    (s.cu 2 = false → Takes (.gsle b n) s (.cpU 2) ∧ Takes (.gsgt b n) s (.cpU 2)) ∧
    (s.cu 1 = false → Takes (.movf b cc n) s (.cpU 1) ∧ Takes (.movt b cc n) s (.cpU 1)) ∧
    (s.cu 2 = true → s.cu 1 = false → ∀ i ∈ customFpMemory b n x q off off9, Takes i s (.cpU 1)))

namespace Sys2Proof.Claims

/-- Bit `n` of Cause.IP from its sources (60_exceptions.md rules R970, R971). -/
def Requests (s : State) (n : Nat) : Prop :=
  if n < 2 then s.cp0.cause.getLsbD (8 + n) = true
  else if n < 7 then s.lines.getLsbD (n - 2) = true
  else s.lines.getLsbD 5 = true ∨ s.cp0.cause.getLsbD 30 = true ∨
    (s.cp0.perfCtl0.getLsbD 4 = true ∧ s.cp0.perfCnt0.getLsbD 63 = true) ∨
    (s.cp0.perfCtl1.getLsbD 4 = true ∧ s.cp0.perfCnt1.getLsbD 63 = true)

/-- Request `n` is enabled by its mask bit. -/
def EnabledRequest (s : State) (n : Nat) : Prop := Requests s n ∧ s.cp0.status.getLsbD (8 + n) = true

/-- The vector number: the highest enabled request (60_exceptions.md rule R978). -/
def HighestRequest (s : State) (n : Nat) : Prop :=
  n < 8 ∧ EnabledRequest s n ∧ ∀ m, n < m → m < 8 → ¬ EnabledRequest s m

/-- IntCtl.VS (11_cp0_registers.md rule R123). -/
def vectorSpacing (s : State) : Nat := (s.cp0.intCtl.extractLsb' 5 5).toNat

/-- The interrupt is entered at `target`. -/
def InterruptEntered (s : State) (target : Dword) : Prop :=
  ∃ t, s.enterInterrupt = .next t ∧ t.pc = target ∧ t.npc = target + 4 ∧ t.inDelaySlot = false ∧
    t.cp0.cause.extractLsb' 2 5 = 0#5 ∧ t.cp0.cause.getLsbD 31 = s.inDelaySlot ∧
    t.cp0.status = s.cp0.status ||| 2 ∧
    t.cp0.epc = (if s.inDelaySlot then s.pc - 4 else s.pc) ∧ s.sameGprs t ∧ s.sameBytes t

end Sys2Proof.Claims

/-- An interrupt is pending exactly when IE = 1, EXL = ERL = 0 and some IP bit is set with its IM bit, where
IP1..0 are Cause bits 9:8, IP6..2 the lines 4..0, and IP7 is line 5, the timer or a counter overflow. With
no reset input, a step with Debug.SSt = 1 is refused by name (debug mode is out of scope, R984; log 68);
else a step without a pending interrupt runs the instruction; with one it either enters the interrupt or
runs the instruction, counting the wait, and it enters the interrupt once the wait has reached the largest
delay, an open number (that the delay is open and bounded is the choice of log 14). Entry gives ExcCode 0,
BD and EPC for the instruction to resume, EXL = 1, at the general vector with Cause.IV = 0, and with IV = 1
at 0x200 + n * IntCtl.VS * 32 from the base, n the highest enabled request, where VS is listed (0, 1, 2, 4,
8, 16) and BEV = 0 or VS = 0. With IV = 1 an unlisted VS, and BEV = 1 with another VS than 0, end in a named
fault (log 63). What a log entry is cited for is the choice of the model. (60_exceptions.md rules R960,
R961, R970 to R972, R975, R976, R978, R984; 11_cp0_registers.md rules R123, R152; 92_eei_decisions.md D22,
D25; notes/assumptions/14.md; notes/assumptions/63.md; notes/assumptions/68.md). -/
def Obligations.InterruptsPendingByMaskLevelAndEnable : Prop :=
  ∀ s : State,
    (s.interruptPending = true ↔
      s.cp0.status.getLsbD 0 = true ∧ s.cp0.status.getLsbD 1 = false ∧ s.cp0.status.getLsbD 2 = false ∧
      ∃ n, n < 8 ∧ EnabledRequest s n) ∧
    (s.coldReset = false → s.softReset = false → s.nmi = false → (s.cp0.debug).getLsbD 8 = true →
      step s = .refused .debugMode) ∧
    (s.coldReset = false → s.softReset = false → s.nmi = false → (s.cp0.debug).getLsbD 8 = false →
      (s.interruptPending = false → step s = finishStep s.opened s.opened.runInstruction) ∧
      (s.interruptPending = true →
        step s = s.enterInterrupt ∨ step s = finishStep s.opened s.opened.runInstruction) ∧
      (s.interruptPending = true → Config.maxRecognitionDelay ≤ s.intWait → step s = s.enterInterrupt)) ∧
    (s.interruptPending = true → s.opened.intWait = s.intWait + 1) ∧
    (s.exl = false → s.cp0.cause.getLsbD 23 = false → InterruptEntered s (baseOf s + 0x180)) ∧
    (s.exl = false → s.cp0.cause.getLsbD 23 = true →
      (vectorSpacing s ∈ [0, 1, 2, 4, 8, 16] → (s.cp0.status.getLsbD 22 = false ∨ vectorSpacing s = 0) →
        ∀ n, HighestRequest s n →
          InterruptEntered s (baseOf s + BitVec.ofNat 64 (0x200 + n * (vectorSpacing s * 32)))) ∧
      (vectorSpacing s ∉ [0, 1, 2, 4, 8, 16] → s.enterInterrupt = .fault .illegalVectorSpacing) ∧
      (vectorSpacing s ∈ [1, 2, 4, 8, 16] → s.cp0.status.getLsbD 22 = true →
        s.enterInterrupt = .fault .vectoredWithBev))

namespace Sys2Proof.Claims

/-- The values a cold reset leaves (10_state.md rule R70). -/
def ResetValues (t : State) : Prop :=
  t.pc = 0xFFFFFFFFBFC00000 ∧ t.npc = 0xFFFFFFFFBFC00004 ∧ t.inDelaySlot = false ∧
  t.cp0.status = 0x30C000E4 ∧ t.cp0.config = 0x80034482 ∧ t.cp0.random = 63 ∧ t.cp0.wired = 0 ∧
  t.cp0.perfCtl0 = 0xC0000000 ∧ t.cp0.perfCtl1 = 0x40000000 ∧ t.cp0.debug = 0x02018000 ∧
  t.fcsr = 0x00000F80 ∧ t.cp0.ebase.extractLsb' 30 2 = 2#2 ∧ t.lines = 0 ∧
  t.readCp0 15 0 = some 0x0000000000006303 ∧ t.readCp0 16 1 = some 0xFFFFFFFFFEE37193 ∧
  t.readCp0 16 2 = some 0xFFFFFFFF80001643 ∧ t.readCp0 16 3 = some 0x00000000000000A0 ∧
  t.readCp0 12 2 = some 0

end Sys2Proof.Claims

/-- State.reset and the state after a cold reset have pc at the reset vector and the stated Status, Config,
Random, Wired, performance controls, Debug, FCSR, cleared external requests and EBase top bits; a cold reset
saves the old pc in ErrorEPC; that it keeps memory is the choice of log 16. That a cold reset comes before a
soft reset and a soft reset before an NMI, when several are asserted, is the choice of log 62. A soft reset
and an NMI save the pc to resume at in ErrorEPC, set ERL and BEV (soft reset: SR, and NMI clear; NMI: NMI),
go to the reset vector, and keep general registers, memory, the TLB and EPC. What a log entry is cited for
is the choice of the model. (70_reset_and_hazards.md rules R1020 to R1024; 10_state.md rule R70;
notes/assumptions/16.md; notes/assumptions/62.md). -/
def Obligations.ResetsGiveTheStatedValues : Prop :=
  ResetValues State.reset ∧
  ∀ s : State,
    (s.coldReset = true → ∃ t, step s = .next t ∧ ResetValues t ∧ t.cp0.errorEpc = s.pc ∧
      t.mem = s.mem) ∧
    (s.coldReset = false → (s.softReset = true ∨ s.nmi = true) → ∃ t, step s = .next t ∧
      t.pc = 0xFFFFFFFFBFC00000 ∧ t.npc = 0xFFFFFFFFBFC00004 ∧ t.inDelaySlot = false ∧
      t.cp0.errorEpc = (if s.inDelaySlot then s.pc - 4 else s.pc) ∧
      t.cp0.status.getLsbD 2 = true ∧ t.cp0.status.getLsbD 22 = true ∧
      t.cp0.status.getLsbD 19 = !s.softReset ∧
      (s.softReset = true → t.cp0.status.getLsbD 20 = true ∧ t.lines = 0) ∧
      (∀ b, b ≠ 2 → b ≠ 19 → b ≠ 20 → b ≠ 22 → t.cp0.status.getLsbD b = s.cp0.status.getLsbD b) ∧
      t.cp0.cause = s.cp0.cause ∧ t.cp0.epc = s.cp0.epc ∧ t.tlb = s.tlb ∧ s.sameGprs t ∧ s.sameBytes t)

namespace Sys2Proof.Claims

/-- The instruction word in memory at a physical address, low byte first. -/
def storedWord (s : State) (a : Nat) : Word :=
  (readByte s.mem (a + 3) ++ readByte s.mem (a + 2) ++ readByte s.mem (a + 1) ++ readByte s.mem a : BitVec 32)

/-- What a fetch at a word boundary gives. -/
def FetchGives (s : State) (g : Target) : Prop :=
  (InMemory s g.pa.toNat 4 → ∃ w, s.fetch = .ok (w, Remembered s s.pc g) ∧
    (w = storedWord s g.pa.toNat ∨ ∃ x ∈ s.stale, x.addr = g.pa.toNat ∧ x.old = w)) ∧
  (AnswersErr s g.pa.toNat 4 → s.fetch = .exc .ibe)

/-- The step of a word that no instruction has: Coprocessor Unusable by its opcode, else Reserved Instruction or
a refusal. That no word under COP1 or COP1X is exempt as an extended-double conversion (49_fpu.md rule R880)
is the model's choice, log 18. -/
def UnknownWord (s o u : State) (w : Word) : Prop :=
  let op := (w.extractLsb' 26 6).toNat
  let reserved := step s = .next ((u.takeException .ri).tick o) ∨ step s = .refused .unknownWord
  if op = 16 ∧ u.copUsable 0 = false then step s = .next ((u.takeException (.cpU 0)).tick o)
  else if (op = 17 ∨ op = 19) ∧ u.cu 1 = false then step s = .next ((u.takeException (.cpU 1)).tick o)
  else reserved

/-- A performance counter with control `ctl` counts in the mode of `s` (11_cp0_registers.md rules R157, R160). -/
def CountsIn (s : State) (ctl : Word) : Prop :=
  s.cp0.status.getLsbD 2 = false ∧
  ((s.cp0.status.getLsbD 1 = true ∧ ctl.getLsbD 0 = true) ∨
    (s.cp0.status.getLsbD 1 = false ∧
      ((s.cp0.status.extractLsb' 3 2 = 0#2 ∧ ctl.getLsbD 1 = true) ∨
        (s.cp0.status.extractLsb' 3 2 = 1#2 ∧ ctl.getLsbD 2 = true) ∨
        (s.cp0.status.extractLsb' 3 2 = 2#2 ∧ ctl.getLsbD 3 = true))))

/-- Count meets Compare while it advances from `count` to `after`, both ends among the values it takes
(11_cp0_registers.md rules R111, R112). -/
def MeetsWithin (count after compare : Word) : Prop :=
  ∃ k : Nat, k ≤ (after - count).toNat ∧ count + BitVec.ofNat 32 k = compare

/-- How a performance counter and the steps it has stood still change in one step (11_cp0_registers.md rule R160,
60_exceptions.md rule R981, 92_eei_decisions.md D14). -/
def CounterMoves (counts : Prop) (cnt cnt' : Dword) (idle idle' : Nat) : Prop :=
  (¬ counts → cnt' = cnt ∧ idle' = idle) ∧
  (counts → cnt.toNat ≤ cnt'.toNat ∧ (cnt' = cnt → idle' = idle + 1) ∧ (cnt' ≠ cnt → idle' = 0) ∧
    (Config.maxPerfIdle ≤ idle → cnt ≠ BitVec.allOnes 64 → cnt' ≠ cnt))

/-- The end of a step that started in `o` takes `t` to `u` (00_scope.md rule R14 step 8). -/
def Ticks (o t u : State) : Prop :=
  (∃ ti : Bool, (ti = true ↔ MeetsWithin t.cp0.count u.cp0.count t.cp0.compare) ∧
    u = { t with
      cp0 := { t.cp0 with
        random := if t.cp0.random.toNat ≤ t.cp0.wired.toNat then 63 else t.cp0.random - 1
        count := u.cp0.count
        cause := t.cp0.cause ||| (if ti then 0x40000000 else 0)
        perfCnt0 := u.cp0.perfCnt0, perfCnt1 := u.cp0.perfCnt1 }
      countIdle := u.countIdle
      perf0Idle := u.perf0Idle
      perf1Idle := u.perf1Idle
      freeCounter := t.freeCounter + 1 }) ∧
  (t.cp0.cause.getLsbD 27 = true → u.cp0.count = t.cp0.count ∧ u.countIdle = 0) ∧
  (t.cp0.cause.getLsbD 27 = false →
    (u.cp0.count = t.cp0.count → u.countIdle = t.countIdle + 1) ∧
    (u.cp0.count ≠ t.cp0.count → u.countIdle = 0) ∧
    (Config.maxCountIdle ≤ t.countIdle → u.cp0.count ≠ t.cp0.count)) ∧
  CounterMoves (CountsIn o o.cp0.perfCtl0) t.cp0.perfCnt0 u.cp0.perfCnt0 t.perf0Idle u.perf0Idle ∧
  CounterMoves (CountsIn o o.cp0.perfCtl1) t.cp0.perfCnt1 u.cp0.perfCnt1 t.perf1Idle u.perf1Idle

end Sys2Proof.Claims

/-- With no reset input, Debug.SSt = 0 (O53 says what a step with 1 does) and no pending interrupt: the
fetch at the opened state gives the four bytes at the translated pc, low byte first, or, at a word
overwritten since, one of its old values (R237, log 17); Bus Error where the bus answers ERR; Address Error
off a word boundary. If the word decodes to i, the step is exec i there, followed by the tick. The opened
state differs only in the model's records (stale words, afterJump, two waits) and in that all buffered
stores may have reached memory; they have when the buffer has waited the largest delay (R225, R232; log 45).
The tick moves Random from Wired or below to 63, else down by one (log 56); Count stands still with Cause.DC
= 1, else advances by any amount, by a bounded number of steps at the latest; Cause.TI is set exactly when
Count meets Compare within the advance, both ends counted; a performance counter stands still unless an
enable bit names the mode, else it never decreases and also moves within a bound (R981, log 57). Nothing
else changes but the model's own counters. A fetch exception is taken. A word that decodes to nothing takes
Coprocessor Unusable when its opcode is COP0, COP1 or COP1X and the unit is not usable, else Reserved
Instruction or a refusal; that none of these words is one of the extended-double conversions, which take no
Coprocessor Unusable (R880), is the model's choice (log 18). What a log entry is cited for is the choice of
the model. (00_scope.md rule R14; 20_memory.md rules R181, R183, R186, R200, R225, R232, R237;
30_encoding.md rule R280; 49_fpu.md rule R880; 60_exceptions.md rules R940, R944, R947, R981;
11_cp0_registers.md rules R93, R110 to R112, R128, R157, R160; notes/assumptions/17.md;
notes/assumptions/18.md; notes/assumptions/45.md; notes/assumptions/56.md; notes/assumptions/57.md;
notes/assumptions/68.md). -/
def Obligations.StepRunsTheDecodedInstruction : Prop :=
  ∀ s : State, s.coldReset = false → s.softReset = false → s.nmi = false →
    (s.cp0.debug).getLsbD 8 = false → s.interruptPending = false →
    let o := s.opened
    o = { s with
      stale := o.stale, afterJump := o.afterJump, intWait := o.intWait, accelWait := o.accelWait
      mem := o.mem, accel := o.accel } ∧
    ((o.mem = s.mem ∧ o.accel = s.accel) ∨ s.received o (s.accel, [])) ∧
    (Config.maxBufferDelay ≤ s.accelWait → s.received o (s.accel, [])) ∧
    (o.pc.toNat % 4 = 0 → ∀ g, Reaches o o.pc .fetch g → FetchGives o g) ∧
    (∀ w u i, o.fetch = .ok (w, u) → decode w = some i →
      (∀ t, exec i u = .next t → step s = .next (t.tick o)) ∧
      (∀ f, exec i u = .fault f → step s = .fault f) ∧
      (∀ r, exec i u = .refused r → step s = .refused r)) ∧
    (∀ w u, o.fetch = .ok (w, u) → decode w = none → UnknownWord s o u w) ∧
    (∀ e, o.fetch = .exc e → step s = .next ((o.takeException e).tick o)) ∧
    (s.pc.toNat % 4 ≠ 0 → o.fetch = .exc (.addressError false s.pc)) ∧
    (∀ t : State, Ticks o t (t.tick o))

/-- Example words of the spec, one or more for each family, decode to the instruction and operands that the spec
prints beside them. (95_test_vectors.md; 30_encoding.md rules R260 to R286). -/
def Obligations.SampleWordsDecodeAsTheSpecWritesThem : Prop :=
  decode 0x8C220004 = some (.lw 1 2 4) ∧ decode 0xA8220001 = some (.swl 1 2 1) ∧
  decode 0x00221821 = some (.addu 1 2 3) ∧ decode 0x20220001 = some (.addi 1 2 1) ∧
  decode 0x70231821 = some (.clo 1 3 3) ∧ decode 0x7C0218A0 = some (.wsbh 2 3) ∧
  decode 0x0022001A = some (.div 1 2) ∧ decode 0x00021840 = some (.sll 2 3 1) ∧
  decode 0x7C225A00 = some (.ext 1 2 11 8) ∧ decode 0x50220003 = some (.beql 1 2 3) ∧
  decode 0x00201009 = some (.jalr 1 2) ∧ decode 0x40028001 = some (.mfc0 2 16 1) ∧
  decode 0x42000018 = some .eret ∧ decode 0xBC350000 = some (.cache 1 21 0) ∧
  decode 0x00220030 = some (.tge 1 2 0) ∧ decode 0x00241801 = some (.movf 1 1 3) ∧
  decode 0xC8240025 = some (.gslq 1 4 0 5) ∧ decode 0xF8221811 = some (.gsshx 1 2 3 2) ∧
  decode 0x4B0208C0 = some (.paddsh 2 1 3) ∧ decode 0x460008C5 = some (.absS 1 3) ∧
  decode 0x46C20A32 = some (.cEqPs 2 1 2) ∧ decode 0x44C2F800 = some (.ctc1 2 31) ∧
  decode 0x4C2200C5 = some (.luxc1 1 2 3) ∧ decode 0 = some .nop

/-- For every well-formed instruction, with every operand at every value its field admits, the encoder gives
a 32-bit word and the decoder reads that instruction back from it. A word that decodes is, in every bit, the
word of the instruction it decodes to: a word with a bit set that the encoding fixes at 0, a reserved
field's too, does not decode to that row. The instructions without a known encoding and the SLL words with
names of their own are not well-formed. (30_encoding.md rules R260 to R286). -/
def Obligations.DecodeInvertsEncode : Prop :=
  (∀ i : Instr, Instr.wellFormed i = true → ∃ w, encode i = some w ∧ decode w = some i) ∧
  (∀ (w : Word) (i : Instr), decode w = some i → encode i = some w)

/-- For every state with the invariant, if a step answers a next state, that state has the invariant: memory
in canonical form, less than 32 bytes in the store buffer, the reserved and fixed bits of the CP0 registers
as the field table of each register gives them (of Debug all but LSNM and SSt; EBase.CPUNum, which the chip
wires, may have any value and is left out), FCSR bits 21:18 clear, and npc = pc + 4 outside a delay slot.
(11_cp0_registers.md rule R177 and the field tables, rules R138, R150, R152, R157, R165; 10_state.md rules
R53, R60; 49_fpu_move_mem.md rule R906; 00_scope.md rule R14; 20_memory.md rules R180 to R183, R225). -/
def Obligations.EveryStepKeepsTheInvariant : Prop :=
  ∀ s t : State, s.invariant = true → step s = .next t → t.invariant = true

/-- State.reset meets the invariant that every step keeps. (10_state.md rule R70; 70_reset_and_hazards.md rule
R1021). -/
def Obligations.ResetHasTheInvariant : Prop :=
  State.reset.invariant = true

/-- For every instruction and every state in which coprocessor 0 is not usable, if exec answers a next state,
the TLB is unchanged, and either every CP0 register but LLAddr (which LL writes) is unchanged, or the next
state is exception entry from a state with the same CP0 registers and TLB. So such code leaves its mode only
through an exception. (45_cp0_priv.md rule R500; 60_exceptions.md rules R931, R947, R960). -/
def Obligations.UnprivilegedCodeChangesSystemStateOnlyByExceptions : Prop :=
  ∀ (i : Instr) (s t : State), s.copUsable 0 = false → exec i s = .next t →
    t.tlb = s.tlb ∧
    (t.cp0 = { s.cp0 with llAddr := t.cp0.llAddr } ∨
      ∃ (u : State) (e : Exc), t = u.takeException e ∧ u.cp0 = s.cp0 ∧ u.tlb = s.tlb)

end
end

