-- ==== Sys2Proof/Laws/Decode.lean ====
section
/-!
SUPPORT. What each field of an encoded word reads, and that only the word of an instruction decodes to it.
-/
namespace Sys2Proof

/-- Bit 5 is the top bit of the function field. -/
theorem fieldFive_eq (w : Word) : fieldFive w = (fieldF w).extractLsb' 5 1 := by
  apply BitVec.eq_of_getLsbD_eq
  intro i hi
  have : i = 0 := by omega
  subst this
  simp [fieldFive, fieldF]

/-- Bit 25 is the top bit of field A. -/
theorem fieldCo_eq (w : Word) : fieldCo w = (fieldA w).extractLsb' 4 1 := by
  apply BitVec.eq_of_getLsbD_eq
  intro i hi
  have : i = 0 := by omega
  subst this
  simp [fieldCo, fieldA]

@[simp] theorem fieldOp_encR (op : BitVec 6) (a : BitVec 5) (b : BitVec 5) (c : BitVec 5) (d : BitVec 5) (f : BitVec 6) :
    fieldOp (encR op a b c d f) = op := by
  simp only [fieldOp, encR, BitVec.extractLsb'_append_eq_ite]; simp

@[simp] theorem fieldA_encR (op : BitVec 6) (a : BitVec 5) (b : BitVec 5) (c : BitVec 5) (d : BitVec 5) (f : BitVec 6) :
    fieldA (encR op a b c d f) = a := by
  simp only [fieldA, encR, BitVec.extractLsb'_append_eq_ite]; simp

@[simp] theorem fieldB_encR (op : BitVec 6) (a : BitVec 5) (b : BitVec 5) (c : BitVec 5) (d : BitVec 5) (f : BitVec 6) :
    fieldB (encR op a b c d f) = b := by
  simp only [fieldB, encR, BitVec.extractLsb'_append_eq_ite]; simp

@[simp] theorem fieldC_encR (op : BitVec 6) (a : BitVec 5) (b : BitVec 5) (c : BitVec 5) (d : BitVec 5) (f : BitVec 6) :
    fieldC (encR op a b c d f) = c := by
  simp only [fieldC, encR, BitVec.extractLsb'_append_eq_ite]; simp

@[simp] theorem fieldD_encR (op : BitVec 6) (a : BitVec 5) (b : BitVec 5) (c : BitVec 5) (d : BitVec 5) (f : BitVec 6) :
    fieldD (encR op a b c d f) = d := by
  simp only [fieldD, encR, BitVec.extractLsb'_append_eq_ite]; simp

@[simp] theorem fieldF_encR (op : BitVec 6) (a : BitVec 5) (b : BitVec 5) (c : BitVec 5) (d : BitVec 5) (f : BitVec 6) :
    fieldF (encR op a b c d f) = f := by
  simp only [fieldF, encR, BitVec.extractLsb'_append_eq_ite]; simp

@[simp] theorem fieldFive_encR (op : BitVec 6) (a : BitVec 5) (b : BitVec 5) (c : BitVec 5) (d : BitVec 5) (f : BitVec 6) :
    fieldFive (encR op a b c d f) = (f.extractLsb' 5 1) := by
  rw [fieldFive_eq, fieldF_encR]

@[simp] theorem fieldCo_encR (op : BitVec 6) (a : BitVec 5) (b : BitVec 5) (c : BitVec 5) (d : BitVec 5) (f : BitVec 6) :
    fieldCo (encR op a b c d f) = (a.extractLsb' 4 1) := by
  rw [fieldCo_eq, fieldA_encR]

@[simp] theorem fieldOp_encI (op : BitVec 6) (a : BitVec 5) (b : BitVec 5) (imm : BitVec 16) :
    fieldOp (encI op a b imm) = op := by
  simp only [fieldOp, encI, BitVec.extractLsb'_append_eq_ite]; simp

@[simp] theorem fieldA_encI (op : BitVec 6) (a : BitVec 5) (b : BitVec 5) (imm : BitVec 16) :
    fieldA (encI op a b imm) = a := by
  simp only [fieldA, encI, BitVec.extractLsb'_append_eq_ite]; simp

@[simp] theorem fieldB_encI (op : BitVec 6) (a : BitVec 5) (b : BitVec 5) (imm : BitVec 16) :
    fieldB (encI op a b imm) = b := by
  simp only [fieldB, encI, BitVec.extractLsb'_append_eq_ite]; simp

@[simp] theorem fieldImm_encI (op : BitVec 6) (a : BitVec 5) (b : BitVec 5) (imm : BitVec 16) :
    fieldImm (encI op a b imm) = imm := by
  simp only [fieldImm, encI, BitVec.extractLsb'_append_eq_ite]; simp

@[simp] theorem fieldOp_encJ (op : BitVec 6) (idx : BitVec 26) :
    fieldOp (encJ op idx) = op := by
  simp only [fieldOp, encJ, BitVec.extractLsb'_append_eq_ite]; simp

@[simp] theorem fieldIdx_encJ (op : BitVec 6) (idx : BitVec 26) :
    fieldIdx (encJ op idx) = idx := by
  simp only [fieldIdx, encJ, BitVec.extractLsb'_append_eq_ite]; simp

@[simp] theorem fieldOp_encCode (op : BitVec 6) (code : BitVec 20) (f : BitVec 6) :
    fieldOp (encCode op code f) = op := by
  simp only [fieldOp, encCode, BitVec.extractLsb'_append_eq_ite]; simp

@[simp] theorem fieldCode_encCode (op : BitVec 6) (code : BitVec 20) (f : BitVec 6) :
    fieldCode (encCode op code f) = code := by
  simp only [fieldCode, encCode, BitVec.extractLsb'_append_eq_ite]; simp

@[simp] theorem fieldF_encCode (op : BitVec 6) (code : BitVec 20) (f : BitVec 6) :
    fieldF (encCode op code f) = f := by
  simp only [fieldF, encCode, BitVec.extractLsb'_append_eq_ite]; simp

@[simp] theorem fieldOp_encTrap (op : BitVec 6) (a : BitVec 5) (b : BitVec 5) (tcode : BitVec 10) (f : BitVec 6) :
    fieldOp (encTrap op a b tcode f) = op := by
  simp only [fieldOp, encTrap, BitVec.extractLsb'_append_eq_ite]; simp

@[simp] theorem fieldA_encTrap (op : BitVec 6) (a : BitVec 5) (b : BitVec 5) (tcode : BitVec 10) (f : BitVec 6) :
    fieldA (encTrap op a b tcode f) = a := by
  simp only [fieldA, encTrap, BitVec.extractLsb'_append_eq_ite]; simp

@[simp] theorem fieldB_encTrap (op : BitVec 6) (a : BitVec 5) (b : BitVec 5) (tcode : BitVec 10) (f : BitVec 6) :
    fieldB (encTrap op a b tcode f) = b := by
  simp only [fieldB, encTrap, BitVec.extractLsb'_append_eq_ite]; simp

@[simp] theorem fieldTcode_encTrap (op : BitVec 6) (a : BitVec 5) (b : BitVec 5) (tcode : BitVec 10) (f : BitVec 6) :
    fieldTcode (encTrap op a b tcode f) = tcode := by
  simp only [fieldTcode, encTrap, BitVec.extractLsb'_append_eq_ite]; simp

@[simp] theorem fieldF_encTrap (op : BitVec 6) (a : BitVec 5) (b : BitVec 5) (tcode : BitVec 10) (f : BitVec 6) :
    fieldF (encTrap op a b tcode f) = f := by
  simp only [fieldF, encTrap, BitVec.extractLsb'_append_eq_ite]; simp

@[simp] theorem fieldOp_encWait (op : BitVec 6) (co : BitVec 1) (wcode : BitVec 19) (f : BitVec 6) :
    fieldOp (encWait op co wcode f) = op := by
  simp only [fieldOp, encWait, BitVec.extractLsb'_append_eq_ite]; simp

@[simp] theorem fieldCo_encWait (op : BitVec 6) (co : BitVec 1) (wcode : BitVec 19) (f : BitVec 6) :
    fieldCo (encWait op co wcode f) = co := by
  simp only [fieldCo, encWait, BitVec.extractLsb'_append_eq_ite]; simp

@[simp] theorem fieldWcode_encWait (op : BitVec 6) (co : BitVec 1) (wcode : BitVec 19) (f : BitVec 6) :
    fieldWcode (encWait op co wcode f) = wcode := by
  simp only [fieldWcode, encWait, BitVec.extractLsb'_append_eq_ite]; simp

@[simp] theorem fieldF_encWait (op : BitVec 6) (co : BitVec 1) (wcode : BitVec 19) (f : BitVec 6) :
    fieldF (encWait op co wcode f) = f := by
  simp only [fieldF, encWait, BitVec.extractLsb'_append_eq_ite]; simp

@[simp] theorem fieldOp_encX (op : BitVec 6) (a : BitVec 5) (b : BitVec 5) (c : BitVec 5) (off8 : BitVec 8) (sel : BitVec 3) :
    fieldOp (encX op a b c off8 sel) = op := by
  simp only [fieldOp, encX, BitVec.extractLsb'_append_eq_ite]; simp

@[simp] theorem fieldA_encX (op : BitVec 6) (a : BitVec 5) (b : BitVec 5) (c : BitVec 5) (off8 : BitVec 8) (sel : BitVec 3) :
    fieldA (encX op a b c off8 sel) = a := by
  simp only [fieldA, encX, BitVec.extractLsb'_append_eq_ite]; simp

@[simp] theorem fieldB_encX (op : BitVec 6) (a : BitVec 5) (b : BitVec 5) (c : BitVec 5) (off8 : BitVec 8) (sel : BitVec 3) :
    fieldB (encX op a b c off8 sel) = b := by
  simp only [fieldB, encX, BitVec.extractLsb'_append_eq_ite]; simp

@[simp] theorem fieldC_encX (op : BitVec 6) (a : BitVec 5) (b : BitVec 5) (c : BitVec 5) (off8 : BitVec 8) (sel : BitVec 3) :
    fieldC (encX op a b c off8 sel) = c := by
  simp only [fieldC, encX, BitVec.extractLsb'_append_eq_ite]; simp

@[simp] theorem fieldOff8_encX (op : BitVec 6) (a : BitVec 5) (b : BitVec 5) (c : BitVec 5) (off8 : BitVec 8) (sel : BitVec 3) :
    fieldOff8 (encX op a b c off8 sel) = off8 := by
  simp only [fieldOff8, encX, BitVec.extractLsb'_append_eq_ite]; simp

@[simp] theorem fieldSel_encX (op : BitVec 6) (a : BitVec 5) (b : BitVec 5) (c : BitVec 5) (off8 : BitVec 8) (sel : BitVec 3) :
    fieldSel (encX op a b c off8 sel) = sel := by
  simp only [fieldSel, encX, BitVec.extractLsb'_append_eq_ite]; simp

@[simp] theorem fieldOp_encL (op : BitVec 6) (a : BitVec 5) (b : BitVec 5) (pad : BitVec 2) (offl : BitVec 8) (f : BitVec 6) :
    fieldOp (encL op a b pad offl f) = op := by
  simp only [fieldOp, encL, BitVec.extractLsb'_append_eq_ite]; simp

@[simp] theorem fieldA_encL (op : BitVec 6) (a : BitVec 5) (b : BitVec 5) (pad : BitVec 2) (offl : BitVec 8) (f : BitVec 6) :
    fieldA (encL op a b pad offl f) = a := by
  simp only [fieldA, encL, BitVec.extractLsb'_append_eq_ite]; simp

@[simp] theorem fieldB_encL (op : BitVec 6) (a : BitVec 5) (b : BitVec 5) (pad : BitVec 2) (offl : BitVec 8) (f : BitVec 6) :
    fieldB (encL op a b pad offl f) = b := by
  simp only [fieldB, encL, BitVec.extractLsb'_append_eq_ite]; simp

@[simp] theorem fieldPad_encL (op : BitVec 6) (a : BitVec 5) (b : BitVec 5) (pad : BitVec 2) (offl : BitVec 8) (f : BitVec 6) :
    fieldPad (encL op a b pad offl f) = pad := by
  simp only [fieldPad, encL, BitVec.extractLsb'_append_eq_ite]; simp

@[simp] theorem fieldOffl_encL (op : BitVec 6) (a : BitVec 5) (b : BitVec 5) (pad : BitVec 2) (offl : BitVec 8) (f : BitVec 6) :
    fieldOffl (encL op a b pad offl f) = offl := by
  simp only [fieldOffl, encL, BitVec.extractLsb'_append_eq_ite]; simp

@[simp] theorem fieldF_encL (op : BitVec 6) (a : BitVec 5) (b : BitVec 5) (pad : BitVec 2) (offl : BitVec 8) (f : BitVec 6) :
    fieldF (encL op a b pad offl f) = f := by
  simp only [fieldF, encL, BitVec.extractLsb'_append_eq_ite]; simp

@[simp] theorem fieldFive_encL (op : BitVec 6) (a : BitVec 5) (b : BitVec 5) (pad : BitVec 2) (offl : BitVec 8) (f : BitVec 6) :
    fieldFive (encL op a b pad offl f) = (f.extractLsb' 5 1) := by
  rw [fieldFive_eq, fieldF_encL]

@[simp] theorem fieldOp_encQ (op : BitVec 6) (a : BitVec 5) (b : BitVec 5) (h : BitVec 1) (offq : BitVec 9) (five : BitVec 1) (z : BitVec 5) :
    fieldOp (encQ op a b h offq five z) = op := by
  simp only [fieldOp, encQ, BitVec.extractLsb'_append_eq_ite]; simp

@[simp] theorem fieldA_encQ (op : BitVec 6) (a : BitVec 5) (b : BitVec 5) (h : BitVec 1) (offq : BitVec 9) (five : BitVec 1) (z : BitVec 5) :
    fieldA (encQ op a b h offq five z) = a := by
  simp only [fieldA, encQ, BitVec.extractLsb'_append_eq_ite]; simp

@[simp] theorem fieldB_encQ (op : BitVec 6) (a : BitVec 5) (b : BitVec 5) (h : BitVec 1) (offq : BitVec 9) (five : BitVec 1) (z : BitVec 5) :
    fieldB (encQ op a b h offq five z) = b := by
  simp only [fieldB, encQ, BitVec.extractLsb'_append_eq_ite]; simp

@[simp] theorem fieldH_encQ (op : BitVec 6) (a : BitVec 5) (b : BitVec 5) (h : BitVec 1) (offq : BitVec 9) (five : BitVec 1) (z : BitVec 5) :
    fieldH (encQ op a b h offq five z) = h := by
  simp only [fieldH, encQ, BitVec.extractLsb'_append_eq_ite]; simp

@[simp] theorem fieldOffq_encQ (op : BitVec 6) (a : BitVec 5) (b : BitVec 5) (h : BitVec 1) (offq : BitVec 9) (five : BitVec 1) (z : BitVec 5) :
    fieldOffq (encQ op a b h offq five z) = offq := by
  simp only [fieldOffq, encQ, BitVec.extractLsb'_append_eq_ite]; simp

@[simp] theorem fieldFive_encQ (op : BitVec 6) (a : BitVec 5) (b : BitVec 5) (h : BitVec 1) (offq : BitVec 9) (five : BitVec 1) (z : BitVec 5) :
    fieldFive (encQ op a b h offq five z) = five := by
  simp only [fieldFive, encQ, BitVec.extractLsb'_append_eq_ite]; simp

@[simp] theorem fieldZ_encQ (op : BitVec 6) (a : BitVec 5) (b : BitVec 5) (h : BitVec 1) (offq : BitVec 9) (five : BitVec 1) (z : BitVec 5) :
    fieldZ (encQ op a b h offq five z) = z := by
  simp only [fieldZ, encQ, BitVec.extractLsb'_append_eq_ite]; simp

/-! ### The parts of an appended field -/

@[simp] theorem low_append_3_2 (x : BitVec 3) (y : BitVec 2) : (x ++ y).extractLsb' 0 2 = y := by
  simp only [BitVec.extractLsb'_append_eq_ite]; simp

@[simp] theorem high_append_3_2 (x : BitVec 3) (y : BitVec 2) : (x ++ y).extractLsb' 2 3 = x := by
  simp only [BitVec.extractLsb'_append_eq_ite]; simp

@[simp] theorem low_append_3_3 (x : BitVec 3) (y : BitVec 3) : (x ++ y).extractLsb' 0 3 = y := by
  simp only [BitVec.extractLsb'_append_eq_ite]; simp

@[simp] theorem high_append_3_3 (x : BitVec 3) (y : BitVec 3) : (x ++ y).extractLsb' 3 3 = x := by
  simp only [BitVec.extractLsb'_append_eq_ite]; simp

@[simp] theorem low_append_2_3 (x : BitVec 2) (y : BitVec 3) : (x ++ y).extractLsb' 0 3 = y := by
  simp only [BitVec.extractLsb'_append_eq_ite]; simp

@[simp] theorem high_append_2_3 (x : BitVec 2) (y : BitVec 3) : (x ++ y).extractLsb' 3 2 = x := by
  simp only [BitVec.extractLsb'_append_eq_ite]; simp

@[simp] theorem low_append_1_4 (x : BitVec 1) (y : BitVec 4) : (x ++ y).extractLsb' 0 4 = y := by
  simp only [BitVec.extractLsb'_append_eq_ite]; simp

@[simp] theorem high_append_1_4 (x : BitVec 1) (y : BitVec 4) : (x ++ y).extractLsb' 4 1 = x := by
  simp only [BitVec.extractLsb'_append_eq_ite]; simp

@[simp] theorem low_append_4_1 (x : BitVec 4) (y : BitVec 1) : (x ++ y).extractLsb' 0 1 = y := by
  simp only [BitVec.extractLsb'_append_eq_ite]; simp

@[simp] theorem high_append_4_1 (x : BitVec 4) (y : BitVec 1) : (x ++ y).extractLsb' 1 4 = x := by
  simp only [BitVec.extractLsb'_append_eq_ite]; simp

/-! ### The decoder by major opcode -/

theorem decode_op0 (w : Word) (h : fieldOp w = 0#6) :
    decode w = decodeSpecial (fieldA w) (fieldB w) (fieldC w) (fieldD w) (fieldF w) (fieldCode w) (fieldTcode w) := by
  simp [decode, h]

theorem decode_op1 (w : Word) (h : fieldOp w = 1#6) :
    decode w = decodeRegImm (fieldA w) (fieldB w) (fieldImm w) := by
  simp [decode, h]

theorem decode_op2 (w : Word) (h : fieldOp w = 2#6) :
    decode w = some (.j (fieldIdx w)) := by
  simp [decode, h]

theorem decode_op3 (w : Word) (h : fieldOp w = 3#6) :
    decode w = some (.jal (fieldIdx w)) := by
  simp [decode, h]

theorem decode_op4 (w : Word) (h : fieldOp w = 4#6) :
    decode w = some (.beq (fieldA w) (fieldB w) (fieldImm w)) := by
  simp [decode, h]

theorem decode_op5 (w : Word) (h : fieldOp w = 5#6) :
    decode w = some (.bne (fieldA w) (fieldB w) (fieldImm w)) := by
  simp [decode, h]

theorem decode_op6 (w : Word) (h : fieldOp w = 6#6) :
    decode w = (if fieldB w = 0#5 then some (.blez (fieldA w) (fieldImm w)) else none) := by
  simp [decode, h]

theorem decode_op7 (w : Word) (h : fieldOp w = 7#6) :
    decode w = (if fieldB w = 0#5 then some (.bgtz (fieldA w) (fieldImm w)) else none) := by
  simp [decode, h]

theorem decode_op8 (w : Word) (h : fieldOp w = 8#6) :
    decode w = some (.addi (fieldA w) (fieldB w) (fieldImm w)) := by
  simp [decode, h]

theorem decode_op9 (w : Word) (h : fieldOp w = 9#6) :
    decode w = some (.addiu (fieldA w) (fieldB w) (fieldImm w)) := by
  simp [decode, h]

theorem decode_op10 (w : Word) (h : fieldOp w = 10#6) :
    decode w = some (.slti (fieldA w) (fieldB w) (fieldImm w)) := by
  simp [decode, h]

theorem decode_op11 (w : Word) (h : fieldOp w = 11#6) :
    decode w = some (.sltiu (fieldA w) (fieldB w) (fieldImm w)) := by
  simp [decode, h]

theorem decode_op12 (w : Word) (h : fieldOp w = 12#6) :
    decode w = some (.andi (fieldA w) (fieldB w) (fieldImm w)) := by
  simp [decode, h]

theorem decode_op13 (w : Word) (h : fieldOp w = 13#6) :
    decode w = some (.ori (fieldA w) (fieldB w) (fieldImm w)) := by
  simp [decode, h]

theorem decode_op14 (w : Word) (h : fieldOp w = 14#6) :
    decode w = some (.xori (fieldA w) (fieldB w) (fieldImm w)) := by
  simp [decode, h]

theorem decode_op15 (w : Word) (h : fieldOp w = 15#6) :
    decode w = (if fieldA w = 0#5 then some (.lui (fieldB w) (fieldImm w)) else none) := by
  simp [decode, h]

theorem decode_op16 (w : Word) (h : fieldOp w = 16#6) :
    decode w = decodeCop0 (fieldA w) (fieldB w) (fieldC w) (fieldD w) (fieldF w) (fieldCo w) (fieldWcode w) := by
  simp [decode, h]

theorem decode_op17 (w : Word) (h : fieldOp w = 17#6) :
    decode w = decodeCop1 (fieldA w) (fieldB w) (fieldC w) (fieldD w) (fieldF w) (fieldImm w) := by
  simp [decode, h]

theorem decode_op18 (w : Word) (h : fieldOp w = 18#6) :
    decode w = decodeCop2 (fieldA w) (fieldB w) (fieldC w) (fieldD w) (fieldF w) := by
  simp [decode, h]

theorem decode_op19 (w : Word) (h : fieldOp w = 19#6) :
    decode w = decodeCop1x (fieldA w) (fieldB w) (fieldC w) (fieldD w) (fieldF w) := by
  simp [decode, h]

theorem decode_op20 (w : Word) (h : fieldOp w = 20#6) :
    decode w = some (.beql (fieldA w) (fieldB w) (fieldImm w)) := by
  simp [decode, h]

theorem decode_op21 (w : Word) (h : fieldOp w = 21#6) :
    decode w = some (.bnel (fieldA w) (fieldB w) (fieldImm w)) := by
  simp [decode, h]

theorem decode_op22 (w : Word) (h : fieldOp w = 22#6) :
    decode w = (if fieldB w = 0#5 then some (.blezl (fieldA w) (fieldImm w)) else none) := by
  simp [decode, h]

theorem decode_op23 (w : Word) (h : fieldOp w = 23#6) :
    decode w = (if fieldB w = 0#5 then some (.bgtzl (fieldA w) (fieldImm w)) else none) := by
  simp [decode, h]

theorem decode_op24 (w : Word) (h : fieldOp w = 24#6) :
    decode w = some (.daddi (fieldA w) (fieldB w) (fieldImm w)) := by
  simp [decode, h]

theorem decode_op25 (w : Word) (h : fieldOp w = 25#6) :
    decode w = some (.daddiu (fieldA w) (fieldB w) (fieldImm w)) := by
  simp [decode, h]

theorem decode_op26 (w : Word) (h : fieldOp w = 26#6) :
    decode w = some (.ldl (fieldA w) (fieldB w) (fieldImm w)) := by
  simp [decode, h]

theorem decode_op27 (w : Word) (h : fieldOp w = 27#6) :
    decode w = some (.ldr (fieldA w) (fieldB w) (fieldImm w)) := by
  simp [decode, h]

theorem decode_op28 (w : Word) (h : fieldOp w = 28#6) :
    decode w = decodeSpecial2 (fieldA w) (fieldB w) (fieldC w) (fieldD w) (fieldF w) (fieldCode w) := by
  simp [decode, h]

theorem decode_op31 (w : Word) (h : fieldOp w = 31#6) :
    decode w = decodeSpecial3 (fieldA w) (fieldB w) (fieldC w) (fieldD w) (fieldF w) := by
  simp [decode, h]

theorem decode_op32 (w : Word) (h : fieldOp w = 32#6) :
    decode w = some (.lb (fieldA w) (fieldB w) (fieldImm w)) := by
  simp [decode, h]

theorem decode_op33 (w : Word) (h : fieldOp w = 33#6) :
    decode w = some (.lh (fieldA w) (fieldB w) (fieldImm w)) := by
  simp [decode, h]

theorem decode_op34 (w : Word) (h : fieldOp w = 34#6) :
    decode w = some (.lwl (fieldA w) (fieldB w) (fieldImm w)) := by
  simp [decode, h]

theorem decode_op35 (w : Word) (h : fieldOp w = 35#6) :
    decode w = some (.lw (fieldA w) (fieldB w) (fieldImm w)) := by
  simp [decode, h]

theorem decode_op36 (w : Word) (h : fieldOp w = 36#6) :
    decode w = some (.lbu (fieldA w) (fieldB w) (fieldImm w)) := by
  simp [decode, h]

theorem decode_op37 (w : Word) (h : fieldOp w = 37#6) :
    decode w = some (.lhu (fieldA w) (fieldB w) (fieldImm w)) := by
  simp [decode, h]

theorem decode_op38 (w : Word) (h : fieldOp w = 38#6) :
    decode w = some (.lwr (fieldA w) (fieldB w) (fieldImm w)) := by
  simp [decode, h]

theorem decode_op39 (w : Word) (h : fieldOp w = 39#6) :
    decode w = some (.lwu (fieldA w) (fieldB w) (fieldImm w)) := by
  simp [decode, h]

theorem decode_op40 (w : Word) (h : fieldOp w = 40#6) :
    decode w = some (.sb (fieldA w) (fieldB w) (fieldImm w)) := by
  simp [decode, h]

theorem decode_op41 (w : Word) (h : fieldOp w = 41#6) :
    decode w = some (.sh (fieldA w) (fieldB w) (fieldImm w)) := by
  simp [decode, h]

theorem decode_op42 (w : Word) (h : fieldOp w = 42#6) :
    decode w = some (.swl (fieldA w) (fieldB w) (fieldImm w)) := by
  simp [decode, h]

theorem decode_op43 (w : Word) (h : fieldOp w = 43#6) :
    decode w = some (.sw (fieldA w) (fieldB w) (fieldImm w)) := by
  simp [decode, h]

theorem decode_op44 (w : Word) (h : fieldOp w = 44#6) :
    decode w = some (.sdl (fieldA w) (fieldB w) (fieldImm w)) := by
  simp [decode, h]

theorem decode_op45 (w : Word) (h : fieldOp w = 45#6) :
    decode w = some (.sdr (fieldA w) (fieldB w) (fieldImm w)) := by
  simp [decode, h]

theorem decode_op46 (w : Word) (h : fieldOp w = 46#6) :
    decode w = some (.swr (fieldA w) (fieldB w) (fieldImm w)) := by
  simp [decode, h]

theorem decode_op47 (w : Word) (h : fieldOp w = 47#6) :
    decode w = some (.cache (fieldA w) (fieldB w) (fieldImm w)) := by
  simp [decode, h]

theorem decode_op48 (w : Word) (h : fieldOp w = 48#6) :
    decode w = some (.ll (fieldA w) (fieldB w) (fieldImm w)) := by
  simp [decode, h]

theorem decode_op49 (w : Word) (h : fieldOp w = 49#6) :
    decode w = some (.lwc1 (fieldA w) (fieldB w) (fieldImm w)) := by
  simp [decode, h]

theorem decode_op50 (w : Word) (h : fieldOp w = 50#6) :
    decode w = decodeLwc2 (fieldA w) (fieldB w) (fieldC w) (fieldD w) (fieldF w) (fieldPad w) (fieldOffl w) (fieldH w) (fieldOffq w) (fieldFive w) (fieldZ w) := by
  simp [decode, h]

theorem decode_op51 (w : Word) (h : fieldOp w = 51#6) :
    decode w = some (.pref (fieldA w) (fieldB w) (fieldImm w)) := by
  simp [decode, h]

theorem decode_op52 (w : Word) (h : fieldOp w = 52#6) :
    decode w = some (.lld (fieldA w) (fieldB w) (fieldImm w)) := by
  simp [decode, h]

theorem decode_op53 (w : Word) (h : fieldOp w = 53#6) :
    decode w = some (.ldc1 (fieldA w) (fieldB w) (fieldImm w)) := by
  simp [decode, h]

theorem decode_op54 (w : Word) (h : fieldOp w = 54#6) :
    decode w = decodeLdc2 (fieldA w) (fieldB w) (fieldC w) (fieldOff8 w) (fieldSel w) := by
  simp [decode, h]

theorem decode_op55 (w : Word) (h : fieldOp w = 55#6) :
    decode w = some (.ld (fieldA w) (fieldB w) (fieldImm w)) := by
  simp [decode, h]

theorem decode_op56 (w : Word) (h : fieldOp w = 56#6) :
    decode w = some (.sc (fieldA w) (fieldB w) (fieldImm w)) := by
  simp [decode, h]

theorem decode_op57 (w : Word) (h : fieldOp w = 57#6) :
    decode w = some (.swc1 (fieldA w) (fieldB w) (fieldImm w)) := by
  simp [decode, h]

theorem decode_op58 (w : Word) (h : fieldOp w = 58#6) :
    decode w = decodeSwc2 (fieldA w) (fieldB w) (fieldC w) (fieldD w) (fieldF w) (fieldPad w) (fieldOffl w) (fieldH w) (fieldOffq w) (fieldFive w) (fieldZ w) := by
  simp [decode, h]

theorem decode_op60 (w : Word) (h : fieldOp w = 60#6) :
    decode w = some (.scd (fieldA w) (fieldB w) (fieldImm w)) := by
  simp [decode, h]

theorem decode_op61 (w : Word) (h : fieldOp w = 61#6) :
    decode w = some (.sdc1 (fieldA w) (fieldB w) (fieldImm w)) := by
  simp [decode, h]

theorem decode_op62 (w : Word) (h : fieldOp w = 62#6) :
    decode w = decodeSdc2 (fieldA w) (fieldB w) (fieldC w) (fieldOff8 w) (fieldSel w) := by
  simp [decode, h]

theorem decode_op63 (w : Word) (h : fieldOp w = 63#6) :
    decode w = some (.sd (fieldA w) (fieldB w) (fieldImm w)) := by
  simp [decode, h]

/-! ### Only the word of an instruction decodes to it (30_encoding.md rules R264, R281) -/

/-! A word is put together again from its fields. -/

theorem encR_eq_of {w : Word} {x0 : BitVec 6} {x1 : BitVec 5} {x2 : BitVec 5} {x3 : BitVec 5} {x4 : BitVec
      5} {x5 : BitVec 6}
    (h0 : fieldOp w = x0) (h1 : fieldA w = x1) (h2 : fieldB w = x2) (h3 : fieldC w = x3) (h4 : fieldD w = x4)
      (h5 : fieldF w = x5) : encR x0 x1 x2 x3 x4 x5 = w := by
  subst h0 h1 h2 h3 h4 h5
  simp only [encR, fieldOp, fieldA, fieldB, fieldC, fieldD, fieldF]
  ext i hi
  simp only [BitVec.getElem_append, BitVec.getElem_extractLsb']
  repeat' split
  all_goals (rw [← BitVec.getLsbD_eq_getElem hi]; congr 1; omega)

theorem encI_eq_of {w : Word} {x0 : BitVec 6} {x1 : BitVec 5} {x2 : BitVec 5} {x3 : BitVec 16}
    (h0 : fieldOp w = x0) (h1 : fieldA w = x1) (h2 : fieldB w = x2) (h3 : fieldImm w = x3) : encI x0 x1 x2 x3 =
      w := by
  subst h0 h1 h2 h3
  simp only [encI, fieldOp, fieldA, fieldB, fieldImm]
  ext i hi
  simp only [BitVec.getElem_append, BitVec.getElem_extractLsb']
  repeat' split
  all_goals (rw [← BitVec.getLsbD_eq_getElem hi]; congr 1; omega)

theorem encJ_eq_of {w : Word} {x0 : BitVec 6} {x1 : BitVec 26}
    (h0 : fieldOp w = x0) (h1 : fieldIdx w = x1) : encJ x0 x1 = w := by
  subst h0 h1
  simp only [encJ, fieldOp, fieldIdx]
  ext i hi
  simp only [BitVec.getElem_append, BitVec.getElem_extractLsb']
  repeat' split
  all_goals (rw [← BitVec.getLsbD_eq_getElem hi]; congr 1; omega)

theorem encCode_eq_of {w : Word} {x0 : BitVec 6} {x1 : BitVec 20} {x2 : BitVec 6}
    (h0 : fieldOp w = x0) (h1 : fieldCode w = x1) (h2 : fieldF w = x2) : encCode x0 x1 x2 = w := by
  subst h0 h1 h2
  simp only [encCode, fieldOp, fieldCode, fieldF]
  ext i hi
  simp only [BitVec.getElem_append, BitVec.getElem_extractLsb']
  repeat' split
  all_goals (rw [← BitVec.getLsbD_eq_getElem hi]; congr 1; omega)

theorem encTrap_eq_of {w : Word} {x0 : BitVec 6} {x1 : BitVec 5} {x2 : BitVec 5} {x3 : BitVec 10} {x4 : BitVec 6}
    (h0 : fieldOp w = x0) (h1 : fieldA w = x1) (h2 : fieldB w = x2) (h3 : fieldTcode w = x3) (h4 : fieldF w =
      x4) : encTrap x0 x1 x2 x3 x4 = w := by
  subst h0 h1 h2 h3 h4
  simp only [encTrap, fieldOp, fieldA, fieldB, fieldTcode, fieldF]
  ext i hi
  simp only [BitVec.getElem_append, BitVec.getElem_extractLsb']
  repeat' split
  all_goals (rw [← BitVec.getLsbD_eq_getElem hi]; congr 1; omega)

theorem encWait_eq_of {w : Word} {x0 : BitVec 6} {x1 : BitVec 1} {x2 : BitVec 19} {x3 : BitVec 6}
    (h0 : fieldOp w = x0) (h1 : fieldCo w = x1) (h2 : fieldWcode w = x2) (h3 : fieldF w = x3) : encWait x0 x1 x2
      x3 = w := by
  subst h0 h1 h2 h3
  simp only [encWait, fieldOp, fieldCo, fieldWcode, fieldF]
  ext i hi
  simp only [BitVec.getElem_append, BitVec.getElem_extractLsb']
  repeat' split
  all_goals (rw [← BitVec.getLsbD_eq_getElem hi]; congr 1; omega)

theorem encX_eq_of {w : Word} {x0 : BitVec 6} {x1 : BitVec 5} {x2 : BitVec 5} {x3 : BitVec 5} {x4 : BitVec
      8} {x5 : BitVec 3}
    (h0 : fieldOp w = x0) (h1 : fieldA w = x1) (h2 : fieldB w = x2) (h3 : fieldC w = x3) (h4 : fieldOff8 w = x4)
      (h5 : fieldSel w = x5) : encX x0 x1 x2 x3 x4 x5 = w := by
  subst h0 h1 h2 h3 h4 h5
  simp only [encX, fieldOp, fieldA, fieldB, fieldC, fieldOff8, fieldSel]
  ext i hi
  simp only [BitVec.getElem_append, BitVec.getElem_extractLsb']
  repeat' split
  all_goals (rw [← BitVec.getLsbD_eq_getElem hi]; congr 1; omega)

theorem encL_eq_of {w : Word} {x0 : BitVec 6} {x1 : BitVec 5} {x2 : BitVec 5} {x3 : BitVec 2} {x4 : BitVec
      8} {x5 : BitVec 6}
    (h0 : fieldOp w = x0) (h1 : fieldA w = x1) (h2 : fieldB w = x2) (h3 : fieldPad w = x3) (h4 : fieldOffl w =
      x4) (h5 : fieldF w = x5) : encL x0 x1 x2 x3 x4 x5 = w := by
  subst h0 h1 h2 h3 h4 h5
  simp only [encL, fieldOp, fieldA, fieldB, fieldPad, fieldOffl, fieldF]
  ext i hi
  simp only [BitVec.getElem_append, BitVec.getElem_extractLsb']
  repeat' split
  all_goals (rw [← BitVec.getLsbD_eq_getElem hi]; congr 1; omega)

theorem encQ_eq_of {w : Word} {x0 : BitVec 6} {x1 : BitVec 5} {x2 : BitVec 5} {x3 : BitVec 1} {x4 : BitVec
      9} {x5 : BitVec 1} {x6 : BitVec 5}
    (h0 : fieldOp w = x0) (h1 : fieldA w = x1) (h2 : fieldB w = x2) (h3 : fieldH w = x3) (h4 : fieldOffq w = x4)
      (h5 : fieldFive w = x5) (h6 : fieldZ w = x6) : encQ x0 x1 x2 x3 x4 x5 x6 = w := by
  subst h0 h1 h2 h3 h4 h5 h6
  simp only [encQ, fieldOp, fieldA, fieldB, fieldH, fieldOffq, fieldFive, fieldZ]
  ext i hi
  simp only [BitVec.getElem_append, BitVec.getElem_extractLsb']
  repeat' split
  all_goals (rw [← BitVec.getLsbD_eq_getElem hi]; congr 1; omega)

/-- Whatever instruction the decoder answers, its word is `w`. -/
structure AnswersOnly (w : Word) (o : Option Instr) : Prop where
  encode_eq : ∀ i, o = some i → encode i = some w

theorem AnswersOnly.none {w : Word} : AnswersOnly w none := ⟨fun _ h => nomatch h⟩

theorem AnswersOnly.some {w : Word} {i : Instr} (h : encode i = some w) : AnswersOnly w (some i) :=
  ⟨fun _ e => by cases e; exact h⟩

theorem AnswersOnly.ite {w : Word} {c : Prop} [Decidable c] {x y : Option Instr} (hx : c → AnswersOnly w x)
    (hy : AnswersOnly w y) : AnswersOnly w (if c then x else y) := by
  by_cases h : c
  · rw [if_pos h]; exact hx h
  · rw [if_neg h]; exact hy

/-- A condition code and the two bits beside it, put together again. -/
theorem cc_join {x : BitVec 5} {y : BitVec 2} (h : x.extractLsb' 0 2 = y) : x = x.extractLsb' 2 3 ++ y := by
  revert x y; decide

/-- The select field and the zeros above it, put together again. -/
theorem sel_join {x : BitVec 6} {y : BitVec 3} (h : x.extractLsb' 3 3 = y) : x = y ++ x.extractLsb' 0 3 := by
  revert x y; decide

theorem answersOnly_special {w : Word} (ho : fieldOp w = 0#6) : AnswersOnly w
    (decodeSpecial (fieldA w) (fieldB w) (fieldC w) (fieldD w) (fieldF w) (fieldCode w) (fieldTcode w)) := by
  unfold decodeSpecial decodeSll
  repeat' with_reducible first
    | refine AnswersOnly.ite (fun _ => ?_) ?_
    | refine AnswersOnly.some ?_
    | exact AnswersOnly.none
  all_goals simp only [encode, Option.some.injEq]
  all_goals first
    | with_reducible (apply encR_eq_of <;> first | assumption | rfl | simp only [*] | exact cc_join (by assumption))
    | with_reducible (apply encCode_eq_of <;> first | assumption | rfl)
    | with_reducible (apply encTrap_eq_of <;> first | assumption | rfl)

theorem answersOnly_regImm {w : Word} (ho : fieldOp w = 1#6) : AnswersOnly w
    (decodeRegImm (fieldA w) (fieldB w) (fieldImm w)) := by
  unfold decodeRegImm
  repeat' with_reducible first
    | refine AnswersOnly.ite (fun _ => ?_) ?_
    | refine AnswersOnly.some ?_
    | exact AnswersOnly.none
  all_goals simp only [encode, Option.some.injEq]
  all_goals
    with_reducible (apply encI_eq_of <;> first | assumption | rfl)

theorem answersOnly_cop0 {w : Word} (ho : fieldOp w = 16#6) : AnswersOnly w
    (decodeCop0 (fieldA w) (fieldB w) (fieldC w) (fieldD w) (fieldF w) (fieldCo w) (fieldWcode w)) := by
  unfold decodeCop0
  repeat' with_reducible first
    | refine AnswersOnly.ite (fun _ => ?_) ?_
    | refine AnswersOnly.some ?_
    | exact AnswersOnly.none
  all_goals simp only [encode, Option.some.injEq]
  all_goals first
    | with_reducible (apply encR_eq_of <;> first | assumption | rfl | simp only [*] | exact sel_join (by simp only [*]))
    | with_reducible (apply encWait_eq_of <;> first | assumption | rfl)

theorem answersOnly_cop1 {w : Word} (ho : fieldOp w = 17#6) : AnswersOnly w
    (decodeCop1 (fieldA w) (fieldB w) (fieldC w) (fieldD w) (fieldF w) (fieldImm w)) := by
  unfold decodeCop1
  repeat' with_reducible first
    | refine AnswersOnly.ite (fun _ => ?_) ?_
    | refine AnswersOnly.some ?_
    | exact AnswersOnly.none
  all_goals simp only [encode, Option.some.injEq]
  all_goals first
    | with_reducible (apply encR_eq_of <;> first | assumption | rfl | simp only [*] | exact cc_join (by assumption))
    | with_reducible (apply encI_eq_of <;> first | assumption | rfl | exact cc_join (by assumption))

theorem answersOnly_cop2 {w : Word} (ho : fieldOp w = 18#6) : AnswersOnly w
    (decodeCop2 (fieldA w) (fieldB w) (fieldC w) (fieldD w) (fieldF w)) := by
  unfold decodeCop2
  repeat' with_reducible first
    | refine AnswersOnly.ite (fun _ => ?_) ?_
    | refine AnswersOnly.some ?_
    | exact AnswersOnly.none
  all_goals simp only [encode, Option.some.injEq]
  all_goals
    with_reducible (apply encR_eq_of <;> first | assumption | rfl)

theorem answersOnly_cop1x {w : Word} (ho : fieldOp w = 19#6) : AnswersOnly w
    (decodeCop1x (fieldA w) (fieldB w) (fieldC w) (fieldD w) (fieldF w)) := by
  unfold decodeCop1x
  repeat' with_reducible first
    | refine AnswersOnly.ite (fun _ => ?_) ?_
    | refine AnswersOnly.some ?_
    | exact AnswersOnly.none
  all_goals simp only [encode, Option.some.injEq]
  all_goals
    with_reducible (apply encR_eq_of <;> first | assumption | rfl)

theorem answersOnly_special2 {w : Word} (ho : fieldOp w = 28#6) : AnswersOnly w
    (decodeSpecial2 (fieldA w) (fieldB w) (fieldC w) (fieldD w) (fieldF w) (fieldCode w)) := by
  unfold decodeSpecial2
  repeat' with_reducible first
    | refine AnswersOnly.ite (fun _ => ?_) ?_
    | refine AnswersOnly.some ?_
    | exact AnswersOnly.none
  all_goals simp only [encode, Option.some.injEq]
  all_goals first
    | with_reducible (apply encR_eq_of <;> first | assumption | rfl | simp only [*])
    | with_reducible (apply encCode_eq_of <;> first | assumption | rfl)

theorem answersOnly_special3 {w : Word} (ho : fieldOp w = 31#6) : AnswersOnly w
    (decodeSpecial3 (fieldA w) (fieldB w) (fieldC w) (fieldD w) (fieldF w)) := by
  unfold decodeSpecial3
  repeat' with_reducible first
    | refine AnswersOnly.ite (fun _ => ?_) ?_
    | refine AnswersOnly.some ?_
    | exact AnswersOnly.none
  all_goals simp only [encode, Option.some.injEq]
  all_goals
    with_reducible (apply encR_eq_of <;> first | assumption | rfl | simp only [*])

theorem answersOnly_lwc2 {w : Word} (ho : fieldOp w = 50#6) : AnswersOnly w
    (decodeLwc2 (fieldA w) (fieldB w) (fieldC w) (fieldD w) (fieldF w) (fieldPad w) (fieldOffl w) (fieldH w)
      (fieldOffq w) (fieldFive w) (fieldZ w)) := by
  unfold decodeLwc2
  repeat' with_reducible first
    | refine AnswersOnly.ite (fun _ => ?_) ?_
    | refine AnswersOnly.some ?_
    | exact AnswersOnly.none
  all_goals simp only [encode, Option.some.injEq]
  all_goals first
    | with_reducible (apply encR_eq_of <;> first | assumption | rfl)
    | with_reducible (apply encL_eq_of <;> first | assumption | rfl)
    | with_reducible (apply encQ_eq_of <;> first | assumption | rfl)

theorem answersOnly_ldc2 {w : Word} (ho : fieldOp w = 54#6) : AnswersOnly w
    (decodeLdc2 (fieldA w) (fieldB w) (fieldC w) (fieldOff8 w) (fieldSel w)) := by
  unfold decodeLdc2
  repeat' with_reducible first
    | refine AnswersOnly.ite (fun _ => ?_) ?_
    | refine AnswersOnly.some ?_
    | exact AnswersOnly.none
  all_goals simp only [encode, Option.some.injEq]
  all_goals
    with_reducible (apply encX_eq_of <;> first | assumption | rfl)

theorem answersOnly_swc2 {w : Word} (ho : fieldOp w = 58#6) : AnswersOnly w
    (decodeSwc2 (fieldA w) (fieldB w) (fieldC w) (fieldD w) (fieldF w) (fieldPad w) (fieldOffl w) (fieldH w)
      (fieldOffq w) (fieldFive w) (fieldZ w)) := by
  unfold decodeSwc2
  repeat' with_reducible first
    | refine AnswersOnly.ite (fun _ => ?_) ?_
    | refine AnswersOnly.some ?_
    | exact AnswersOnly.none
  all_goals simp only [encode, Option.some.injEq]
  all_goals first
    | with_reducible (apply encR_eq_of <;> first | assumption | rfl)
    | with_reducible (apply encL_eq_of <;> first | assumption | rfl)
    | with_reducible (apply encQ_eq_of <;> first | assumption | rfl)

theorem answersOnly_sdc2 {w : Word} (ho : fieldOp w = 62#6) : AnswersOnly w
    (decodeSdc2 (fieldA w) (fieldB w) (fieldC w) (fieldOff8 w) (fieldSel w)) := by
  unfold decodeSdc2
  repeat' with_reducible first
    | refine AnswersOnly.ite (fun _ => ?_) ?_
    | refine AnswersOnly.some ?_
    | exact AnswersOnly.none
  all_goals simp only [encode, Option.some.injEq]
  all_goals
    with_reducible (apply encX_eq_of <;> first | assumption | rfl)

/-- A word that decodes is the word of the instruction it decodes to, every bit of it: a word with a reserved bit
set decodes to nothing (30_encoding.md rules R264, R281). -/
theorem encode_of_decode {w : Word} {i : Instr} (h : decode w = some i) : encode i = some w := by
  suffices a : AnswersOnly w (decode w) from a.encode_eq i h
  unfold decode
  repeat' with_reducible first
    | refine AnswersOnly.ite (fun ho => ?_) ?_
    | refine AnswersOnly.some ?_
    | exact AnswersOnly.none
    | exact answersOnly_special ‹_›
    | exact answersOnly_regImm ‹_›
    | exact answersOnly_cop0 ‹_›
    | exact answersOnly_cop1 ‹_›
    | exact answersOnly_cop2 ‹_›
    | exact answersOnly_cop1x ‹_›
    | exact answersOnly_special2 ‹_›
    | exact answersOnly_special3 ‹_›
    | exact answersOnly_lwc2 ‹_›
    | exact answersOnly_ldc2 ‹_›
    | exact answersOnly_swc2 ‹_›
    | exact answersOnly_sdc2 ‹_›
  all_goals simp only [encode, Option.some.injEq]
  all_goals first
    | with_reducible (apply encI_eq_of <;> first | assumption | rfl)
    | with_reducible (apply encJ_eq_of <;> first | assumption | rfl)

end Sys2Proof
end

