-- ==== Sys2Proof/Laws/Memory.lean ====
section
/-!
SUPPORT. Memory: what a read gives after a write, and the canonical form.
-/
namespace Sys2Proof.Machine

/-! ### Reads after writes -/

/-- An erased address reads as unlisted, the others as before. -/
theorem readByte_eraseByte (m : List Host.Cell) (a b : Nat) :
    readByte (eraseByte m a) b = if b = a then unlistedByte else readByte m b := by
  induction m with
  | nil => simp [eraseByte, readByte]
  | cons c rest ih =>
    unfold eraseByte
    by_cases h : c.1 = a
    · rw [if_pos h, ih]
      by_cases hb : b = a
      · simp [hb]
      · have : ¬ c.1 = b := by omega
        simp [hb, readByte, this]
    · rw [if_neg h]
      unfold readByte
      rw [ih]
      by_cases hb : c.1 = b
      · have : ¬ b = a := by omega
        simp [hb, this]
      · simp [hb]

/-- An inserted cell reads its value where nothing was listed before. -/
theorem readByte_insertByte (m : List Host.Cell) (a b : Nat) (v : Byte) (h : ∀ c ∈ m, c.1 ≠ a) :
    readByte (insertByte m a v) b = if b = a then v else readByte m b := by
  induction m with
  | nil =>
    by_cases hb : b = a
    · simp [insertByte, readByte, hb]
    · have : ¬ a = b := fun e => hb e.symm
      simp [insertByte, readByte, hb, this]
  | cons c rest ih =>
    have hc : c.1 ≠ a := h c (by simp)
    have ih' := ih (fun x hx => h x (by simp [hx]))
    unfold insertByte
    by_cases hlt : a < c.1
    · rw [if_pos hlt]
      by_cases hb : b = a
      · simp [readByte, hb]
      · have : ¬ a = b := fun e => hb e.symm
        simp [readByte, hb, this]
    · rw [if_neg hlt]
      unfold readByte
      rw [ih']
      by_cases hb : c.1 = b
      · have : ¬ b = a := fun e => hc (hb.trans e)
        simp [hb, this]
      · simp [hb]

/-- No cell of the erased address is left. -/
theorem eraseByte_absent (m : List Host.Cell) (a : Nat) : ∀ c ∈ eraseByte m a, c.1 ≠ a := by
  induction m with
  | nil => simp [eraseByte]
  | cons c rest ih =>
    unfold eraseByte
    split
    · exact ih
    · intro x hx
      rcases List.mem_cons.mp hx with rfl | hx
      · assumption
      · exact ih x hx

/-- What any byte reads after a byte is written. -/
theorem readByte_writeByte (m : List Host.Cell) (a b : Nat) (v : Byte) :
    readByte (writeByte m a v) b = if b = a then v else readByte m b := by
  unfold writeByte
  split
  · rename_i hv
    rw [readByte_eraseByte, hv]
  · rw [readByte_insertByte _ _ _ _ (eraseByte_absent m a), readByte_eraseByte]
    by_cases hb : b = a <;> simp [hb]

/-- What any byte reads after `n` bytes are written from `a` up. -/
theorem readByte_writeLE (n : Nat) (m : List Host.Cell) (a b : Nat) (v : Dword) :
    readByte (writeLE m a n v) b =
      if a ≤ b ∧ b < a + n then v.extractLsb' (8 * (b - a)) 8 else readByte m b := by
  induction n generalizing a v with
  | zero => rw [if_neg (by omega)]; rfl
  | succ k ih =>
    unfold writeLE
    rw [readByte_writeByte, ih]
    by_cases hb : b = a
    · subst hb
      rw [if_pos rfl, if_pos (by omega)]
      ext i hi
      simp [BitVec.getElem_extractLsb']
    · rw [if_neg hb]
      by_cases h : a + 1 ≤ b ∧ b < a + 1 + k
      · rw [if_pos h, if_pos (by omega)]
        have e : 8 * (b - a) = 8 + 8 * (b - (a + 1)) := by omega
        rw [e]
        ext i hi
        simp only [BitVec.getElem_extractLsb', BitVec.getLsbD_ushiftRight]
        congr 1
        omega
      · rw [if_neg h, if_neg (by omega)]

/-- Bytes outside the written ones read as before. -/
theorem readByte_writeLE_outside (n : Nat) (m : List Host.Cell) (a b : Nat) (v : Dword)
    (h : b < a ∨ a + n ≤ b) : readByte (writeLE m a n v) b = readByte m b := by
  rw [readByte_writeLE, if_neg (by omega)]

/-- Each bit of `n` bytes read. -/
theorem readLE_getLsbD (n : Nat) (m : List Host.Cell) (a i : Nat) (hn : n ≤ 8) :
    (readLE m a n).getLsbD i = (decide (i < 8 * n) && (readByte m (a + i / 8)).getLsbD (i % 8)) := by
  induction n generalizing a i with
  | zero => simp [readLE]
  | succ k ih =>
    have hk := ih (a + 1) (i - 8) (by omega)
    unfold readLE
    simp only [BitVec.getLsbD_or, BitVec.getLsbD_shiftLeft, BitVec.getLsbD_setWidth]
    by_cases h8 : i < 8
    · have e1 : i / 8 = 0 := by omega
      have e2 : i % 8 = i := by omega
      have e3 : i < 8 * (k + 1) := by omega
      have e4 : i < 64 := by omega
      simp [h8, e1, e2, e3, e4]
    · rw [hk]
      have hb : (readByte m a).getLsbD i = false := BitVec.getLsbD_of_ge _ _ (by omega)
      by_cases h : i < 8 * (k + 1)
      · have e1 : i - 8 < 8 * k := by omega
        have e2 : a + 1 + (i - 8) / 8 = a + i / 8 := by omega
        have e3 : (i - 8) % 8 = i % 8 := by omega
        have e4 : i < 64 := by omega
        simp [h8, h, hb, e1, e2, e3, e4]
      · have e1 : ¬ i - 8 < 8 * k := by omega
        simp [h, hb, e1]

/-- What was stored is loaded. -/
theorem readLE_writeLE (n : Nat) (m : List Host.Cell) (a : Nat) (v : Dword) (hn : n ≤ 8) :
    readLE (writeLE m a n v) a n = (v.setWidth (8 * n)).setWidth 64 := by
  apply BitVec.eq_of_getLsbD_eq
  intro i hi
  rw [readLE_getLsbD n _ a i hn]
  simp only [BitVec.getLsbD_setWidth]
  by_cases h : i < 8 * n
  · have e1 : a ≤ a + i / 8 ∧ a + i / 8 < a + n := by omega
    have e2 : i % 8 < 8 := by omega
    have e3 : 8 * (a + i / 8 - a) + i % 8 = i := by omega
    rw [readByte_writeLE, if_pos e1]
    simp only [BitVec.getLsbD_extractLsb', e2, e3, h, hi, decide_true, Bool.true_and]
  · simp [h]

/-- A store outside the bytes read changes nothing there. -/
theorem readLE_writeLE_outside (n k : Nat) (m : List Host.Cell) (a b : Nat) (v : Dword) (hn : n ≤ 8)
    (h : b + n ≤ a ∨ a + k ≤ b) : readLE (writeLE m a k v) b n = readLE m b n := by
  apply BitVec.eq_of_getLsbD_eq
  intro i hi
  rw [readLE_getLsbD n _ b i hn, readLE_getLsbD n _ b i hn]
  by_cases hi : i < 8 * n
  · rw [readByte_writeLE_outside k m a _ v (by omega)]
  · simp [hi]

/-! ### The canonical form -/

/-- A lower bound may be lowered. -/
theorem canonicalFrom_mono (m : List Host.Cell) (lo lo' : Nat) (h : lo' ≤ lo)
    (hm : canonicalFrom lo m = true) : canonicalFrom lo' m = true := by
  cases m with
  | nil => rfl
  | cons c rest =>
    simp only [canonicalFrom, Bool.and_eq_true, decide_eq_true_eq] at hm ⊢
    exact ⟨⟨by omega, hm.1.2⟩, hm.2⟩

/-- Erasing keeps the canonical form. -/
theorem canonicalFrom_eraseByte (m : List Host.Cell) (lo a : Nat) (hm : canonicalFrom lo m = true) :
    canonicalFrom lo (eraseByte m a) = true := by
  induction m generalizing lo with
  | nil => rfl
  | cons c rest ih =>
    simp only [canonicalFrom, Bool.and_eq_true, decide_eq_true_eq] at hm
    unfold eraseByte
    split
    · exact canonicalFrom_mono _ _ _ (by omega) (ih _ hm.2)
    · simp only [canonicalFrom, Bool.and_eq_true, decide_eq_true_eq]
      exact ⟨hm.1, ih _ hm.2⟩

/-- Inserting a cell at a free address keeps the canonical form. -/
theorem canonicalFrom_insertByte (m : List Host.Cell) (lo a : Nat) (v : Byte) (hv : v ≠ unlistedByte)
    (hlo : lo ≤ a) (h : ∀ c ∈ m, c.1 ≠ a) (hm : canonicalFrom lo m = true) :
    canonicalFrom lo (insertByte m a v) = true := by
  induction m generalizing lo with
  | nil => simp [insertByte, canonicalFrom, hv, hlo]
  | cons c rest ih =>
    simp only [canonicalFrom, Bool.and_eq_true, decide_eq_true_eq] at hm
    have hc : c.1 ≠ a := h c (by simp)
    unfold insertByte
    split
    · rename_i hlt
      simp only [canonicalFrom, Bool.and_eq_true, decide_eq_true_eq, bne_iff_ne, ne_eq]
      exact ⟨⟨hlo, hv⟩, ⟨⟨by omega, by simpa using hm.1.2⟩, hm.2⟩⟩
    · simp only [canonicalFrom, Bool.and_eq_true, decide_eq_true_eq]
      exact ⟨hm.1, ih _ (by omega) (fun x hx => h x (by simp [hx])) hm.2⟩

/-- Writing a byte keeps the canonical form. -/
theorem wf_writeByte (m : List Host.Cell) (a : Nat) (v : Byte) (hm : Memory.wf m = true) :
    Memory.wf (writeByte m a v) = true := by
  unfold writeByte
  split
  · exact canonicalFrom_eraseByte m 0 a hm
  · rename_i hv
    exact canonicalFrom_insertByte _ 0 a v hv (by omega) (eraseByte_absent m a)
      (canonicalFrom_eraseByte m 0 a hm)

/-- Every store keeps the canonical form. -/
theorem wf_writeLE (n : Nat) (m : List Host.Cell) (a : Nat) (v : Dword) (hm : Memory.wf m = true) :
    Memory.wf (writeLE m a n v) = true := by
  induction n generalizing a v with
  | zero => exact hm
  | succ k ih => exact wf_writeByte _ _ _ (ih _ _)

end Sys2Proof.Machine
end

