-- ==== Sys2Proof/Laws/State.lean ====
section
/-!
SUPPORT. What each update of the state does to each field.
-/
namespace Sys2Proof.Machine

/-! ### `advance` -/

@[simp] theorem State.advance_gpr (s : State) : (s.advance).gpr = s.gpr := rfl
@[simp] theorem State.advance_hi (s : State) : (s.advance).hi = s.hi := rfl
@[simp] theorem State.advance_lo (s : State) : (s.advance).lo = s.lo := rfl
@[simp] theorem State.advance_pc (s : State) : (s.advance).pc = s.npc := rfl
@[simp] theorem State.advance_npc (s : State) : (s.advance).npc = s.npc + 4 := rfl
@[simp] theorem State.advance_inDelaySlot (s : State) : (s.advance).inDelaySlot = false := rfl
@[simp] theorem State.advance_llbit (s : State) : (s.advance).llbit = s.llbit := rfl
@[simp] theorem State.advance_linked (s : State) : (s.advance).linked = s.linked := rfl
@[simp] theorem State.advance_cp0 (s : State) : (s.advance).cp0 = s.cp0 := rfl
@[simp] theorem State.advance_tlb (s : State) : (s.advance).tlb = s.tlb := rfl
@[simp] theorem State.advance_fpr (s : State) : (s.advance).fpr = s.fpr := rfl
@[simp] theorem State.advance_fcsr (s : State) : (s.advance).fcsr = s.fcsr := rfl
@[simp] theorem State.advance_x86 (s : State) : (s.advance).x86 = s.x86 := rfl
@[simp] theorem State.advance_cam (s : State) : (s.advance).cam = s.cam := rfl
@[simp] theorem State.advance_mem (s : State) : (s.advance).mem = s.mem := rfl
@[simp] theorem State.advance_lines (s : State) : (s.advance).lines = s.lines := rfl
@[simp] theorem State.advance_coldReset (s : State) : (s.advance).coldReset = s.coldReset := rfl
@[simp] theorem State.advance_softReset (s : State) : (s.advance).softReset = s.softReset := rfl
@[simp] theorem State.advance_nmi (s : State) : (s.advance).nmi = s.nmi := rfl
@[simp] theorem State.advance_phys (s : State) : (s.advance).phys = s.phys := rfl
@[simp] theorem State.advance_accel (s : State) : (s.advance).accel = s.accel := rfl
@[simp] theorem State.advance_coloured (s : State) : (s.advance).coloured = s.coloured := rfl
@[simp] theorem State.advance_stale (s : State) : (s.advance).stale = s.stale := rfl
@[simp] theorem State.advance_afterJump (s : State) : (s.advance).afterJump = s.afterJump := rfl
@[simp] theorem State.advance_intWait (s : State) : (s.advance).intWait = s.intWait := rfl
@[simp] theorem State.advance_accelWait (s : State) : (s.advance).accelWait = s.accelWait := rfl
@[simp] theorem State.advance_countIdle (s : State) : (s.advance).countIdle = s.countIdle := rfl
@[simp] theorem State.advance_perf0Idle (s : State) : (s.advance).perf0Idle = s.perf0Idle := rfl
@[simp] theorem State.advance_perf1Idle (s : State) : (s.advance).perf1Idle = s.perf1Idle := rfl
@[simp] theorem State.advance_freeCounter (s : State) : (s.advance).freeCounter = s.freeCounter := rfl
@[simp] theorem State.advance_readGpr (s : State) (r : BitVec 5) :
    (s.advance).readGpr r = s.readGpr r := rfl
@[simp] theorem State.advance_readFpr (s : State) (r : BitVec 5) :
    (s.advance).readFpr r = s.readFpr r := rfl
@[simp] theorem State.advance_free (s : State) (k : Nat) :
    (s.advance).free k = s.free k := rfl
@[simp] theorem State.advance_isKernel (s : State) : (s.advance).isKernel = s.isKernel := rfl
@[simp] theorem State.advance_isUser (s : State) : (s.advance).isUser = s.isUser := rfl
@[simp] theorem State.advance_isSupervisor (s : State) : (s.advance).isSupervisor = s.isSupervisor := rfl
@[simp] theorem State.advance_are64 (s : State) : (s.advance).are64 = s.are64 := rfl
@[simp] theorem State.advance_fr (s : State) : (s.advance).fr = s.fr := rfl
@[simp] theorem State.advance_exl (s : State) : (s.advance).exl = s.exl := rfl
@[simp] theorem State.advance_erl (s : State) : (s.advance).erl = s.erl := rfl
@[simp] theorem State.advance_ksu (s : State) : (s.advance).ksu = s.ksu := rfl

/-! ### `branchTo` -/

@[simp] theorem State.branchTo_gpr (s : State) (t : Dword) : (s.branchTo t).gpr = s.gpr := rfl
@[simp] theorem State.branchTo_hi (s : State) (t : Dword) : (s.branchTo t).hi = s.hi := rfl
@[simp] theorem State.branchTo_lo (s : State) (t : Dword) : (s.branchTo t).lo = s.lo := rfl
@[simp] theorem State.branchTo_pc (s : State) (t : Dword) : (s.branchTo t).pc = s.npc := rfl
@[simp] theorem State.branchTo_npc (s : State) (t : Dword) : (s.branchTo t).npc = t := rfl
@[simp] theorem State.branchTo_inDelaySlot (s : State) (t : Dword) : (s.branchTo t).inDelaySlot = true :=
    rfl
@[simp] theorem State.branchTo_llbit (s : State) (t : Dword) : (s.branchTo t).llbit = s.llbit := rfl
@[simp] theorem State.branchTo_linked (s : State) (t : Dword) : (s.branchTo t).linked = s.linked := rfl
@[simp] theorem State.branchTo_cp0 (s : State) (t : Dword) : (s.branchTo t).cp0 = s.cp0 := rfl
@[simp] theorem State.branchTo_tlb (s : State) (t : Dword) : (s.branchTo t).tlb = s.tlb := rfl
@[simp] theorem State.branchTo_fpr (s : State) (t : Dword) : (s.branchTo t).fpr = s.fpr := rfl
@[simp] theorem State.branchTo_fcsr (s : State) (t : Dword) : (s.branchTo t).fcsr = s.fcsr := rfl
@[simp] theorem State.branchTo_x86 (s : State) (t : Dword) : (s.branchTo t).x86 = s.x86 := rfl
@[simp] theorem State.branchTo_cam (s : State) (t : Dword) : (s.branchTo t).cam = s.cam := rfl
@[simp] theorem State.branchTo_mem (s : State) (t : Dword) : (s.branchTo t).mem = s.mem := rfl
@[simp] theorem State.branchTo_lines (s : State) (t : Dword) : (s.branchTo t).lines = s.lines := rfl
@[simp] theorem State.branchTo_coldReset (s : State) (t : Dword) : (s.branchTo t).coldReset = s.coldReset :=
    rfl
@[simp] theorem State.branchTo_softReset (s : State) (t : Dword) : (s.branchTo t).softReset = s.softReset :=
    rfl
@[simp] theorem State.branchTo_nmi (s : State) (t : Dword) : (s.branchTo t).nmi = s.nmi := rfl
@[simp] theorem State.branchTo_phys (s : State) (t : Dword) : (s.branchTo t).phys = s.phys := rfl
@[simp] theorem State.branchTo_accel (s : State) (t : Dword) : (s.branchTo t).accel = s.accel := rfl
@[simp] theorem State.branchTo_coloured (s : State) (t : Dword) : (s.branchTo t).coloured = s.coloured :=
    rfl
@[simp] theorem State.branchTo_stale (s : State) (t : Dword) : (s.branchTo t).stale = s.stale := rfl
@[simp] theorem State.branchTo_afterJump (s : State) (t : Dword) : (s.branchTo t).afterJump = s.afterJump :=
    rfl
@[simp] theorem State.branchTo_intWait (s : State) (t : Dword) : (s.branchTo t).intWait = s.intWait := rfl
@[simp] theorem State.branchTo_accelWait (s : State) (t : Dword) : (s.branchTo t).accelWait = s.accelWait :=
    rfl
@[simp] theorem State.branchTo_countIdle (s : State) (t : Dword) : (s.branchTo t).countIdle = s.countIdle :=
    rfl
@[simp] theorem State.branchTo_perf0Idle (s : State) (t : Dword) : (s.branchTo t).perf0Idle = s.perf0Idle :=
    rfl
@[simp] theorem State.branchTo_perf1Idle (s : State) (t : Dword) : (s.branchTo t).perf1Idle = s.perf1Idle :=
    rfl
@[simp] theorem State.branchTo_freeCounter (s : State) (t : Dword)
    : (s.branchTo t).freeCounter = s.freeCounter := rfl
@[simp] theorem State.branchTo_readGpr (s : State) (t : Dword) (r : BitVec 5) :
    (s.branchTo t).readGpr r = s.readGpr r := rfl
@[simp] theorem State.branchTo_readFpr (s : State) (t : Dword) (r : BitVec 5) :
    (s.branchTo t).readFpr r = s.readFpr r := rfl
@[simp] theorem State.branchTo_free (s : State) (t : Dword) (k : Nat) :
    (s.branchTo t).free k = s.free k := rfl
@[simp] theorem State.branchTo_isKernel (s : State) (t : Dword) : (s.branchTo t).isKernel = s.isKernel :=
    rfl
@[simp] theorem State.branchTo_isUser (s : State) (t : Dword) : (s.branchTo t).isUser = s.isUser := rfl
@[simp] theorem State.branchTo_isSupervisor (s : State) (t : Dword) : (s.branchTo t).isSupervisor = s.isSupervisor :=
    rfl
@[simp] theorem State.branchTo_are64 (s : State) (t : Dword) : (s.branchTo t).are64 = s.are64 := rfl
@[simp] theorem State.branchTo_fr (s : State) (t : Dword) : (s.branchTo t).fr = s.fr := rfl
@[simp] theorem State.branchTo_exl (s : State) (t : Dword) : (s.branchTo t).exl = s.exl := rfl
@[simp] theorem State.branchTo_erl (s : State) (t : Dword) : (s.branchTo t).erl = s.erl := rfl
@[simp] theorem State.branchTo_ksu (s : State) (t : Dword) : (s.branchTo t).ksu = s.ksu := rfl

/-! ### `skipSlot` -/

@[simp] theorem State.skipSlot_gpr (s : State) : (s.skipSlot).gpr = s.gpr := rfl
@[simp] theorem State.skipSlot_hi (s : State) : (s.skipSlot).hi = s.hi := rfl
@[simp] theorem State.skipSlot_lo (s : State) : (s.skipSlot).lo = s.lo := rfl
@[simp] theorem State.skipSlot_pc (s : State) : (s.skipSlot).pc = s.npc + 4 := rfl
@[simp] theorem State.skipSlot_npc (s : State) : (s.skipSlot).npc = s.npc + 8 := rfl
@[simp] theorem State.skipSlot_inDelaySlot (s : State) : (s.skipSlot).inDelaySlot = false := rfl
@[simp] theorem State.skipSlot_llbit (s : State) : (s.skipSlot).llbit = s.llbit := rfl
@[simp] theorem State.skipSlot_linked (s : State) : (s.skipSlot).linked = s.linked := rfl
@[simp] theorem State.skipSlot_cp0 (s : State) : (s.skipSlot).cp0 = s.cp0 := rfl
@[simp] theorem State.skipSlot_tlb (s : State) : (s.skipSlot).tlb = s.tlb := rfl
@[simp] theorem State.skipSlot_fpr (s : State) : (s.skipSlot).fpr = s.fpr := rfl
@[simp] theorem State.skipSlot_fcsr (s : State) : (s.skipSlot).fcsr = s.fcsr := rfl
@[simp] theorem State.skipSlot_x86 (s : State) : (s.skipSlot).x86 = s.x86 := rfl
@[simp] theorem State.skipSlot_cam (s : State) : (s.skipSlot).cam = s.cam := rfl
@[simp] theorem State.skipSlot_mem (s : State) : (s.skipSlot).mem = s.mem := rfl
@[simp] theorem State.skipSlot_lines (s : State) : (s.skipSlot).lines = s.lines := rfl
@[simp] theorem State.skipSlot_coldReset (s : State) : (s.skipSlot).coldReset = s.coldReset := rfl
@[simp] theorem State.skipSlot_softReset (s : State) : (s.skipSlot).softReset = s.softReset := rfl
@[simp] theorem State.skipSlot_nmi (s : State) : (s.skipSlot).nmi = s.nmi := rfl
@[simp] theorem State.skipSlot_phys (s : State) : (s.skipSlot).phys = s.phys := rfl
@[simp] theorem State.skipSlot_accel (s : State) : (s.skipSlot).accel = s.accel := rfl
@[simp] theorem State.skipSlot_coloured (s : State) : (s.skipSlot).coloured = s.coloured := rfl
@[simp] theorem State.skipSlot_stale (s : State) : (s.skipSlot).stale = s.stale := rfl
@[simp] theorem State.skipSlot_afterJump (s : State) : (s.skipSlot).afterJump = s.afterJump := rfl
@[simp] theorem State.skipSlot_intWait (s : State) : (s.skipSlot).intWait = s.intWait := rfl
@[simp] theorem State.skipSlot_accelWait (s : State) : (s.skipSlot).accelWait = s.accelWait := rfl
@[simp] theorem State.skipSlot_countIdle (s : State) : (s.skipSlot).countIdle = s.countIdle := rfl
@[simp] theorem State.skipSlot_perf0Idle (s : State) : (s.skipSlot).perf0Idle = s.perf0Idle := rfl
@[simp] theorem State.skipSlot_perf1Idle (s : State) : (s.skipSlot).perf1Idle = s.perf1Idle := rfl
@[simp] theorem State.skipSlot_freeCounter (s : State) : (s.skipSlot).freeCounter = s.freeCounter := rfl
@[simp] theorem State.skipSlot_readGpr (s : State) (r : BitVec 5) :
    (s.skipSlot).readGpr r = s.readGpr r := rfl
@[simp] theorem State.skipSlot_readFpr (s : State) (r : BitVec 5) :
    (s.skipSlot).readFpr r = s.readFpr r := rfl
@[simp] theorem State.skipSlot_free (s : State) (k : Nat) :
    (s.skipSlot).free k = s.free k := rfl
@[simp] theorem State.skipSlot_isKernel (s : State) : (s.skipSlot).isKernel = s.isKernel := rfl
@[simp] theorem State.skipSlot_isUser (s : State) : (s.skipSlot).isUser = s.isUser := rfl
@[simp] theorem State.skipSlot_isSupervisor (s : State) : (s.skipSlot).isSupervisor = s.isSupervisor := rfl
@[simp] theorem State.skipSlot_are64 (s : State) : (s.skipSlot).are64 = s.are64 := rfl
@[simp] theorem State.skipSlot_fr (s : State) : (s.skipSlot).fr = s.fr := rfl
@[simp] theorem State.skipSlot_exl (s : State) : (s.skipSlot).exl = s.exl := rfl
@[simp] theorem State.skipSlot_erl (s : State) : (s.skipSlot).erl = s.erl := rfl
@[simp] theorem State.skipSlot_ksu (s : State) : (s.skipSlot).ksu = s.ksu := rfl

/-! ### `jumpTo` -/

@[simp] theorem State.jumpTo_gpr (s : State) (t : Dword) : (s.jumpTo t).gpr = s.gpr := rfl
@[simp] theorem State.jumpTo_hi (s : State) (t : Dword) : (s.jumpTo t).hi = s.hi := rfl
@[simp] theorem State.jumpTo_lo (s : State) (t : Dword) : (s.jumpTo t).lo = s.lo := rfl
@[simp] theorem State.jumpTo_pc (s : State) (t : Dword) : (s.jumpTo t).pc = s.npc := rfl
@[simp] theorem State.jumpTo_npc (s : State) (t : Dword) : (s.jumpTo t).npc = t := rfl
@[simp] theorem State.jumpTo_inDelaySlot (s : State) (t : Dword) : (s.jumpTo t).inDelaySlot = true := rfl
@[simp] theorem State.jumpTo_llbit (s : State) (t : Dword) : (s.jumpTo t).llbit = s.llbit := rfl
@[simp] theorem State.jumpTo_linked (s : State) (t : Dword) : (s.jumpTo t).linked = s.linked := rfl
@[simp] theorem State.jumpTo_cp0 (s : State) (t : Dword) : (s.jumpTo t).cp0 = s.cp0 := rfl
@[simp] theorem State.jumpTo_tlb (s : State) (t : Dword) : (s.jumpTo t).tlb = s.tlb := rfl
@[simp] theorem State.jumpTo_fpr (s : State) (t : Dword) : (s.jumpTo t).fpr = s.fpr := rfl
@[simp] theorem State.jumpTo_fcsr (s : State) (t : Dword) : (s.jumpTo t).fcsr = s.fcsr := rfl
@[simp] theorem State.jumpTo_x86 (s : State) (t : Dword) : (s.jumpTo t).x86 = s.x86 := rfl
@[simp] theorem State.jumpTo_cam (s : State) (t : Dword) : (s.jumpTo t).cam = s.cam := rfl
@[simp] theorem State.jumpTo_mem (s : State) (t : Dword) : (s.jumpTo t).mem = s.mem := rfl
@[simp] theorem State.jumpTo_lines (s : State) (t : Dword) : (s.jumpTo t).lines = s.lines := rfl
@[simp] theorem State.jumpTo_coldReset (s : State) (t : Dword) : (s.jumpTo t).coldReset = s.coldReset := rfl
@[simp] theorem State.jumpTo_softReset (s : State) (t : Dword) : (s.jumpTo t).softReset = s.softReset := rfl
@[simp] theorem State.jumpTo_nmi (s : State) (t : Dword) : (s.jumpTo t).nmi = s.nmi := rfl
@[simp] theorem State.jumpTo_phys (s : State) (t : Dword) : (s.jumpTo t).phys = s.phys := rfl
@[simp] theorem State.jumpTo_accel (s : State) (t : Dword) : (s.jumpTo t).accel = s.accel := rfl
@[simp] theorem State.jumpTo_coloured (s : State) (t : Dword) : (s.jumpTo t).coloured = s.coloured := rfl
@[simp] theorem State.jumpTo_stale (s : State) (t : Dword) : (s.jumpTo t).stale = s.stale := rfl
@[simp] theorem State.jumpTo_afterJump (s : State) (t : Dword) : (s.jumpTo t).afterJump = true := rfl
@[simp] theorem State.jumpTo_intWait (s : State) (t : Dword) : (s.jumpTo t).intWait = s.intWait := rfl
@[simp] theorem State.jumpTo_accelWait (s : State) (t : Dword) : (s.jumpTo t).accelWait = s.accelWait := rfl
@[simp] theorem State.jumpTo_countIdle (s : State) (t : Dword) : (s.jumpTo t).countIdle = s.countIdle := rfl
@[simp] theorem State.jumpTo_perf0Idle (s : State) (t : Dword) : (s.jumpTo t).perf0Idle = s.perf0Idle := rfl
@[simp] theorem State.jumpTo_perf1Idle (s : State) (t : Dword) : (s.jumpTo t).perf1Idle = s.perf1Idle := rfl
@[simp] theorem State.jumpTo_freeCounter (s : State) (t : Dword) : (s.jumpTo t).freeCounter = s.freeCounter :=
    rfl
@[simp] theorem State.jumpTo_readGpr (s : State) (t : Dword) (r : BitVec 5) :
    (s.jumpTo t).readGpr r = s.readGpr r := rfl
@[simp] theorem State.jumpTo_readFpr (s : State) (t : Dword) (r : BitVec 5) :
    (s.jumpTo t).readFpr r = s.readFpr r := rfl
@[simp] theorem State.jumpTo_free (s : State) (t : Dword) (k : Nat) :
    (s.jumpTo t).free k = s.free k := rfl
@[simp] theorem State.jumpTo_isKernel (s : State) (t : Dword) : (s.jumpTo t).isKernel = s.isKernel := rfl
@[simp] theorem State.jumpTo_isUser (s : State) (t : Dword) : (s.jumpTo t).isUser = s.isUser := rfl
@[simp] theorem State.jumpTo_isSupervisor (s : State) (t : Dword) : (s.jumpTo t).isSupervisor = s.isSupervisor :=
    rfl
@[simp] theorem State.jumpTo_are64 (s : State) (t : Dword) : (s.jumpTo t).are64 = s.are64 := rfl
@[simp] theorem State.jumpTo_fr (s : State) (t : Dword) : (s.jumpTo t).fr = s.fr := rfl
@[simp] theorem State.jumpTo_exl (s : State) (t : Dword) : (s.jumpTo t).exl = s.exl := rfl
@[simp] theorem State.jumpTo_erl (s : State) (t : Dword) : (s.jumpTo t).erl = s.erl := rfl
@[simp] theorem State.jumpTo_ksu (s : State) (t : Dword) : (s.jumpTo t).ksu = s.ksu := rfl

/-! ### `writeGpr` -/

@[simp] theorem State.writeGpr_hi (s : State) (i : BitVec 5) (v : Dword) : (s.writeGpr i v).hi = s.hi :=
    by unfold State.writeGpr; split <;> rfl
@[simp] theorem State.writeGpr_lo (s : State) (i : BitVec 5) (v : Dword) : (s.writeGpr i v).lo = s.lo :=
    by unfold State.writeGpr; split <;> rfl
@[simp] theorem State.writeGpr_pc (s : State) (i : BitVec 5) (v : Dword) : (s.writeGpr i v).pc = s.pc :=
    by unfold State.writeGpr; split <;> rfl
@[simp] theorem State.writeGpr_npc (s : State) (i : BitVec 5) (v : Dword) : (s.writeGpr i v).npc = s.npc :=
    by unfold State.writeGpr; split <;> rfl
@[simp] theorem State.writeGpr_inDelaySlot (s : State) (i : BitVec 5) (v : Dword)
    : (s.writeGpr i v).inDelaySlot = s.inDelaySlot := by unfold State.writeGpr; split <;> rfl
@[simp] theorem State.writeGpr_llbit (s : State) (i : BitVec 5) (v : Dword)
    : (s.writeGpr i v).llbit = s.llbit := by unfold State.writeGpr; split <;> rfl
@[simp] theorem State.writeGpr_linked (s : State) (i : BitVec 5) (v : Dword)
    : (s.writeGpr i v).linked = s.linked := by unfold State.writeGpr; split <;> rfl
@[simp] theorem State.writeGpr_cp0 (s : State) (i : BitVec 5) (v : Dword) : (s.writeGpr i v).cp0 = s.cp0 :=
    by unfold State.writeGpr; split <;> rfl
@[simp] theorem State.writeGpr_tlb (s : State) (i : BitVec 5) (v : Dword) : (s.writeGpr i v).tlb = s.tlb :=
    by unfold State.writeGpr; split <;> rfl
@[simp] theorem State.writeGpr_fpr (s : State) (i : BitVec 5) (v : Dword) : (s.writeGpr i v).fpr = s.fpr :=
    by unfold State.writeGpr; split <;> rfl
@[simp] theorem State.writeGpr_fcsr (s : State) (i : BitVec 5) (v : Dword) : (s.writeGpr i v).fcsr = s.fcsr :=
    by unfold State.writeGpr; split <;> rfl
@[simp] theorem State.writeGpr_x86 (s : State) (i : BitVec 5) (v : Dword) : (s.writeGpr i v).x86 = s.x86 :=
    by unfold State.writeGpr; split <;> rfl
@[simp] theorem State.writeGpr_cam (s : State) (i : BitVec 5) (v : Dword) : (s.writeGpr i v).cam = s.cam :=
    by unfold State.writeGpr; split <;> rfl
@[simp] theorem State.writeGpr_mem (s : State) (i : BitVec 5) (v : Dword) : (s.writeGpr i v).mem = s.mem :=
    by unfold State.writeGpr; split <;> rfl
@[simp] theorem State.writeGpr_lines (s : State) (i : BitVec 5) (v : Dword)
    : (s.writeGpr i v).lines = s.lines := by unfold State.writeGpr; split <;> rfl
@[simp] theorem State.writeGpr_coldReset (s : State) (i : BitVec 5) (v : Dword)
    : (s.writeGpr i v).coldReset = s.coldReset := by unfold State.writeGpr; split <;> rfl
@[simp] theorem State.writeGpr_softReset (s : State) (i : BitVec 5) (v : Dword)
    : (s.writeGpr i v).softReset = s.softReset := by unfold State.writeGpr; split <;> rfl
@[simp] theorem State.writeGpr_nmi (s : State) (i : BitVec 5) (v : Dword) : (s.writeGpr i v).nmi = s.nmi :=
    by unfold State.writeGpr; split <;> rfl
@[simp] theorem State.writeGpr_phys (s : State) (i : BitVec 5) (v : Dword) : (s.writeGpr i v).phys = s.phys :=
    by unfold State.writeGpr; split <;> rfl
@[simp] theorem State.writeGpr_accel (s : State) (i : BitVec 5) (v : Dword)
    : (s.writeGpr i v).accel = s.accel := by unfold State.writeGpr; split <;> rfl
@[simp] theorem State.writeGpr_coloured (s : State) (i : BitVec 5) (v : Dword)
    : (s.writeGpr i v).coloured = s.coloured := by unfold State.writeGpr; split <;> rfl
@[simp] theorem State.writeGpr_stale (s : State) (i : BitVec 5) (v : Dword)
    : (s.writeGpr i v).stale = s.stale := by unfold State.writeGpr; split <;> rfl
@[simp] theorem State.writeGpr_afterJump (s : State) (i : BitVec 5) (v : Dword)
    : (s.writeGpr i v).afterJump = s.afterJump := by unfold State.writeGpr; split <;> rfl
@[simp] theorem State.writeGpr_intWait (s : State) (i : BitVec 5) (v : Dword)
    : (s.writeGpr i v).intWait = s.intWait := by unfold State.writeGpr; split <;> rfl
@[simp] theorem State.writeGpr_accelWait (s : State) (i : BitVec 5) (v : Dword)
    : (s.writeGpr i v).accelWait = s.accelWait := by unfold State.writeGpr; split <;> rfl
@[simp] theorem State.writeGpr_countIdle (s : State) (i : BitVec 5) (v : Dword)
    : (s.writeGpr i v).countIdle = s.countIdle := by unfold State.writeGpr; split <;> rfl
@[simp] theorem State.writeGpr_perf0Idle (s : State) (i : BitVec 5) (v : Dword)
    : (s.writeGpr i v).perf0Idle = s.perf0Idle := by unfold State.writeGpr; split <;> rfl
@[simp] theorem State.writeGpr_perf1Idle (s : State) (i : BitVec 5) (v : Dword)
    : (s.writeGpr i v).perf1Idle = s.perf1Idle := by unfold State.writeGpr; split <;> rfl
@[simp] theorem State.writeGpr_freeCounter (s : State) (i : BitVec 5) (v : Dword)
    : (s.writeGpr i v).freeCounter = s.freeCounter := by unfold State.writeGpr; split <;> rfl
@[simp] theorem State.writeGpr_readFpr (s : State) (i : BitVec 5) (v : Dword) (r : BitVec 5) :
    (s.writeGpr i v).readFpr r = s.readFpr r := by unfold State.writeGpr; split <;> rfl
@[simp] theorem State.writeGpr_free (s : State) (i : BitVec 5) (v : Dword) (k : Nat) :
    (s.writeGpr i v).free k = s.free k := by unfold State.writeGpr; split <;> rfl
@[simp] theorem State.writeGpr_isKernel (s : State) (i : BitVec 5) (v : Dword) : (s.writeGpr i v).isKernel = s.isKernel :=
    by unfold State.writeGpr; split <;> rfl
@[simp] theorem State.writeGpr_isUser (s : State) (i : BitVec 5) (v : Dword) : (s.writeGpr i v).isUser = s.isUser :=
    by unfold State.writeGpr; split <;> rfl
@[simp] theorem State.writeGpr_isSupervisor (s : State) (i : BitVec 5) (v : Dword) : (s.writeGpr i v).isSupervisor = s.isSupervisor :=
    by unfold State.writeGpr; split <;> rfl
@[simp] theorem State.writeGpr_are64 (s : State) (i : BitVec 5) (v : Dword) : (s.writeGpr i v).are64 = s.are64 :=
    by unfold State.writeGpr; split <;> rfl
@[simp] theorem State.writeGpr_fr (s : State) (i : BitVec 5) (v : Dword) : (s.writeGpr i v).fr = s.fr :=
    by unfold State.writeGpr; split <;> rfl
@[simp] theorem State.writeGpr_exl (s : State) (i : BitVec 5) (v : Dword) : (s.writeGpr i v).exl = s.exl :=
    by unfold State.writeGpr; split <;> rfl
@[simp] theorem State.writeGpr_erl (s : State) (i : BitVec 5) (v : Dword) : (s.writeGpr i v).erl = s.erl :=
    by unfold State.writeGpr; split <;> rfl
@[simp] theorem State.writeGpr_ksu (s : State) (i : BitVec 5) (v : Dword) : (s.writeGpr i v).ksu = s.ksu :=
    by unfold State.writeGpr; split <;> rfl

/-! ### `writeHiLo` -/

@[simp] theorem State.writeHiLo_gpr (s : State) (h l : Dword) : (s.writeHiLo h l).gpr = s.gpr := rfl
@[simp] theorem State.writeHiLo_hi (s : State) (h l : Dword) : (s.writeHiLo h l).hi = h := rfl
@[simp] theorem State.writeHiLo_lo (s : State) (h l : Dword) : (s.writeHiLo h l).lo = l := rfl
@[simp] theorem State.writeHiLo_pc (s : State) (h l : Dword) : (s.writeHiLo h l).pc = s.pc := rfl
@[simp] theorem State.writeHiLo_npc (s : State) (h l : Dword) : (s.writeHiLo h l).npc = s.npc := rfl
@[simp] theorem State.writeHiLo_inDelaySlot (s : State) (h l : Dword)
    : (s.writeHiLo h l).inDelaySlot = s.inDelaySlot := rfl
@[simp] theorem State.writeHiLo_llbit (s : State) (h l : Dword) : (s.writeHiLo h l).llbit = s.llbit := rfl
@[simp] theorem State.writeHiLo_linked (s : State) (h l : Dword) : (s.writeHiLo h l).linked = s.linked :=
    rfl
@[simp] theorem State.writeHiLo_cp0 (s : State) (h l : Dword) : (s.writeHiLo h l).cp0 = s.cp0 := rfl
@[simp] theorem State.writeHiLo_tlb (s : State) (h l : Dword) : (s.writeHiLo h l).tlb = s.tlb := rfl
@[simp] theorem State.writeHiLo_fpr (s : State) (h l : Dword) : (s.writeHiLo h l).fpr = s.fpr := rfl
@[simp] theorem State.writeHiLo_fcsr (s : State) (h l : Dword) : (s.writeHiLo h l).fcsr = s.fcsr := rfl
@[simp] theorem State.writeHiLo_x86 (s : State) (h l : Dword) : (s.writeHiLo h l).x86 = s.x86 := rfl
@[simp] theorem State.writeHiLo_cam (s : State) (h l : Dword) : (s.writeHiLo h l).cam = s.cam := rfl
@[simp] theorem State.writeHiLo_mem (s : State) (h l : Dword) : (s.writeHiLo h l).mem = s.mem := rfl
@[simp] theorem State.writeHiLo_lines (s : State) (h l : Dword) : (s.writeHiLo h l).lines = s.lines := rfl
@[simp] theorem State.writeHiLo_coldReset (s : State) (h l : Dword)
    : (s.writeHiLo h l).coldReset = s.coldReset := rfl
@[simp] theorem State.writeHiLo_softReset (s : State) (h l : Dword)
    : (s.writeHiLo h l).softReset = s.softReset := rfl
@[simp] theorem State.writeHiLo_nmi (s : State) (h l : Dword) : (s.writeHiLo h l).nmi = s.nmi := rfl
@[simp] theorem State.writeHiLo_phys (s : State) (h l : Dword) : (s.writeHiLo h l).phys = s.phys := rfl
@[simp] theorem State.writeHiLo_accel (s : State) (h l : Dword) : (s.writeHiLo h l).accel = s.accel := rfl
@[simp] theorem State.writeHiLo_coloured (s : State) (h l : Dword)
    : (s.writeHiLo h l).coloured = s.coloured := rfl
@[simp] theorem State.writeHiLo_stale (s : State) (h l : Dword) : (s.writeHiLo h l).stale = s.stale := rfl
@[simp] theorem State.writeHiLo_afterJump (s : State) (h l : Dword)
    : (s.writeHiLo h l).afterJump = s.afterJump := rfl
@[simp] theorem State.writeHiLo_intWait (s : State) (h l : Dword) : (s.writeHiLo h l).intWait = s.intWait :=
    rfl
@[simp] theorem State.writeHiLo_accelWait (s : State) (h l : Dword)
    : (s.writeHiLo h l).accelWait = s.accelWait := rfl
@[simp] theorem State.writeHiLo_countIdle (s : State) (h l : Dword)
    : (s.writeHiLo h l).countIdle = s.countIdle := rfl
@[simp] theorem State.writeHiLo_perf0Idle (s : State) (h l : Dword)
    : (s.writeHiLo h l).perf0Idle = s.perf0Idle := rfl
@[simp] theorem State.writeHiLo_perf1Idle (s : State) (h l : Dword)
    : (s.writeHiLo h l).perf1Idle = s.perf1Idle := rfl
@[simp] theorem State.writeHiLo_freeCounter (s : State) (h l : Dword)
    : (s.writeHiLo h l).freeCounter = s.freeCounter := rfl
@[simp] theorem State.writeHiLo_readGpr (s : State) (h l : Dword) (r : BitVec 5) :
    (s.writeHiLo h l).readGpr r = s.readGpr r := rfl
@[simp] theorem State.writeHiLo_readFpr (s : State) (h l : Dword) (r : BitVec 5) :
    (s.writeHiLo h l).readFpr r = s.readFpr r := rfl
@[simp] theorem State.writeHiLo_free (s : State) (h l : Dword) (k : Nat) :
    (s.writeHiLo h l).free k = s.free k := rfl
@[simp] theorem State.writeHiLo_isKernel (s : State) (h l : Dword) : (s.writeHiLo h l).isKernel = s.isKernel :=
    rfl
@[simp] theorem State.writeHiLo_isUser (s : State) (h l : Dword) : (s.writeHiLo h l).isUser = s.isUser :=
    rfl
@[simp] theorem State.writeHiLo_isSupervisor (s : State) (h l : Dword) : (s.writeHiLo h l).isSupervisor = s.isSupervisor :=
    rfl
@[simp] theorem State.writeHiLo_are64 (s : State) (h l : Dword) : (s.writeHiLo h l).are64 = s.are64 := rfl
@[simp] theorem State.writeHiLo_fr (s : State) (h l : Dword) : (s.writeHiLo h l).fr = s.fr := rfl
@[simp] theorem State.writeHiLo_exl (s : State) (h l : Dword) : (s.writeHiLo h l).exl = s.exl := rfl
@[simp] theorem State.writeHiLo_erl (s : State) (h l : Dword) : (s.writeHiLo h l).erl = s.erl := rfl
@[simp] theorem State.writeHiLo_ksu (s : State) (h l : Dword) : (s.writeHiLo h l).ksu = s.ksu := rfl

/-! ### `writeFpr` -/

@[simp] theorem State.writeFpr_gpr (s : State) (i : BitVec 5) (v : Dword) : (s.writeFpr i v).gpr = s.gpr :=
    rfl
@[simp] theorem State.writeFpr_hi (s : State) (i : BitVec 5) (v : Dword) : (s.writeFpr i v).hi = s.hi := rfl
@[simp] theorem State.writeFpr_lo (s : State) (i : BitVec 5) (v : Dword) : (s.writeFpr i v).lo = s.lo := rfl
@[simp] theorem State.writeFpr_pc (s : State) (i : BitVec 5) (v : Dword) : (s.writeFpr i v).pc = s.pc := rfl
@[simp] theorem State.writeFpr_npc (s : State) (i : BitVec 5) (v : Dword) : (s.writeFpr i v).npc = s.npc :=
    rfl
@[simp] theorem State.writeFpr_inDelaySlot (s : State) (i : BitVec 5) (v : Dword)
    : (s.writeFpr i v).inDelaySlot = s.inDelaySlot := rfl
@[simp] theorem State.writeFpr_llbit (s : State) (i : BitVec 5) (v : Dword)
    : (s.writeFpr i v).llbit = s.llbit := rfl
@[simp] theorem State.writeFpr_linked (s : State) (i : BitVec 5) (v : Dword)
    : (s.writeFpr i v).linked = s.linked := rfl
@[simp] theorem State.writeFpr_cp0 (s : State) (i : BitVec 5) (v : Dword) : (s.writeFpr i v).cp0 = s.cp0 :=
    rfl
@[simp] theorem State.writeFpr_tlb (s : State) (i : BitVec 5) (v : Dword) : (s.writeFpr i v).tlb = s.tlb :=
    rfl
@[simp] theorem State.writeFpr_fpr (s : State) (i : BitVec 5) (v : Dword)
    : (s.writeFpr i v).fpr = s.fpr.set i.toNat v i.isLt := rfl
@[simp] theorem State.writeFpr_fcsr (s : State) (i : BitVec 5) (v : Dword) : (s.writeFpr i v).fcsr = s.fcsr :=
    rfl
@[simp] theorem State.writeFpr_x86 (s : State) (i : BitVec 5) (v : Dword) : (s.writeFpr i v).x86 = s.x86 :=
    rfl
@[simp] theorem State.writeFpr_cam (s : State) (i : BitVec 5) (v : Dword) : (s.writeFpr i v).cam = s.cam :=
    rfl
@[simp] theorem State.writeFpr_mem (s : State) (i : BitVec 5) (v : Dword) : (s.writeFpr i v).mem = s.mem :=
    rfl
@[simp] theorem State.writeFpr_lines (s : State) (i : BitVec 5) (v : Dword)
    : (s.writeFpr i v).lines = s.lines := rfl
@[simp] theorem State.writeFpr_coldReset (s : State) (i : BitVec 5) (v : Dword)
    : (s.writeFpr i v).coldReset = s.coldReset := rfl
@[simp] theorem State.writeFpr_softReset (s : State) (i : BitVec 5) (v : Dword)
    : (s.writeFpr i v).softReset = s.softReset := rfl
@[simp] theorem State.writeFpr_nmi (s : State) (i : BitVec 5) (v : Dword) : (s.writeFpr i v).nmi = s.nmi :=
    rfl
@[simp] theorem State.writeFpr_phys (s : State) (i : BitVec 5) (v : Dword) : (s.writeFpr i v).phys = s.phys :=
    rfl
@[simp] theorem State.writeFpr_accel (s : State) (i : BitVec 5) (v : Dword)
    : (s.writeFpr i v).accel = s.accel := rfl
@[simp] theorem State.writeFpr_coloured (s : State) (i : BitVec 5) (v : Dword)
    : (s.writeFpr i v).coloured = s.coloured := rfl
@[simp] theorem State.writeFpr_stale (s : State) (i : BitVec 5) (v : Dword)
    : (s.writeFpr i v).stale = s.stale := rfl
@[simp] theorem State.writeFpr_afterJump (s : State) (i : BitVec 5) (v : Dword)
    : (s.writeFpr i v).afterJump = s.afterJump := rfl
@[simp] theorem State.writeFpr_intWait (s : State) (i : BitVec 5) (v : Dword)
    : (s.writeFpr i v).intWait = s.intWait := rfl
@[simp] theorem State.writeFpr_accelWait (s : State) (i : BitVec 5) (v : Dword)
    : (s.writeFpr i v).accelWait = s.accelWait := rfl
@[simp] theorem State.writeFpr_countIdle (s : State) (i : BitVec 5) (v : Dword)
    : (s.writeFpr i v).countIdle = s.countIdle := rfl
@[simp] theorem State.writeFpr_perf0Idle (s : State) (i : BitVec 5) (v : Dword)
    : (s.writeFpr i v).perf0Idle = s.perf0Idle := rfl
@[simp] theorem State.writeFpr_perf1Idle (s : State) (i : BitVec 5) (v : Dword)
    : (s.writeFpr i v).perf1Idle = s.perf1Idle := rfl
@[simp] theorem State.writeFpr_freeCounter (s : State) (i : BitVec 5) (v : Dword)
    : (s.writeFpr i v).freeCounter = s.freeCounter := rfl
@[simp] theorem State.writeFpr_readGpr (s : State) (i : BitVec 5) (v : Dword) (r : BitVec 5) :
    (s.writeFpr i v).readGpr r = s.readGpr r := rfl
@[simp] theorem State.writeFpr_free (s : State) (i : BitVec 5) (v : Dword) (k : Nat) :
    (s.writeFpr i v).free k = s.free k := rfl
@[simp] theorem State.writeFpr_isKernel (s : State) (i : BitVec 5) (v : Dword) : (s.writeFpr i v).isKernel = s.isKernel :=
    rfl
@[simp] theorem State.writeFpr_isUser (s : State) (i : BitVec 5) (v : Dword) : (s.writeFpr i v).isUser = s.isUser :=
    rfl
@[simp] theorem State.writeFpr_isSupervisor (s : State) (i : BitVec 5) (v : Dword) : (s.writeFpr i v).isSupervisor = s.isSupervisor :=
    rfl
@[simp] theorem State.writeFpr_are64 (s : State) (i : BitVec 5) (v : Dword) : (s.writeFpr i v).are64 = s.are64 :=
    rfl
@[simp] theorem State.writeFpr_fr (s : State) (i : BitVec 5) (v : Dword) : (s.writeFpr i v).fr = s.fr := rfl
@[simp] theorem State.writeFpr_exl (s : State) (i : BitVec 5) (v : Dword) : (s.writeFpr i v).exl = s.exl :=
    rfl
@[simp] theorem State.writeFpr_erl (s : State) (i : BitVec 5) (v : Dword) : (s.writeFpr i v).erl = s.erl :=
    rfl
@[simp] theorem State.writeFpr_ksu (s : State) (i : BitVec 5) (v : Dword) : (s.writeFpr i v).ksu = s.ksu :=
    rfl

/-! ### `setFcsr` -/

@[simp] theorem State.setFcsr_gpr (s : State) (v : Word) : (s.setFcsr v).gpr = s.gpr := rfl
@[simp] theorem State.setFcsr_hi (s : State) (v : Word) : (s.setFcsr v).hi = s.hi := rfl
@[simp] theorem State.setFcsr_lo (s : State) (v : Word) : (s.setFcsr v).lo = s.lo := rfl
@[simp] theorem State.setFcsr_pc (s : State) (v : Word) : (s.setFcsr v).pc = s.pc := rfl
@[simp] theorem State.setFcsr_npc (s : State) (v : Word) : (s.setFcsr v).npc = s.npc := rfl
@[simp] theorem State.setFcsr_inDelaySlot (s : State) (v : Word)
    : (s.setFcsr v).inDelaySlot = s.inDelaySlot := rfl
@[simp] theorem State.setFcsr_llbit (s : State) (v : Word) : (s.setFcsr v).llbit = s.llbit := rfl
@[simp] theorem State.setFcsr_linked (s : State) (v : Word) : (s.setFcsr v).linked = s.linked := rfl
@[simp] theorem State.setFcsr_cp0 (s : State) (v : Word) : (s.setFcsr v).cp0 = s.cp0 := rfl
@[simp] theorem State.setFcsr_tlb (s : State) (v : Word) : (s.setFcsr v).tlb = s.tlb := rfl
@[simp] theorem State.setFcsr_fpr (s : State) (v : Word) : (s.setFcsr v).fpr = s.fpr := rfl
@[simp] theorem State.setFcsr_fcsr (s : State) (v : Word) : (s.setFcsr v).fcsr = v := rfl
@[simp] theorem State.setFcsr_x86 (s : State) (v : Word) : (s.setFcsr v).x86 = s.x86 := rfl
@[simp] theorem State.setFcsr_cam (s : State) (v : Word) : (s.setFcsr v).cam = s.cam := rfl
@[simp] theorem State.setFcsr_mem (s : State) (v : Word) : (s.setFcsr v).mem = s.mem := rfl
@[simp] theorem State.setFcsr_lines (s : State) (v : Word) : (s.setFcsr v).lines = s.lines := rfl
@[simp] theorem State.setFcsr_coldReset (s : State) (v : Word) : (s.setFcsr v).coldReset = s.coldReset :=
    rfl
@[simp] theorem State.setFcsr_softReset (s : State) (v : Word) : (s.setFcsr v).softReset = s.softReset :=
    rfl
@[simp] theorem State.setFcsr_nmi (s : State) (v : Word) : (s.setFcsr v).nmi = s.nmi := rfl
@[simp] theorem State.setFcsr_phys (s : State) (v : Word) : (s.setFcsr v).phys = s.phys := rfl
@[simp] theorem State.setFcsr_accel (s : State) (v : Word) : (s.setFcsr v).accel = s.accel := rfl
@[simp] theorem State.setFcsr_coloured (s : State) (v : Word) : (s.setFcsr v).coloured = s.coloured := rfl
@[simp] theorem State.setFcsr_stale (s : State) (v : Word) : (s.setFcsr v).stale = s.stale := rfl
@[simp] theorem State.setFcsr_afterJump (s : State) (v : Word) : (s.setFcsr v).afterJump = s.afterJump :=
    rfl
@[simp] theorem State.setFcsr_intWait (s : State) (v : Word) : (s.setFcsr v).intWait = s.intWait := rfl
@[simp] theorem State.setFcsr_accelWait (s : State) (v : Word) : (s.setFcsr v).accelWait = s.accelWait :=
    rfl
@[simp] theorem State.setFcsr_countIdle (s : State) (v : Word) : (s.setFcsr v).countIdle = s.countIdle :=
    rfl
@[simp] theorem State.setFcsr_perf0Idle (s : State) (v : Word) : (s.setFcsr v).perf0Idle = s.perf0Idle :=
    rfl
@[simp] theorem State.setFcsr_perf1Idle (s : State) (v : Word) : (s.setFcsr v).perf1Idle = s.perf1Idle :=
    rfl
@[simp] theorem State.setFcsr_freeCounter (s : State) (v : Word)
    : (s.setFcsr v).freeCounter = s.freeCounter := rfl
@[simp] theorem State.setFcsr_readGpr (s : State) (v : Word) (r : BitVec 5) :
    (s.setFcsr v).readGpr r = s.readGpr r := rfl
@[simp] theorem State.setFcsr_readFpr (s : State) (v : Word) (r : BitVec 5) :
    (s.setFcsr v).readFpr r = s.readFpr r := rfl
@[simp] theorem State.setFcsr_free (s : State) (v : Word) (k : Nat) :
    (s.setFcsr v).free k = s.free k := rfl
@[simp] theorem State.setFcsr_isKernel (s : State) (v : Word) : (s.setFcsr v).isKernel = s.isKernel := rfl
@[simp] theorem State.setFcsr_isUser (s : State) (v : Word) : (s.setFcsr v).isUser = s.isUser := rfl
@[simp] theorem State.setFcsr_isSupervisor (s : State) (v : Word) : (s.setFcsr v).isSupervisor = s.isSupervisor :=
    rfl
@[simp] theorem State.setFcsr_are64 (s : State) (v : Word) : (s.setFcsr v).are64 = s.are64 := rfl
@[simp] theorem State.setFcsr_fr (s : State) (v : Word) : (s.setFcsr v).fr = s.fr := rfl
@[simp] theorem State.setFcsr_exl (s : State) (v : Word) : (s.setFcsr v).exl = s.exl := rfl
@[simp] theorem State.setFcsr_erl (s : State) (v : Word) : (s.setFcsr v).erl = s.erl := rfl
@[simp] theorem State.setFcsr_ksu (s : State) (v : Word) : (s.setFcsr v).ksu = s.ksu := rfl

/-! ### `setCp0` -/

@[simp] theorem State.setCp0_gpr (s : State) (c : Cp0) : (s.setCp0 c).gpr = s.gpr := rfl
@[simp] theorem State.setCp0_hi (s : State) (c : Cp0) : (s.setCp0 c).hi = s.hi := rfl
@[simp] theorem State.setCp0_lo (s : State) (c : Cp0) : (s.setCp0 c).lo = s.lo := rfl
@[simp] theorem State.setCp0_pc (s : State) (c : Cp0) : (s.setCp0 c).pc = s.pc := rfl
@[simp] theorem State.setCp0_npc (s : State) (c : Cp0) : (s.setCp0 c).npc = s.npc := rfl
@[simp] theorem State.setCp0_inDelaySlot (s : State) (c : Cp0) : (s.setCp0 c).inDelaySlot = s.inDelaySlot :=
    rfl
@[simp] theorem State.setCp0_llbit (s : State) (c : Cp0) : (s.setCp0 c).llbit = s.llbit := rfl
@[simp] theorem State.setCp0_linked (s : State) (c : Cp0) : (s.setCp0 c).linked = s.linked := rfl
@[simp] theorem State.setCp0_cp0 (s : State) (c : Cp0) : (s.setCp0 c).cp0 = c := rfl
@[simp] theorem State.setCp0_tlb (s : State) (c : Cp0) : (s.setCp0 c).tlb = s.tlb := rfl
@[simp] theorem State.setCp0_fpr (s : State) (c : Cp0) : (s.setCp0 c).fpr = s.fpr := rfl
@[simp] theorem State.setCp0_fcsr (s : State) (c : Cp0) : (s.setCp0 c).fcsr = s.fcsr := rfl
@[simp] theorem State.setCp0_x86 (s : State) (c : Cp0) : (s.setCp0 c).x86 = s.x86 := rfl
@[simp] theorem State.setCp0_cam (s : State) (c : Cp0) : (s.setCp0 c).cam = s.cam := rfl
@[simp] theorem State.setCp0_mem (s : State) (c : Cp0) : (s.setCp0 c).mem = s.mem := rfl
@[simp] theorem State.setCp0_lines (s : State) (c : Cp0) : (s.setCp0 c).lines = s.lines := rfl
@[simp] theorem State.setCp0_coldReset (s : State) (c : Cp0) : (s.setCp0 c).coldReset = s.coldReset := rfl
@[simp] theorem State.setCp0_softReset (s : State) (c : Cp0) : (s.setCp0 c).softReset = s.softReset := rfl
@[simp] theorem State.setCp0_nmi (s : State) (c : Cp0) : (s.setCp0 c).nmi = s.nmi := rfl
@[simp] theorem State.setCp0_phys (s : State) (c : Cp0) : (s.setCp0 c).phys = s.phys := rfl
@[simp] theorem State.setCp0_accel (s : State) (c : Cp0) : (s.setCp0 c).accel = s.accel := rfl
@[simp] theorem State.setCp0_coloured (s : State) (c : Cp0) : (s.setCp0 c).coloured = s.coloured := rfl
@[simp] theorem State.setCp0_stale (s : State) (c : Cp0) : (s.setCp0 c).stale = s.stale := rfl
@[simp] theorem State.setCp0_afterJump (s : State) (c : Cp0) : (s.setCp0 c).afterJump = s.afterJump := rfl
@[simp] theorem State.setCp0_intWait (s : State) (c : Cp0) : (s.setCp0 c).intWait = s.intWait := rfl
@[simp] theorem State.setCp0_accelWait (s : State) (c : Cp0) : (s.setCp0 c).accelWait = s.accelWait := rfl
@[simp] theorem State.setCp0_countIdle (s : State) (c : Cp0) : (s.setCp0 c).countIdle = s.countIdle := rfl
@[simp] theorem State.setCp0_perf0Idle (s : State) (c : Cp0) : (s.setCp0 c).perf0Idle = s.perf0Idle := rfl
@[simp] theorem State.setCp0_perf1Idle (s : State) (c : Cp0) : (s.setCp0 c).perf1Idle = s.perf1Idle := rfl
@[simp] theorem State.setCp0_freeCounter (s : State) (c : Cp0) : (s.setCp0 c).freeCounter = s.freeCounter :=
    rfl
@[simp] theorem State.setCp0_readGpr (s : State) (c : Cp0) (r : BitVec 5) :
    (s.setCp0 c).readGpr r = s.readGpr r := rfl
@[simp] theorem State.setCp0_readFpr (s : State) (c : Cp0) (r : BitVec 5) :
    (s.setCp0 c).readFpr r = s.readFpr r := rfl
@[simp] theorem State.setCp0_free (s : State) (c : Cp0) (k : Nat) :
    (s.setCp0 c).free k = s.free k := rfl

/-! ### `setTlb` -/

@[simp] theorem State.setTlb_gpr (s : State) (i : BitVec 6) (e : TlbEntry) : (s.setTlb i e).gpr = s.gpr :=
    rfl
@[simp] theorem State.setTlb_hi (s : State) (i : BitVec 6) (e : TlbEntry) : (s.setTlb i e).hi = s.hi := rfl
@[simp] theorem State.setTlb_lo (s : State) (i : BitVec 6) (e : TlbEntry) : (s.setTlb i e).lo = s.lo := rfl
@[simp] theorem State.setTlb_pc (s : State) (i : BitVec 6) (e : TlbEntry) : (s.setTlb i e).pc = s.pc := rfl
@[simp] theorem State.setTlb_npc (s : State) (i : BitVec 6) (e : TlbEntry) : (s.setTlb i e).npc = s.npc :=
    rfl
@[simp] theorem State.setTlb_inDelaySlot (s : State) (i : BitVec 6) (e : TlbEntry)
    : (s.setTlb i e).inDelaySlot = s.inDelaySlot := rfl
@[simp] theorem State.setTlb_llbit (s : State) (i : BitVec 6) (e : TlbEntry)
    : (s.setTlb i e).llbit = s.llbit := rfl
@[simp] theorem State.setTlb_linked (s : State) (i : BitVec 6) (e : TlbEntry)
    : (s.setTlb i e).linked = s.linked := rfl
@[simp] theorem State.setTlb_cp0 (s : State) (i : BitVec 6) (e : TlbEntry) : (s.setTlb i e).cp0 = s.cp0 :=
    rfl
@[simp] theorem State.setTlb_tlb (s : State) (i : BitVec 6) (e : TlbEntry)
    : (s.setTlb i e).tlb = s.tlb.set i.toNat e i.isLt := rfl
@[simp] theorem State.setTlb_fpr (s : State) (i : BitVec 6) (e : TlbEntry) : (s.setTlb i e).fpr = s.fpr :=
    rfl
@[simp] theorem State.setTlb_fcsr (s : State) (i : BitVec 6) (e : TlbEntry) : (s.setTlb i e).fcsr = s.fcsr :=
    rfl
@[simp] theorem State.setTlb_x86 (s : State) (i : BitVec 6) (e : TlbEntry) : (s.setTlb i e).x86 = s.x86 :=
    rfl
@[simp] theorem State.setTlb_cam (s : State) (i : BitVec 6) (e : TlbEntry) : (s.setTlb i e).cam = s.cam :=
    rfl
@[simp] theorem State.setTlb_mem (s : State) (i : BitVec 6) (e : TlbEntry) : (s.setTlb i e).mem = s.mem :=
    rfl
@[simp] theorem State.setTlb_lines (s : State) (i : BitVec 6) (e : TlbEntry)
    : (s.setTlb i e).lines = s.lines := rfl
@[simp] theorem State.setTlb_coldReset (s : State) (i : BitVec 6) (e : TlbEntry)
    : (s.setTlb i e).coldReset = s.coldReset := rfl
@[simp] theorem State.setTlb_softReset (s : State) (i : BitVec 6) (e : TlbEntry)
    : (s.setTlb i e).softReset = s.softReset := rfl
@[simp] theorem State.setTlb_nmi (s : State) (i : BitVec 6) (e : TlbEntry) : (s.setTlb i e).nmi = s.nmi :=
    rfl
@[simp] theorem State.setTlb_phys (s : State) (i : BitVec 6) (e : TlbEntry) : (s.setTlb i e).phys = s.phys :=
    rfl
@[simp] theorem State.setTlb_accel (s : State) (i : BitVec 6) (e : TlbEntry)
    : (s.setTlb i e).accel = s.accel := rfl
@[simp] theorem State.setTlb_coloured (s : State) (i : BitVec 6) (e : TlbEntry)
    : (s.setTlb i e).coloured = s.coloured := rfl
@[simp] theorem State.setTlb_stale (s : State) (i : BitVec 6) (e : TlbEntry)
    : (s.setTlb i e).stale = s.stale := rfl
@[simp] theorem State.setTlb_afterJump (s : State) (i : BitVec 6) (e : TlbEntry)
    : (s.setTlb i e).afterJump = s.afterJump := rfl
@[simp] theorem State.setTlb_intWait (s : State) (i : BitVec 6) (e : TlbEntry)
    : (s.setTlb i e).intWait = s.intWait := rfl
@[simp] theorem State.setTlb_accelWait (s : State) (i : BitVec 6) (e : TlbEntry)
    : (s.setTlb i e).accelWait = s.accelWait := rfl
@[simp] theorem State.setTlb_countIdle (s : State) (i : BitVec 6) (e : TlbEntry)
    : (s.setTlb i e).countIdle = s.countIdle := rfl
@[simp] theorem State.setTlb_perf0Idle (s : State) (i : BitVec 6) (e : TlbEntry)
    : (s.setTlb i e).perf0Idle = s.perf0Idle := rfl
@[simp] theorem State.setTlb_perf1Idle (s : State) (i : BitVec 6) (e : TlbEntry)
    : (s.setTlb i e).perf1Idle = s.perf1Idle := rfl
@[simp] theorem State.setTlb_freeCounter (s : State) (i : BitVec 6) (e : TlbEntry)
    : (s.setTlb i e).freeCounter = s.freeCounter := rfl
@[simp] theorem State.setTlb_readGpr (s : State) (i : BitVec 6) (e : TlbEntry) (r : BitVec 5) :
    (s.setTlb i e).readGpr r = s.readGpr r := rfl
@[simp] theorem State.setTlb_readFpr (s : State) (i : BitVec 6) (e : TlbEntry) (r : BitVec 5) :
    (s.setTlb i e).readFpr r = s.readFpr r := rfl
@[simp] theorem State.setTlb_free (s : State) (i : BitVec 6) (e : TlbEntry) (k : Nat) :
    (s.setTlb i e).free k = s.free k := rfl
@[simp] theorem State.setTlb_isKernel (s : State) (i : BitVec 6) (e : TlbEntry) : (s.setTlb i e).isKernel = s.isKernel :=
    rfl
@[simp] theorem State.setTlb_isUser (s : State) (i : BitVec 6) (e : TlbEntry) : (s.setTlb i e).isUser = s.isUser :=
    rfl
@[simp] theorem State.setTlb_isSupervisor (s : State) (i : BitVec 6) (e : TlbEntry) : (s.setTlb i e).isSupervisor = s.isSupervisor :=
    rfl
@[simp] theorem State.setTlb_are64 (s : State) (i : BitVec 6) (e : TlbEntry) : (s.setTlb i e).are64 = s.are64 :=
    rfl
@[simp] theorem State.setTlb_fr (s : State) (i : BitVec 6) (e : TlbEntry) : (s.setTlb i e).fr = s.fr := rfl
@[simp] theorem State.setTlb_exl (s : State) (i : BitVec 6) (e : TlbEntry) : (s.setTlb i e).exl = s.exl :=
    rfl
@[simp] theorem State.setTlb_erl (s : State) (i : BitVec 6) (e : TlbEntry) : (s.setTlb i e).erl = s.erl :=
    rfl
@[simp] theorem State.setTlb_ksu (s : State) (i : BitVec 6) (e : TlbEntry) : (s.setTlb i e).ksu = s.ksu :=
    rfl

/-! ### `setX86` -/

@[simp] theorem State.setX86_gpr (s : State) (x : X86) : (s.setX86 x).gpr = s.gpr := rfl
@[simp] theorem State.setX86_hi (s : State) (x : X86) : (s.setX86 x).hi = s.hi := rfl
@[simp] theorem State.setX86_lo (s : State) (x : X86) : (s.setX86 x).lo = s.lo := rfl
@[simp] theorem State.setX86_pc (s : State) (x : X86) : (s.setX86 x).pc = s.pc := rfl
@[simp] theorem State.setX86_npc (s : State) (x : X86) : (s.setX86 x).npc = s.npc := rfl
@[simp] theorem State.setX86_inDelaySlot (s : State) (x : X86) : (s.setX86 x).inDelaySlot = s.inDelaySlot :=
    rfl
@[simp] theorem State.setX86_llbit (s : State) (x : X86) : (s.setX86 x).llbit = s.llbit := rfl
@[simp] theorem State.setX86_linked (s : State) (x : X86) : (s.setX86 x).linked = s.linked := rfl
@[simp] theorem State.setX86_cp0 (s : State) (x : X86) : (s.setX86 x).cp0 = s.cp0 := rfl
@[simp] theorem State.setX86_tlb (s : State) (x : X86) : (s.setX86 x).tlb = s.tlb := rfl
@[simp] theorem State.setX86_fpr (s : State) (x : X86) : (s.setX86 x).fpr = s.fpr := rfl
@[simp] theorem State.setX86_fcsr (s : State) (x : X86) : (s.setX86 x).fcsr = s.fcsr := rfl
@[simp] theorem State.setX86_x86 (s : State) (x : X86) : (s.setX86 x).x86 = x := rfl
@[simp] theorem State.setX86_cam (s : State) (x : X86) : (s.setX86 x).cam = s.cam := rfl
@[simp] theorem State.setX86_mem (s : State) (x : X86) : (s.setX86 x).mem = s.mem := rfl
@[simp] theorem State.setX86_lines (s : State) (x : X86) : (s.setX86 x).lines = s.lines := rfl
@[simp] theorem State.setX86_coldReset (s : State) (x : X86) : (s.setX86 x).coldReset = s.coldReset := rfl
@[simp] theorem State.setX86_softReset (s : State) (x : X86) : (s.setX86 x).softReset = s.softReset := rfl
@[simp] theorem State.setX86_nmi (s : State) (x : X86) : (s.setX86 x).nmi = s.nmi := rfl
@[simp] theorem State.setX86_phys (s : State) (x : X86) : (s.setX86 x).phys = s.phys := rfl
@[simp] theorem State.setX86_accel (s : State) (x : X86) : (s.setX86 x).accel = s.accel := rfl
@[simp] theorem State.setX86_coloured (s : State) (x : X86) : (s.setX86 x).coloured = s.coloured := rfl
@[simp] theorem State.setX86_stale (s : State) (x : X86) : (s.setX86 x).stale = s.stale := rfl
@[simp] theorem State.setX86_afterJump (s : State) (x : X86) : (s.setX86 x).afterJump = s.afterJump := rfl
@[simp] theorem State.setX86_intWait (s : State) (x : X86) : (s.setX86 x).intWait = s.intWait := rfl
@[simp] theorem State.setX86_accelWait (s : State) (x : X86) : (s.setX86 x).accelWait = s.accelWait := rfl
@[simp] theorem State.setX86_countIdle (s : State) (x : X86) : (s.setX86 x).countIdle = s.countIdle := rfl
@[simp] theorem State.setX86_perf0Idle (s : State) (x : X86) : (s.setX86 x).perf0Idle = s.perf0Idle := rfl
@[simp] theorem State.setX86_perf1Idle (s : State) (x : X86) : (s.setX86 x).perf1Idle = s.perf1Idle := rfl
@[simp] theorem State.setX86_freeCounter (s : State) (x : X86) : (s.setX86 x).freeCounter = s.freeCounter :=
    rfl
@[simp] theorem State.setX86_readGpr (s : State) (x : X86) (r : BitVec 5) :
    (s.setX86 x).readGpr r = s.readGpr r := rfl
@[simp] theorem State.setX86_readFpr (s : State) (x : X86) (r : BitVec 5) :
    (s.setX86 x).readFpr r = s.readFpr r := rfl
@[simp] theorem State.setX86_free (s : State) (x : X86) (k : Nat) :
    (s.setX86 x).free k = s.free k := rfl
@[simp] theorem State.setX86_isKernel (s : State) (x : X86) : (s.setX86 x).isKernel = s.isKernel := rfl
@[simp] theorem State.setX86_isUser (s : State) (x : X86) : (s.setX86 x).isUser = s.isUser := rfl
@[simp] theorem State.setX86_isSupervisor (s : State) (x : X86) : (s.setX86 x).isSupervisor = s.isSupervisor :=
    rfl
@[simp] theorem State.setX86_are64 (s : State) (x : X86) : (s.setX86 x).are64 = s.are64 := rfl
@[simp] theorem State.setX86_fr (s : State) (x : X86) : (s.setX86 x).fr = s.fr := rfl
@[simp] theorem State.setX86_exl (s : State) (x : X86) : (s.setX86 x).exl = s.exl := rfl
@[simp] theorem State.setX86_erl (s : State) (x : X86) : (s.setX86 x).erl = s.erl := rfl
@[simp] theorem State.setX86_ksu (s : State) (x : X86) : (s.setX86 x).ksu = s.ksu := rfl

/-! ### `setLLbit` -/

@[simp] theorem State.setLLbit_gpr (s : State) (b : Bool) : (s.setLLbit b).gpr = s.gpr := rfl
@[simp] theorem State.setLLbit_hi (s : State) (b : Bool) : (s.setLLbit b).hi = s.hi := rfl
@[simp] theorem State.setLLbit_lo (s : State) (b : Bool) : (s.setLLbit b).lo = s.lo := rfl
@[simp] theorem State.setLLbit_pc (s : State) (b : Bool) : (s.setLLbit b).pc = s.pc := rfl
@[simp] theorem State.setLLbit_npc (s : State) (b : Bool) : (s.setLLbit b).npc = s.npc := rfl
@[simp] theorem State.setLLbit_inDelaySlot (s : State) (b : Bool)
    : (s.setLLbit b).inDelaySlot = s.inDelaySlot := rfl
@[simp] theorem State.setLLbit_llbit (s : State) (b : Bool) : (s.setLLbit b).llbit = b := rfl
@[simp] theorem State.setLLbit_linked (s : State) (b : Bool) : (s.setLLbit b).linked = s.linked := rfl
@[simp] theorem State.setLLbit_cp0 (s : State) (b : Bool) : (s.setLLbit b).cp0 = s.cp0 := rfl
@[simp] theorem State.setLLbit_tlb (s : State) (b : Bool) : (s.setLLbit b).tlb = s.tlb := rfl
@[simp] theorem State.setLLbit_fpr (s : State) (b : Bool) : (s.setLLbit b).fpr = s.fpr := rfl
@[simp] theorem State.setLLbit_fcsr (s : State) (b : Bool) : (s.setLLbit b).fcsr = s.fcsr := rfl
@[simp] theorem State.setLLbit_x86 (s : State) (b : Bool) : (s.setLLbit b).x86 = s.x86 := rfl
@[simp] theorem State.setLLbit_cam (s : State) (b : Bool) : (s.setLLbit b).cam = s.cam := rfl
@[simp] theorem State.setLLbit_mem (s : State) (b : Bool) : (s.setLLbit b).mem = s.mem := rfl
@[simp] theorem State.setLLbit_lines (s : State) (b : Bool) : (s.setLLbit b).lines = s.lines := rfl
@[simp] theorem State.setLLbit_coldReset (s : State) (b : Bool) : (s.setLLbit b).coldReset = s.coldReset :=
    rfl
@[simp] theorem State.setLLbit_softReset (s : State) (b : Bool) : (s.setLLbit b).softReset = s.softReset :=
    rfl
@[simp] theorem State.setLLbit_nmi (s : State) (b : Bool) : (s.setLLbit b).nmi = s.nmi := rfl
@[simp] theorem State.setLLbit_phys (s : State) (b : Bool) : (s.setLLbit b).phys = s.phys := rfl
@[simp] theorem State.setLLbit_accel (s : State) (b : Bool) : (s.setLLbit b).accel = s.accel := rfl
@[simp] theorem State.setLLbit_coloured (s : State) (b : Bool) : (s.setLLbit b).coloured = s.coloured := rfl
@[simp] theorem State.setLLbit_stale (s : State) (b : Bool) : (s.setLLbit b).stale = s.stale := rfl
@[simp] theorem State.setLLbit_afterJump (s : State) (b : Bool) : (s.setLLbit b).afterJump = s.afterJump :=
    rfl
@[simp] theorem State.setLLbit_intWait (s : State) (b : Bool) : (s.setLLbit b).intWait = s.intWait := rfl
@[simp] theorem State.setLLbit_accelWait (s : State) (b : Bool) : (s.setLLbit b).accelWait = s.accelWait :=
    rfl
@[simp] theorem State.setLLbit_countIdle (s : State) (b : Bool) : (s.setLLbit b).countIdle = s.countIdle :=
    rfl
@[simp] theorem State.setLLbit_perf0Idle (s : State) (b : Bool) : (s.setLLbit b).perf0Idle = s.perf0Idle :=
    rfl
@[simp] theorem State.setLLbit_perf1Idle (s : State) (b : Bool) : (s.setLLbit b).perf1Idle = s.perf1Idle :=
    rfl
@[simp] theorem State.setLLbit_freeCounter (s : State) (b : Bool)
    : (s.setLLbit b).freeCounter = s.freeCounter := rfl
@[simp] theorem State.setLLbit_readGpr (s : State) (b : Bool) (r : BitVec 5) :
    (s.setLLbit b).readGpr r = s.readGpr r := rfl
@[simp] theorem State.setLLbit_readFpr (s : State) (b : Bool) (r : BitVec 5) :
    (s.setLLbit b).readFpr r = s.readFpr r := rfl
@[simp] theorem State.setLLbit_free (s : State) (b : Bool) (k : Nat) :
    (s.setLLbit b).free k = s.free k := rfl
@[simp] theorem State.setLLbit_isKernel (s : State) (b : Bool) : (s.setLLbit b).isKernel = s.isKernel := rfl
@[simp] theorem State.setLLbit_isUser (s : State) (b : Bool) : (s.setLLbit b).isUser = s.isUser := rfl
@[simp] theorem State.setLLbit_isSupervisor (s : State) (b : Bool) : (s.setLLbit b).isSupervisor = s.isSupervisor :=
    rfl
@[simp] theorem State.setLLbit_are64 (s : State) (b : Bool) : (s.setLLbit b).are64 = s.are64 := rfl
@[simp] theorem State.setLLbit_fr (s : State) (b : Bool) : (s.setLLbit b).fr = s.fr := rfl
@[simp] theorem State.setLLbit_exl (s : State) (b : Bool) : (s.setLLbit b).exl = s.exl := rfl
@[simp] theorem State.setLLbit_erl (s : State) (b : Bool) : (s.setLLbit b).erl = s.erl := rfl
@[simp] theorem State.setLLbit_ksu (s : State) (b : Bool) : (s.setLLbit b).ksu = s.ksu := rfl

/-! ### `storeBytes` -/

@[simp] theorem State.storeBytes_gpr (s : State) (a n : Nat) (v : Dword) : (s.storeBytes a n v).gpr = s.gpr :=
    rfl
@[simp] theorem State.storeBytes_hi (s : State) (a n : Nat) (v : Dword) : (s.storeBytes a n v).hi = s.hi :=
    rfl
@[simp] theorem State.storeBytes_lo (s : State) (a n : Nat) (v : Dword) : (s.storeBytes a n v).lo = s.lo :=
    rfl
@[simp] theorem State.storeBytes_pc (s : State) (a n : Nat) (v : Dword) : (s.storeBytes a n v).pc = s.pc :=
    rfl
@[simp] theorem State.storeBytes_npc (s : State) (a n : Nat) (v : Dword) : (s.storeBytes a n v).npc = s.npc :=
    rfl
@[simp] theorem State.storeBytes_inDelaySlot (s : State) (a n : Nat) (v : Dword)
    : (s.storeBytes a n v).inDelaySlot = s.inDelaySlot := rfl
@[simp] theorem State.storeBytes_llbit (s : State) (a n : Nat) (v : Dword)
    : (s.storeBytes a n v).llbit = s.llbit := rfl
@[simp] theorem State.storeBytes_linked (s : State) (a n : Nat) (v : Dword)
    : (s.storeBytes a n v).linked = s.linked := rfl
@[simp] theorem State.storeBytes_cp0 (s : State) (a n : Nat) (v : Dword) : (s.storeBytes a n v).cp0 = s.cp0 :=
    rfl
@[simp] theorem State.storeBytes_tlb (s : State) (a n : Nat) (v : Dword) : (s.storeBytes a n v).tlb = s.tlb :=
    rfl
@[simp] theorem State.storeBytes_fpr (s : State) (a n : Nat) (v : Dword) : (s.storeBytes a n v).fpr = s.fpr :=
    rfl
@[simp] theorem State.storeBytes_fcsr (s : State) (a n : Nat) (v : Dword)
    : (s.storeBytes a n v).fcsr = s.fcsr := rfl
@[simp] theorem State.storeBytes_x86 (s : State) (a n : Nat) (v : Dword) : (s.storeBytes a n v).x86 = s.x86 :=
    rfl
@[simp] theorem State.storeBytes_cam (s : State) (a n : Nat) (v : Dword) : (s.storeBytes a n v).cam = s.cam :=
    rfl
@[simp] theorem State.storeBytes_mem (s : State) (a n : Nat) (v : Dword)
    : (s.storeBytes a n v).mem = writeLE s.mem a n v := rfl
@[simp] theorem State.storeBytes_lines (s : State) (a n : Nat) (v : Dword)
    : (s.storeBytes a n v).lines = s.lines := rfl
@[simp] theorem State.storeBytes_coldReset (s : State) (a n : Nat) (v : Dword)
    : (s.storeBytes a n v).coldReset = s.coldReset := rfl
@[simp] theorem State.storeBytes_softReset (s : State) (a n : Nat) (v : Dword)
    : (s.storeBytes a n v).softReset = s.softReset := rfl
@[simp] theorem State.storeBytes_nmi (s : State) (a n : Nat) (v : Dword) : (s.storeBytes a n v).nmi = s.nmi :=
    rfl
@[simp] theorem State.storeBytes_phys (s : State) (a n : Nat) (v : Dword)
    : (s.storeBytes a n v).phys = s.phys := rfl
@[simp] theorem State.storeBytes_accel (s : State) (a n : Nat) (v : Dword)
    : (s.storeBytes a n v).accel = s.accel := rfl
@[simp] theorem State.storeBytes_coloured (s : State) (a n : Nat) (v : Dword)
    : (s.storeBytes a n v).coloured = s.coloured := rfl
@[simp] theorem State.storeBytes_stale (s : State) (a n : Nat) (v : Dword)
    : (s.storeBytes a n v).stale = s.overwritten a n ++ s.stale := rfl
@[simp] theorem State.storeBytes_afterJump (s : State) (a n : Nat) (v : Dword)
    : (s.storeBytes a n v).afterJump = s.afterJump := rfl
@[simp] theorem State.storeBytes_intWait (s : State) (a n : Nat) (v : Dword)
    : (s.storeBytes a n v).intWait = s.intWait := rfl
@[simp] theorem State.storeBytes_accelWait (s : State) (a n : Nat) (v : Dword)
    : (s.storeBytes a n v).accelWait = s.accelWait := rfl
@[simp] theorem State.storeBytes_countIdle (s : State) (a n : Nat) (v : Dword)
    : (s.storeBytes a n v).countIdle = s.countIdle := rfl
@[simp] theorem State.storeBytes_perf0Idle (s : State) (a n : Nat) (v : Dword)
    : (s.storeBytes a n v).perf0Idle = s.perf0Idle := rfl
@[simp] theorem State.storeBytes_perf1Idle (s : State) (a n : Nat) (v : Dword)
    : (s.storeBytes a n v).perf1Idle = s.perf1Idle := rfl
@[simp] theorem State.storeBytes_freeCounter (s : State) (a n : Nat) (v : Dword)
    : (s.storeBytes a n v).freeCounter = s.freeCounter := rfl
@[simp] theorem State.storeBytes_readGpr (s : State) (a n : Nat) (v : Dword) (r : BitVec 5) :
    (s.storeBytes a n v).readGpr r = s.readGpr r := rfl
@[simp] theorem State.storeBytes_readFpr (s : State) (a n : Nat) (v : Dword) (r : BitVec 5) :
    (s.storeBytes a n v).readFpr r = s.readFpr r := rfl
@[simp] theorem State.storeBytes_free (s : State) (a n : Nat) (v : Dword) (k : Nat) :
    (s.storeBytes a n v).free k = s.free k := rfl
@[simp] theorem State.storeBytes_isKernel (s : State) (a n : Nat) (v : Dword) : (s.storeBytes a n v).isKernel = s.isKernel :=
    rfl
@[simp] theorem State.storeBytes_isUser (s : State) (a n : Nat) (v : Dword) : (s.storeBytes a n v).isUser = s.isUser :=
    rfl
@[simp] theorem State.storeBytes_isSupervisor (s : State) (a n : Nat) (v : Dword) : (s.storeBytes a n v).isSupervisor = s.isSupervisor :=
    rfl
@[simp] theorem State.storeBytes_are64 (s : State) (a n : Nat) (v : Dword) : (s.storeBytes a n v).are64 = s.are64 :=
    rfl
@[simp] theorem State.storeBytes_fr (s : State) (a n : Nat) (v : Dword) : (s.storeBytes a n v).fr = s.fr :=
    rfl
@[simp] theorem State.storeBytes_exl (s : State) (a n : Nat) (v : Dword) : (s.storeBytes a n v).exl = s.exl :=
    rfl
@[simp] theorem State.storeBytes_erl (s : State) (a n : Nat) (v : Dword) : (s.storeBytes a n v).erl = s.erl :=
    rfl
@[simp] theorem State.storeBytes_ksu (s : State) (a n : Nat) (v : Dword) : (s.storeBytes a n v).ksu = s.ksu :=
    rfl

/-! ### `link` -/

@[simp] theorem State.link_gpr (s : State) (p : PhysAddr) (n : Nat) : (s.link p n).gpr = s.gpr := rfl
@[simp] theorem State.link_hi (s : State) (p : PhysAddr) (n : Nat) : (s.link p n).hi = s.hi := rfl
@[simp] theorem State.link_lo (s : State) (p : PhysAddr) (n : Nat) : (s.link p n).lo = s.lo := rfl
@[simp] theorem State.link_pc (s : State) (p : PhysAddr) (n : Nat) : (s.link p n).pc = s.pc := rfl
@[simp] theorem State.link_npc (s : State) (p : PhysAddr) (n : Nat) : (s.link p n).npc = s.npc := rfl
@[simp] theorem State.link_inDelaySlot (s : State) (p : PhysAddr) (n : Nat)
    : (s.link p n).inDelaySlot = s.inDelaySlot := rfl
@[simp] theorem State.link_llbit (s : State) (p : PhysAddr) (n : Nat) : (s.link p n).llbit = true := rfl
@[simp] theorem State.link_linked (s : State) (p : PhysAddr) (n : Nat) : (s.link p n).linked = some ⟨p, n⟩ :=
    rfl
@[simp] theorem State.link_tlb (s : State) (p : PhysAddr) (n : Nat) : (s.link p n).tlb = s.tlb := rfl
@[simp] theorem State.link_fpr (s : State) (p : PhysAddr) (n : Nat) : (s.link p n).fpr = s.fpr := rfl
@[simp] theorem State.link_fcsr (s : State) (p : PhysAddr) (n : Nat) : (s.link p n).fcsr = s.fcsr := rfl
@[simp] theorem State.link_x86 (s : State) (p : PhysAddr) (n : Nat) : (s.link p n).x86 = s.x86 := rfl
@[simp] theorem State.link_cam (s : State) (p : PhysAddr) (n : Nat) : (s.link p n).cam = s.cam := rfl
@[simp] theorem State.link_mem (s : State) (p : PhysAddr) (n : Nat) : (s.link p n).mem = s.mem := rfl
@[simp] theorem State.link_lines (s : State) (p : PhysAddr) (n : Nat) : (s.link p n).lines = s.lines := rfl
@[simp] theorem State.link_coldReset (s : State) (p : PhysAddr) (n : Nat)
    : (s.link p n).coldReset = s.coldReset := rfl
@[simp] theorem State.link_softReset (s : State) (p : PhysAddr) (n : Nat)
    : (s.link p n).softReset = s.softReset := rfl
@[simp] theorem State.link_nmi (s : State) (p : PhysAddr) (n : Nat) : (s.link p n).nmi = s.nmi := rfl
@[simp] theorem State.link_phys (s : State) (p : PhysAddr) (n : Nat) : (s.link p n).phys = s.phys := rfl
@[simp] theorem State.link_accel (s : State) (p : PhysAddr) (n : Nat) : (s.link p n).accel = s.accel := rfl
@[simp] theorem State.link_coloured (s : State) (p : PhysAddr) (n : Nat)
    : (s.link p n).coloured = s.coloured := rfl
@[simp] theorem State.link_stale (s : State) (p : PhysAddr) (n : Nat) : (s.link p n).stale = s.stale := rfl
@[simp] theorem State.link_afterJump (s : State) (p : PhysAddr) (n : Nat)
    : (s.link p n).afterJump = s.afterJump := rfl
@[simp] theorem State.link_intWait (s : State) (p : PhysAddr) (n : Nat) : (s.link p n).intWait = s.intWait :=
    rfl
@[simp] theorem State.link_accelWait (s : State) (p : PhysAddr) (n : Nat)
    : (s.link p n).accelWait = s.accelWait := rfl
@[simp] theorem State.link_countIdle (s : State) (p : PhysAddr) (n : Nat)
    : (s.link p n).countIdle = s.countIdle := rfl
@[simp] theorem State.link_perf0Idle (s : State) (p : PhysAddr) (n : Nat)
    : (s.link p n).perf0Idle = s.perf0Idle := rfl
@[simp] theorem State.link_perf1Idle (s : State) (p : PhysAddr) (n : Nat)
    : (s.link p n).perf1Idle = s.perf1Idle := rfl
@[simp] theorem State.link_freeCounter (s : State) (p : PhysAddr) (n : Nat)
    : (s.link p n).freeCounter = s.freeCounter := rfl
@[simp] theorem State.link_readGpr (s : State) (p : PhysAddr) (n : Nat) (r : BitVec 5) :
    (s.link p n).readGpr r = s.readGpr r := rfl
@[simp] theorem State.link_readFpr (s : State) (p : PhysAddr) (n : Nat) (r : BitVec 5) :
    (s.link p n).readFpr r = s.readFpr r := rfl
@[simp] theorem State.link_free (s : State) (p : PhysAddr) (n : Nat) (k : Nat) :
    (s.link p n).free k = s.free k := rfl

/-! ### `markSynced` -/

@[simp] theorem State.markSynced_gpr (s : State) : (s.markSynced).gpr = s.gpr := rfl
@[simp] theorem State.markSynced_hi (s : State) : (s.markSynced).hi = s.hi := rfl
@[simp] theorem State.markSynced_lo (s : State) : (s.markSynced).lo = s.lo := rfl
@[simp] theorem State.markSynced_pc (s : State) : (s.markSynced).pc = s.pc := rfl
@[simp] theorem State.markSynced_npc (s : State) : (s.markSynced).npc = s.npc := rfl
@[simp] theorem State.markSynced_inDelaySlot (s : State) : (s.markSynced).inDelaySlot = s.inDelaySlot := rfl
@[simp] theorem State.markSynced_llbit (s : State) : (s.markSynced).llbit = s.llbit := rfl
@[simp] theorem State.markSynced_linked (s : State) : (s.markSynced).linked = s.linked := rfl
@[simp] theorem State.markSynced_cp0 (s : State) : (s.markSynced).cp0 = s.cp0 := rfl
@[simp] theorem State.markSynced_tlb (s : State) : (s.markSynced).tlb = s.tlb := rfl
@[simp] theorem State.markSynced_fpr (s : State) : (s.markSynced).fpr = s.fpr := rfl
@[simp] theorem State.markSynced_fcsr (s : State) : (s.markSynced).fcsr = s.fcsr := rfl
@[simp] theorem State.markSynced_x86 (s : State) : (s.markSynced).x86 = s.x86 := rfl
@[simp] theorem State.markSynced_cam (s : State) : (s.markSynced).cam = s.cam := rfl
@[simp] theorem State.markSynced_mem (s : State) : (s.markSynced).mem = s.mem := rfl
@[simp] theorem State.markSynced_lines (s : State) : (s.markSynced).lines = s.lines := rfl
@[simp] theorem State.markSynced_coldReset (s : State) : (s.markSynced).coldReset = s.coldReset := rfl
@[simp] theorem State.markSynced_softReset (s : State) : (s.markSynced).softReset = s.softReset := rfl
@[simp] theorem State.markSynced_nmi (s : State) : (s.markSynced).nmi = s.nmi := rfl
@[simp] theorem State.markSynced_phys (s : State) : (s.markSynced).phys = s.phys := rfl
@[simp] theorem State.markSynced_accel (s : State) : (s.markSynced).accel = s.accel := rfl
@[simp] theorem State.markSynced_coloured (s : State) : (s.markSynced).coloured = s.coloured := rfl
@[simp] theorem State.markSynced_afterJump (s : State) : (s.markSynced).afterJump = s.afterJump := rfl
@[simp] theorem State.markSynced_intWait (s : State) : (s.markSynced).intWait = s.intWait := rfl
@[simp] theorem State.markSynced_accelWait (s : State) : (s.markSynced).accelWait = s.accelWait := rfl
@[simp] theorem State.markSynced_countIdle (s : State) : (s.markSynced).countIdle = s.countIdle := rfl
@[simp] theorem State.markSynced_perf0Idle (s : State) : (s.markSynced).perf0Idle = s.perf0Idle := rfl
@[simp] theorem State.markSynced_perf1Idle (s : State) : (s.markSynced).perf1Idle = s.perf1Idle := rfl
@[simp] theorem State.markSynced_freeCounter (s : State) : (s.markSynced).freeCounter = s.freeCounter := rfl
@[simp] theorem State.markSynced_readGpr (s : State) (r : BitVec 5) :
    (s.markSynced).readGpr r = s.readGpr r := rfl
@[simp] theorem State.markSynced_readFpr (s : State) (r : BitVec 5) :
    (s.markSynced).readFpr r = s.readFpr r := rfl
@[simp] theorem State.markSynced_free (s : State) (k : Nat) :
    (s.markSynced).free k = s.free k := rfl
@[simp] theorem State.markSynced_isKernel (s : State) : (s.markSynced).isKernel = s.isKernel := rfl
@[simp] theorem State.markSynced_isUser (s : State) : (s.markSynced).isUser = s.isUser := rfl
@[simp] theorem State.markSynced_isSupervisor (s : State) : (s.markSynced).isSupervisor = s.isSupervisor :=
    rfl
@[simp] theorem State.markSynced_are64 (s : State) : (s.markSynced).are64 = s.are64 := rfl
@[simp] theorem State.markSynced_fr (s : State) : (s.markSynced).fr = s.fr := rfl
@[simp] theorem State.markSynced_exl (s : State) : (s.markSynced).exl = s.exl := rfl
@[simp] theorem State.markSynced_erl (s : State) : (s.markSynced).erl = s.erl := rfl
@[simp] theorem State.markSynced_ksu (s : State) : (s.markSynced).ksu = s.ksu := rfl

/-! ### `dropSynced` -/

@[simp] theorem State.dropSynced_gpr (s : State) : (s.dropSynced).gpr = s.gpr := rfl
@[simp] theorem State.dropSynced_hi (s : State) : (s.dropSynced).hi = s.hi := rfl
@[simp] theorem State.dropSynced_lo (s : State) : (s.dropSynced).lo = s.lo := rfl
@[simp] theorem State.dropSynced_pc (s : State) : (s.dropSynced).pc = s.pc := rfl
@[simp] theorem State.dropSynced_npc (s : State) : (s.dropSynced).npc = s.npc := rfl
@[simp] theorem State.dropSynced_inDelaySlot (s : State) : (s.dropSynced).inDelaySlot = s.inDelaySlot := rfl
@[simp] theorem State.dropSynced_llbit (s : State) : (s.dropSynced).llbit = s.llbit := rfl
@[simp] theorem State.dropSynced_linked (s : State) : (s.dropSynced).linked = s.linked := rfl
@[simp] theorem State.dropSynced_cp0 (s : State) : (s.dropSynced).cp0 = s.cp0 := rfl
@[simp] theorem State.dropSynced_tlb (s : State) : (s.dropSynced).tlb = s.tlb := rfl
@[simp] theorem State.dropSynced_fpr (s : State) : (s.dropSynced).fpr = s.fpr := rfl
@[simp] theorem State.dropSynced_fcsr (s : State) : (s.dropSynced).fcsr = s.fcsr := rfl
@[simp] theorem State.dropSynced_x86 (s : State) : (s.dropSynced).x86 = s.x86 := rfl
@[simp] theorem State.dropSynced_cam (s : State) : (s.dropSynced).cam = s.cam := rfl
@[simp] theorem State.dropSynced_mem (s : State) : (s.dropSynced).mem = s.mem := rfl
@[simp] theorem State.dropSynced_lines (s : State) : (s.dropSynced).lines = s.lines := rfl
@[simp] theorem State.dropSynced_coldReset (s : State) : (s.dropSynced).coldReset = s.coldReset := rfl
@[simp] theorem State.dropSynced_softReset (s : State) : (s.dropSynced).softReset = s.softReset := rfl
@[simp] theorem State.dropSynced_nmi (s : State) : (s.dropSynced).nmi = s.nmi := rfl
@[simp] theorem State.dropSynced_phys (s : State) : (s.dropSynced).phys = s.phys := rfl
@[simp] theorem State.dropSynced_accel (s : State) : (s.dropSynced).accel = s.accel := rfl
@[simp] theorem State.dropSynced_coloured (s : State) : (s.dropSynced).coloured = s.coloured := rfl
@[simp] theorem State.dropSynced_afterJump (s : State) : (s.dropSynced).afterJump = false := rfl
@[simp] theorem State.dropSynced_intWait (s : State) : (s.dropSynced).intWait = s.intWait := rfl
@[simp] theorem State.dropSynced_accelWait (s : State) : (s.dropSynced).accelWait = s.accelWait := rfl
@[simp] theorem State.dropSynced_countIdle (s : State) : (s.dropSynced).countIdle = s.countIdle := rfl
@[simp] theorem State.dropSynced_perf0Idle (s : State) : (s.dropSynced).perf0Idle = s.perf0Idle := rfl
@[simp] theorem State.dropSynced_perf1Idle (s : State) : (s.dropSynced).perf1Idle = s.perf1Idle := rfl
@[simp] theorem State.dropSynced_freeCounter (s : State) : (s.dropSynced).freeCounter = s.freeCounter := rfl
@[simp] theorem State.dropSynced_readGpr (s : State) (r : BitVec 5) :
    (s.dropSynced).readGpr r = s.readGpr r := rfl
@[simp] theorem State.dropSynced_readFpr (s : State) (r : BitVec 5) :
    (s.dropSynced).readFpr r = s.readFpr r := rfl
@[simp] theorem State.dropSynced_free (s : State) (k : Nat) :
    (s.dropSynced).free k = s.free k := rfl
@[simp] theorem State.dropSynced_isKernel (s : State) : (s.dropSynced).isKernel = s.isKernel := rfl
@[simp] theorem State.dropSynced_isUser (s : State) : (s.dropSynced).isUser = s.isUser := rfl
@[simp] theorem State.dropSynced_isSupervisor (s : State) : (s.dropSynced).isSupervisor = s.isSupervisor :=
    rfl
@[simp] theorem State.dropSynced_are64 (s : State) : (s.dropSynced).are64 = s.are64 := rfl
@[simp] theorem State.dropSynced_fr (s : State) : (s.dropSynced).fr = s.fr := rfl
@[simp] theorem State.dropSynced_exl (s : State) : (s.dropSynced).exl = s.exl := rfl
@[simp] theorem State.dropSynced_erl (s : State) : (s.dropSynced).erl = s.erl := rfl
@[simp] theorem State.dropSynced_ksu (s : State) : (s.dropSynced).ksu = s.ksu := rfl

/-! ### `takeException` -/

@[simp] theorem State.takeException_gpr (s : State) (e : Exc) : (s.takeException e).gpr = s.gpr := rfl
@[simp] theorem State.takeException_hi (s : State) (e : Exc) : (s.takeException e).hi = s.hi := rfl
@[simp] theorem State.takeException_lo (s : State) (e : Exc) : (s.takeException e).lo = s.lo := rfl
@[simp] theorem State.takeException_inDelaySlot (s : State) (e : Exc)
    : (s.takeException e).inDelaySlot = false := rfl
@[simp] theorem State.takeException_llbit (s : State) (e : Exc) : (s.takeException e).llbit = s.llbit := rfl
@[simp] theorem State.takeException_linked (s : State) (e : Exc) : (s.takeException e).linked = s.linked :=
    rfl
@[simp] theorem State.takeException_tlb (s : State) (e : Exc) : (s.takeException e).tlb = s.tlb := rfl
@[simp] theorem State.takeException_fpr (s : State) (e : Exc) : (s.takeException e).fpr = s.fpr := rfl
@[simp] theorem State.takeException_fcsr (s : State) (e : Exc) : (s.takeException e).fcsr = s.fcsr := rfl
@[simp] theorem State.takeException_x86 (s : State) (e : Exc) : (s.takeException e).x86 = s.x86 := rfl
@[simp] theorem State.takeException_cam (s : State) (e : Exc) : (s.takeException e).cam = s.cam := rfl
@[simp] theorem State.takeException_mem (s : State) (e : Exc) : (s.takeException e).mem = s.mem := rfl
@[simp] theorem State.takeException_lines (s : State) (e : Exc) : (s.takeException e).lines = s.lines := rfl
@[simp] theorem State.takeException_coldReset (s : State) (e : Exc)
    : (s.takeException e).coldReset = s.coldReset := rfl
@[simp] theorem State.takeException_softReset (s : State) (e : Exc)
    : (s.takeException e).softReset = s.softReset := rfl
@[simp] theorem State.takeException_nmi (s : State) (e : Exc) : (s.takeException e).nmi = s.nmi := rfl
@[simp] theorem State.takeException_phys (s : State) (e : Exc) : (s.takeException e).phys = s.phys := rfl
@[simp] theorem State.takeException_accel (s : State) (e : Exc) : (s.takeException e).accel = s.accel := rfl
@[simp] theorem State.takeException_coloured (s : State) (e : Exc)
    : (s.takeException e).coloured = s.coloured := rfl
@[simp] theorem State.takeException_stale (s : State) (e : Exc) : (s.takeException e).stale = s.stale := rfl
@[simp] theorem State.takeException_afterJump (s : State) (e : Exc) : (s.takeException e).afterJump = false :=
    rfl
@[simp] theorem State.takeException_intWait (s : State) (e : Exc) : (s.takeException e).intWait = s.intWait :=
    rfl
@[simp] theorem State.takeException_accelWait (s : State) (e : Exc)
    : (s.takeException e).accelWait = s.accelWait := rfl
@[simp] theorem State.takeException_countIdle (s : State) (e : Exc)
    : (s.takeException e).countIdle = s.countIdle := rfl
@[simp] theorem State.takeException_perf0Idle (s : State) (e : Exc)
    : (s.takeException e).perf0Idle = s.perf0Idle := rfl
@[simp] theorem State.takeException_perf1Idle (s : State) (e : Exc)
    : (s.takeException e).perf1Idle = s.perf1Idle := rfl
@[simp] theorem State.takeException_freeCounter (s : State) (e : Exc)
    : (s.takeException e).freeCounter = s.freeCounter := rfl
@[simp] theorem State.takeException_readGpr (s : State) (e : Exc) (r : BitVec 5) :
    (s.takeException e).readGpr r = s.readGpr r := rfl
@[simp] theorem State.takeException_readFpr (s : State) (e : Exc) (r : BitVec 5) :
    (s.takeException e).readFpr r = s.readFpr r := rfl
@[simp] theorem State.takeException_free (s : State) (e : Exc) (k : Nat) :
    (s.takeException e).free k = s.free k := rfl

/-! ### `returnFromException` -/

@[simp] theorem State.returnFromException_gpr (s : State) : (s.returnFromException).gpr = s.gpr := rfl
@[simp] theorem State.returnFromException_hi (s : State) : (s.returnFromException).hi = s.hi := rfl
@[simp] theorem State.returnFromException_lo (s : State) : (s.returnFromException).lo = s.lo := rfl
@[simp] theorem State.returnFromException_inDelaySlot (s : State)
    : (s.returnFromException).inDelaySlot = false := rfl
@[simp] theorem State.returnFromException_llbit (s : State) : (s.returnFromException).llbit = false := rfl
@[simp] theorem State.returnFromException_linked (s : State) : (s.returnFromException).linked = s.linked :=
    rfl
@[simp] theorem State.returnFromException_tlb (s : State) : (s.returnFromException).tlb = s.tlb := rfl
@[simp] theorem State.returnFromException_fpr (s : State) : (s.returnFromException).fpr = s.fpr := rfl
@[simp] theorem State.returnFromException_fcsr (s : State) : (s.returnFromException).fcsr = s.fcsr := rfl
@[simp] theorem State.returnFromException_x86 (s : State) : (s.returnFromException).x86 = s.x86 := rfl
@[simp] theorem State.returnFromException_cam (s : State) : (s.returnFromException).cam = s.cam := rfl
@[simp] theorem State.returnFromException_mem (s : State) : (s.returnFromException).mem = s.mem := rfl
@[simp] theorem State.returnFromException_lines (s : State) : (s.returnFromException).lines = s.lines := rfl
@[simp] theorem State.returnFromException_coldReset (s : State)
    : (s.returnFromException).coldReset = s.coldReset := rfl
@[simp] theorem State.returnFromException_softReset (s : State)
    : (s.returnFromException).softReset = s.softReset := rfl
@[simp] theorem State.returnFromException_nmi (s : State) : (s.returnFromException).nmi = s.nmi := rfl
@[simp] theorem State.returnFromException_phys (s : State) : (s.returnFromException).phys = s.phys := rfl
@[simp] theorem State.returnFromException_accel (s : State) : (s.returnFromException).accel = s.accel := rfl
@[simp] theorem State.returnFromException_coloured (s : State)
    : (s.returnFromException).coloured = s.coloured := rfl
@[simp] theorem State.returnFromException_afterJump (s : State) : (s.returnFromException).afterJump = false :=
    rfl
@[simp] theorem State.returnFromException_intWait (s : State) : (s.returnFromException).intWait = s.intWait :=
    rfl
@[simp] theorem State.returnFromException_accelWait (s : State)
    : (s.returnFromException).accelWait = s.accelWait := rfl
@[simp] theorem State.returnFromException_countIdle (s : State)
    : (s.returnFromException).countIdle = s.countIdle := rfl
@[simp] theorem State.returnFromException_perf0Idle (s : State)
    : (s.returnFromException).perf0Idle = s.perf0Idle := rfl
@[simp] theorem State.returnFromException_perf1Idle (s : State)
    : (s.returnFromException).perf1Idle = s.perf1Idle := rfl
@[simp] theorem State.returnFromException_freeCounter (s : State)
    : (s.returnFromException).freeCounter = s.freeCounter := rfl
@[simp] theorem State.returnFromException_readGpr (s : State) (r : BitVec 5) :
    (s.returnFromException).readGpr r = s.readGpr r := rfl
@[simp] theorem State.returnFromException_readFpr (s : State) (r : BitVec 5) :
    (s.returnFromException).readFpr r = s.readFpr r := rfl
@[simp] theorem State.returnFromException_free (s : State) (k : Nat) :
    (s.returnFromException).free k = s.free k := rfl

/-! ### `writeSingle` -/

@[simp] theorem State.writeSingle_gpr (s : State) (i : BitVec 5) (v : Word)
    : (s.writeSingle i v).gpr = s.gpr := rfl
@[simp] theorem State.writeSingle_hi (s : State) (i : BitVec 5) (v : Word) : (s.writeSingle i v).hi = s.hi :=
    rfl
@[simp] theorem State.writeSingle_lo (s : State) (i : BitVec 5) (v : Word) : (s.writeSingle i v).lo = s.lo :=
    rfl
@[simp] theorem State.writeSingle_pc (s : State) (i : BitVec 5) (v : Word) : (s.writeSingle i v).pc = s.pc :=
    rfl
@[simp] theorem State.writeSingle_npc (s : State) (i : BitVec 5) (v : Word)
    : (s.writeSingle i v).npc = s.npc := rfl
@[simp] theorem State.writeSingle_inDelaySlot (s : State) (i : BitVec 5) (v : Word)
    : (s.writeSingle i v).inDelaySlot = s.inDelaySlot := rfl
@[simp] theorem State.writeSingle_llbit (s : State) (i : BitVec 5) (v : Word)
    : (s.writeSingle i v).llbit = s.llbit := rfl
@[simp] theorem State.writeSingle_linked (s : State) (i : BitVec 5) (v : Word)
    : (s.writeSingle i v).linked = s.linked := rfl
@[simp] theorem State.writeSingle_cp0 (s : State) (i : BitVec 5) (v : Word)
    : (s.writeSingle i v).cp0 = s.cp0 := rfl
@[simp] theorem State.writeSingle_tlb (s : State) (i : BitVec 5) (v : Word)
    : (s.writeSingle i v).tlb = s.tlb := rfl
@[simp] theorem State.writeSingle_fcsr (s : State) (i : BitVec 5) (v : Word)
    : (s.writeSingle i v).fcsr = s.fcsr := rfl
@[simp] theorem State.writeSingle_x86 (s : State) (i : BitVec 5) (v : Word)
    : (s.writeSingle i v).x86 = s.x86 := rfl
@[simp] theorem State.writeSingle_cam (s : State) (i : BitVec 5) (v : Word)
    : (s.writeSingle i v).cam = s.cam := rfl
@[simp] theorem State.writeSingle_mem (s : State) (i : BitVec 5) (v : Word)
    : (s.writeSingle i v).mem = s.mem := rfl
@[simp] theorem State.writeSingle_lines (s : State) (i : BitVec 5) (v : Word)
    : (s.writeSingle i v).lines = s.lines := rfl
@[simp] theorem State.writeSingle_coldReset (s : State) (i : BitVec 5) (v : Word)
    : (s.writeSingle i v).coldReset = s.coldReset := rfl
@[simp] theorem State.writeSingle_softReset (s : State) (i : BitVec 5) (v : Word)
    : (s.writeSingle i v).softReset = s.softReset := rfl
@[simp] theorem State.writeSingle_nmi (s : State) (i : BitVec 5) (v : Word)
    : (s.writeSingle i v).nmi = s.nmi := rfl
@[simp] theorem State.writeSingle_phys (s : State) (i : BitVec 5) (v : Word)
    : (s.writeSingle i v).phys = s.phys := rfl
@[simp] theorem State.writeSingle_accel (s : State) (i : BitVec 5) (v : Word)
    : (s.writeSingle i v).accel = s.accel := rfl
@[simp] theorem State.writeSingle_coloured (s : State) (i : BitVec 5) (v : Word)
    : (s.writeSingle i v).coloured = s.coloured := rfl
@[simp] theorem State.writeSingle_stale (s : State) (i : BitVec 5) (v : Word)
    : (s.writeSingle i v).stale = s.stale := rfl
@[simp] theorem State.writeSingle_afterJump (s : State) (i : BitVec 5) (v : Word)
    : (s.writeSingle i v).afterJump = s.afterJump := rfl
@[simp] theorem State.writeSingle_intWait (s : State) (i : BitVec 5) (v : Word)
    : (s.writeSingle i v).intWait = s.intWait := rfl
@[simp] theorem State.writeSingle_accelWait (s : State) (i : BitVec 5) (v : Word)
    : (s.writeSingle i v).accelWait = s.accelWait := rfl
@[simp] theorem State.writeSingle_countIdle (s : State) (i : BitVec 5) (v : Word)
    : (s.writeSingle i v).countIdle = s.countIdle := rfl
@[simp] theorem State.writeSingle_perf0Idle (s : State) (i : BitVec 5) (v : Word)
    : (s.writeSingle i v).perf0Idle = s.perf0Idle := rfl
@[simp] theorem State.writeSingle_perf1Idle (s : State) (i : BitVec 5) (v : Word)
    : (s.writeSingle i v).perf1Idle = s.perf1Idle := rfl
@[simp] theorem State.writeSingle_freeCounter (s : State) (i : BitVec 5) (v : Word)
    : (s.writeSingle i v).freeCounter = s.freeCounter := rfl
@[simp] theorem State.writeSingle_readGpr (s : State) (i : BitVec 5) (v : Word) (r : BitVec 5) :
    (s.writeSingle i v).readGpr r = s.readGpr r := rfl
@[simp] theorem State.writeSingle_free (s : State) (i : BitVec 5) (v : Word) (k : Nat) :
    (s.writeSingle i v).free k = s.free k := rfl
@[simp] theorem State.writeSingle_isKernel (s : State) (i : BitVec 5) (v : Word) : (s.writeSingle i v).isKernel = s.isKernel :=
    rfl
@[simp] theorem State.writeSingle_isUser (s : State) (i : BitVec 5) (v : Word) : (s.writeSingle i v).isUser = s.isUser :=
    rfl
@[simp] theorem State.writeSingle_isSupervisor (s : State) (i : BitVec 5) (v : Word) : (s.writeSingle i v).isSupervisor = s.isSupervisor :=
    rfl
@[simp] theorem State.writeSingle_are64 (s : State) (i : BitVec 5) (v : Word) : (s.writeSingle i v).are64 = s.are64 :=
    rfl
@[simp] theorem State.writeSingle_fr (s : State) (i : BitVec 5) (v : Word) : (s.writeSingle i v).fr = s.fr :=
    rfl
@[simp] theorem State.writeSingle_exl (s : State) (i : BitVec 5) (v : Word) : (s.writeSingle i v).exl = s.exl :=
    rfl
@[simp] theorem State.writeSingle_erl (s : State) (i : BitVec 5) (v : Word) : (s.writeSingle i v).erl = s.erl :=
    rfl
@[simp] theorem State.writeSingle_ksu (s : State) (i : BitVec 5) (v : Word) : (s.writeSingle i v).ksu = s.ksu :=
    rfl

/-! ### `writeDouble` -/

@[simp] theorem State.writeDouble_gpr (s : State) (i : BitVec 5) (v : Nat)
    : (s.writeDouble i v).gpr = s.gpr := rfl
@[simp] theorem State.writeDouble_hi (s : State) (i : BitVec 5) (v : Nat) : (s.writeDouble i v).hi = s.hi :=
    rfl
@[simp] theorem State.writeDouble_lo (s : State) (i : BitVec 5) (v : Nat) : (s.writeDouble i v).lo = s.lo :=
    rfl
@[simp] theorem State.writeDouble_pc (s : State) (i : BitVec 5) (v : Nat) : (s.writeDouble i v).pc = s.pc :=
    rfl
@[simp] theorem State.writeDouble_npc (s : State) (i : BitVec 5) (v : Nat)
    : (s.writeDouble i v).npc = s.npc := rfl
@[simp] theorem State.writeDouble_inDelaySlot (s : State) (i : BitVec 5) (v : Nat)
    : (s.writeDouble i v).inDelaySlot = s.inDelaySlot := rfl
@[simp] theorem State.writeDouble_llbit (s : State) (i : BitVec 5) (v : Nat)
    : (s.writeDouble i v).llbit = s.llbit := rfl
@[simp] theorem State.writeDouble_linked (s : State) (i : BitVec 5) (v : Nat)
    : (s.writeDouble i v).linked = s.linked := rfl
@[simp] theorem State.writeDouble_cp0 (s : State) (i : BitVec 5) (v : Nat)
    : (s.writeDouble i v).cp0 = s.cp0 := rfl
@[simp] theorem State.writeDouble_tlb (s : State) (i : BitVec 5) (v : Nat)
    : (s.writeDouble i v).tlb = s.tlb := rfl
@[simp] theorem State.writeDouble_fcsr (s : State) (i : BitVec 5) (v : Nat)
    : (s.writeDouble i v).fcsr = s.fcsr := rfl
@[simp] theorem State.writeDouble_x86 (s : State) (i : BitVec 5) (v : Nat)
    : (s.writeDouble i v).x86 = s.x86 := rfl
@[simp] theorem State.writeDouble_cam (s : State) (i : BitVec 5) (v : Nat)
    : (s.writeDouble i v).cam = s.cam := rfl
@[simp] theorem State.writeDouble_mem (s : State) (i : BitVec 5) (v : Nat)
    : (s.writeDouble i v).mem = s.mem := rfl
@[simp] theorem State.writeDouble_lines (s : State) (i : BitVec 5) (v : Nat)
    : (s.writeDouble i v).lines = s.lines := rfl
@[simp] theorem State.writeDouble_coldReset (s : State) (i : BitVec 5) (v : Nat)
    : (s.writeDouble i v).coldReset = s.coldReset := rfl
@[simp] theorem State.writeDouble_softReset (s : State) (i : BitVec 5) (v : Nat)
    : (s.writeDouble i v).softReset = s.softReset := rfl
@[simp] theorem State.writeDouble_nmi (s : State) (i : BitVec 5) (v : Nat)
    : (s.writeDouble i v).nmi = s.nmi := rfl
@[simp] theorem State.writeDouble_phys (s : State) (i : BitVec 5) (v : Nat)
    : (s.writeDouble i v).phys = s.phys := rfl
@[simp] theorem State.writeDouble_accel (s : State) (i : BitVec 5) (v : Nat)
    : (s.writeDouble i v).accel = s.accel := rfl
@[simp] theorem State.writeDouble_coloured (s : State) (i : BitVec 5) (v : Nat)
    : (s.writeDouble i v).coloured = s.coloured := rfl
@[simp] theorem State.writeDouble_stale (s : State) (i : BitVec 5) (v : Nat)
    : (s.writeDouble i v).stale = s.stale := rfl
@[simp] theorem State.writeDouble_afterJump (s : State) (i : BitVec 5) (v : Nat)
    : (s.writeDouble i v).afterJump = s.afterJump := rfl
@[simp] theorem State.writeDouble_intWait (s : State) (i : BitVec 5) (v : Nat)
    : (s.writeDouble i v).intWait = s.intWait := rfl
@[simp] theorem State.writeDouble_accelWait (s : State) (i : BitVec 5) (v : Nat)
    : (s.writeDouble i v).accelWait = s.accelWait := rfl
@[simp] theorem State.writeDouble_countIdle (s : State) (i : BitVec 5) (v : Nat)
    : (s.writeDouble i v).countIdle = s.countIdle := rfl
@[simp] theorem State.writeDouble_perf0Idle (s : State) (i : BitVec 5) (v : Nat)
    : (s.writeDouble i v).perf0Idle = s.perf0Idle := rfl
@[simp] theorem State.writeDouble_perf1Idle (s : State) (i : BitVec 5) (v : Nat)
    : (s.writeDouble i v).perf1Idle = s.perf1Idle := rfl
@[simp] theorem State.writeDouble_freeCounter (s : State) (i : BitVec 5) (v : Nat)
    : (s.writeDouble i v).freeCounter = s.freeCounter := rfl
@[simp] theorem State.writeDouble_readGpr (s : State) (i : BitVec 5) (v : Nat) (r : BitVec 5) :
    (s.writeDouble i v).readGpr r = s.readGpr r := rfl
@[simp] theorem State.writeDouble_free (s : State) (i : BitVec 5) (v : Nat) (k : Nat) :
    (s.writeDouble i v).free k = s.free k := rfl
@[simp] theorem State.writeDouble_isKernel (s : State) (i : BitVec 5) (v : Nat) : (s.writeDouble i v).isKernel = s.isKernel :=
    rfl
@[simp] theorem State.writeDouble_isUser (s : State) (i : BitVec 5) (v : Nat) : (s.writeDouble i v).isUser = s.isUser :=
    rfl
@[simp] theorem State.writeDouble_isSupervisor (s : State) (i : BitVec 5) (v : Nat) : (s.writeDouble i v).isSupervisor = s.isSupervisor :=
    rfl
@[simp] theorem State.writeDouble_are64 (s : State) (i : BitVec 5) (v : Nat) : (s.writeDouble i v).are64 = s.are64 :=
    rfl
@[simp] theorem State.writeDouble_fr (s : State) (i : BitVec 5) (v : Nat) : (s.writeDouble i v).fr = s.fr :=
    rfl
@[simp] theorem State.writeDouble_exl (s : State) (i : BitVec 5) (v : Nat) : (s.writeDouble i v).exl = s.exl :=
    rfl
@[simp] theorem State.writeDouble_erl (s : State) (i : BitVec 5) (v : Nat) : (s.writeDouble i v).erl = s.erl :=
    rfl
@[simp] theorem State.writeDouble_ksu (s : State) (i : BitVec 5) (v : Nat) : (s.writeDouble i v).ksu = s.ksu :=
    rfl

/-! ### `landAll` -/

/-- The stores of a list change memory and the record of old words only. -/
theorem State.landAll_fields (s : State) (l : List BufferedStore) :
    s.landAll l = { s with mem := (s.landAll l).mem, stale := (s.landAll l).stale } := by
  induction l generalizing s with
  | nil => rfl
  | cons b r ih => exact ih (s.storeBytes b.addr b.size b.value)

/-! ### `drain` -/

/-- Writing out the buffer changes memory, the record of old words and the buffer only. -/
theorem State.drain_fields (s : State) :
    s.drain = { s with mem := s.drain.mem, stale := s.drain.stale, accel := [] } := by
  unfold State.drain
  rw [State.landAll_fields]

@[simp] theorem State.drain_gpr (s : State) : (s.drain).gpr = s.gpr := by rw [State.drain_fields]
@[simp] theorem State.drain_hi (s : State) : (s.drain).hi = s.hi := by rw [State.drain_fields]
@[simp] theorem State.drain_lo (s : State) : (s.drain).lo = s.lo := by rw [State.drain_fields]
@[simp] theorem State.drain_pc (s : State) : (s.drain).pc = s.pc := by rw [State.drain_fields]
@[simp] theorem State.drain_npc (s : State) : (s.drain).npc = s.npc := by rw [State.drain_fields]
@[simp] theorem State.drain_inDelaySlot (s : State) : (s.drain).inDelaySlot = s.inDelaySlot :=
    by rw [State.drain_fields]
@[simp] theorem State.drain_llbit (s : State) : (s.drain).llbit = s.llbit := by rw [State.drain_fields]
@[simp] theorem State.drain_linked (s : State) : (s.drain).linked = s.linked := by rw [State.drain_fields]
@[simp] theorem State.drain_cp0 (s : State) : (s.drain).cp0 = s.cp0 := by rw [State.drain_fields]
@[simp] theorem State.drain_tlb (s : State) : (s.drain).tlb = s.tlb := by rw [State.drain_fields]
@[simp] theorem State.drain_fpr (s : State) : (s.drain).fpr = s.fpr := by rw [State.drain_fields]
@[simp] theorem State.drain_fcsr (s : State) : (s.drain).fcsr = s.fcsr := by rw [State.drain_fields]
@[simp] theorem State.drain_x86 (s : State) : (s.drain).x86 = s.x86 := by rw [State.drain_fields]
@[simp] theorem State.drain_cam (s : State) : (s.drain).cam = s.cam := by rw [State.drain_fields]
@[simp] theorem State.drain_lines (s : State) : (s.drain).lines = s.lines := by rw [State.drain_fields]
@[simp] theorem State.drain_coldReset (s : State) : (s.drain).coldReset = s.coldReset :=
    by rw [State.drain_fields]
@[simp] theorem State.drain_softReset (s : State) : (s.drain).softReset = s.softReset :=
    by rw [State.drain_fields]
@[simp] theorem State.drain_nmi (s : State) : (s.drain).nmi = s.nmi := by rw [State.drain_fields]
@[simp] theorem State.drain_phys (s : State) : (s.drain).phys = s.phys := by rw [State.drain_fields]
@[simp] theorem State.drain_accel (s : State) : (s.drain).accel = [] := by rw [State.drain_fields]
@[simp] theorem State.drain_coloured (s : State) : (s.drain).coloured = s.coloured :=
    by rw [State.drain_fields]
@[simp] theorem State.drain_afterJump (s : State) : (s.drain).afterJump = s.afterJump :=
    by rw [State.drain_fields]
@[simp] theorem State.drain_intWait (s : State) : (s.drain).intWait = s.intWait :=
    by rw [State.drain_fields]
@[simp] theorem State.drain_accelWait (s : State) : (s.drain).accelWait = s.accelWait :=
    by rw [State.drain_fields]
@[simp] theorem State.drain_countIdle (s : State) : (s.drain).countIdle = s.countIdle :=
    by rw [State.drain_fields]
@[simp] theorem State.drain_perf0Idle (s : State) : (s.drain).perf0Idle = s.perf0Idle :=
    by rw [State.drain_fields]
@[simp] theorem State.drain_perf1Idle (s : State) : (s.drain).perf1Idle = s.perf1Idle :=
    by rw [State.drain_fields]
@[simp] theorem State.drain_freeCounter (s : State) : (s.drain).freeCounter = s.freeCounter :=
    by rw [State.drain_fields]
@[simp] theorem State.drain_readGpr (s : State) (r : BitVec 5) :
    (s.drain).readGpr r = s.readGpr r := by rw [State.drain_fields]; rfl
@[simp] theorem State.drain_readFpr (s : State) (r : BitVec 5) :
    (s.drain).readFpr r = s.readFpr r := by rw [State.drain_fields]; rfl
@[simp] theorem State.drain_free (s : State) (k : Nat) :
    (s.drain).free k = s.free k := by rw [State.drain_fields]; rfl
@[simp] theorem State.drain_isKernel (s : State) : (s.drain).isKernel = s.isKernel :=
    by rw [State.drain_fields]; rfl
@[simp] theorem State.drain_isUser (s : State) : (s.drain).isUser = s.isUser :=
    by rw [State.drain_fields]; rfl
@[simp] theorem State.drain_isSupervisor (s : State) : (s.drain).isSupervisor = s.isSupervisor :=
    by rw [State.drain_fields]; rfl
@[simp] theorem State.drain_are64 (s : State) : (s.drain).are64 = s.are64 := by rw [State.drain_fields]; rfl
@[simp] theorem State.drain_fr (s : State) : (s.drain).fr = s.fr := by rw [State.drain_fields]; rfl
@[simp] theorem State.drain_exl (s : State) : (s.drain).exl = s.exl := by rw [State.drain_fields]; rfl
@[simp] theorem State.drain_erl (s : State) : (s.drain).erl = s.erl := by rw [State.drain_fields]; rfl
@[simp] theorem State.drain_ksu (s : State) : (s.drain).ksu = s.ksu := by rw [State.drain_fields]; rfl

/-! ### `collect` -/

/-- A store that joins the buffer changes memory, the record of old words and the buffer only. -/
theorem State.collect_fields (s : State) (b : BufferedStore) :
    s.collect b = { s with
      mem := (s.collect b).mem, stale := (s.collect b).stale, accel := (s.collect b).accel } := by
  unfold State.collect
  dsimp only
  split
  · rw [State.drain_fields]
  · rfl

/-! ### `landStore` -/

/-- A store changes memory, the record of old words and the buffer only. -/
theorem State.landStore_fields (s : State) (c : BitVec 3) (b : BufferedStore) :
    s.landStore c b = { s with
      mem := (s.landStore c b).mem, stale := (s.landStore c b).stale, accel := (s.landStore c b).accel } := by
  unfold State.landStore
  split
  · exact State.collect_fields s b
  · split
    · rw [State.drain_fields]; rfl
    · rfl

@[simp] theorem State.landStore_gpr (s : State) (c : BitVec 3) (b : BufferedStore)
    : (s.landStore c b).gpr = s.gpr := by rw [State.landStore_fields]
@[simp] theorem State.landStore_hi (s : State) (c : BitVec 3) (b : BufferedStore)
    : (s.landStore c b).hi = s.hi := by rw [State.landStore_fields]
@[simp] theorem State.landStore_lo (s : State) (c : BitVec 3) (b : BufferedStore)
    : (s.landStore c b).lo = s.lo := by rw [State.landStore_fields]
@[simp] theorem State.landStore_pc (s : State) (c : BitVec 3) (b : BufferedStore)
    : (s.landStore c b).pc = s.pc := by rw [State.landStore_fields]
@[simp] theorem State.landStore_npc (s : State) (c : BitVec 3) (b : BufferedStore)
    : (s.landStore c b).npc = s.npc := by rw [State.landStore_fields]
@[simp] theorem State.landStore_inDelaySlot (s : State) (c : BitVec 3) (b : BufferedStore)
    : (s.landStore c b).inDelaySlot = s.inDelaySlot := by rw [State.landStore_fields]
@[simp] theorem State.landStore_llbit (s : State) (c : BitVec 3) (b : BufferedStore)
    : (s.landStore c b).llbit = s.llbit := by rw [State.landStore_fields]
@[simp] theorem State.landStore_linked (s : State) (c : BitVec 3) (b : BufferedStore)
    : (s.landStore c b).linked = s.linked := by rw [State.landStore_fields]
@[simp] theorem State.landStore_cp0 (s : State) (c : BitVec 3) (b : BufferedStore)
    : (s.landStore c b).cp0 = s.cp0 := by rw [State.landStore_fields]
@[simp] theorem State.landStore_tlb (s : State) (c : BitVec 3) (b : BufferedStore)
    : (s.landStore c b).tlb = s.tlb := by rw [State.landStore_fields]
@[simp] theorem State.landStore_fpr (s : State) (c : BitVec 3) (b : BufferedStore)
    : (s.landStore c b).fpr = s.fpr := by rw [State.landStore_fields]
@[simp] theorem State.landStore_fcsr (s : State) (c : BitVec 3) (b : BufferedStore)
    : (s.landStore c b).fcsr = s.fcsr := by rw [State.landStore_fields]
@[simp] theorem State.landStore_x86 (s : State) (c : BitVec 3) (b : BufferedStore)
    : (s.landStore c b).x86 = s.x86 := by rw [State.landStore_fields]
@[simp] theorem State.landStore_cam (s : State) (c : BitVec 3) (b : BufferedStore)
    : (s.landStore c b).cam = s.cam := by rw [State.landStore_fields]
@[simp] theorem State.landStore_lines (s : State) (c : BitVec 3) (b : BufferedStore)
    : (s.landStore c b).lines = s.lines := by rw [State.landStore_fields]
@[simp] theorem State.landStore_coldReset (s : State) (c : BitVec 3) (b : BufferedStore)
    : (s.landStore c b).coldReset = s.coldReset := by rw [State.landStore_fields]
@[simp] theorem State.landStore_softReset (s : State) (c : BitVec 3) (b : BufferedStore)
    : (s.landStore c b).softReset = s.softReset := by rw [State.landStore_fields]
@[simp] theorem State.landStore_nmi (s : State) (c : BitVec 3) (b : BufferedStore)
    : (s.landStore c b).nmi = s.nmi := by rw [State.landStore_fields]
@[simp] theorem State.landStore_phys (s : State) (c : BitVec 3) (b : BufferedStore)
    : (s.landStore c b).phys = s.phys := by rw [State.landStore_fields]
@[simp] theorem State.landStore_coloured (s : State) (c : BitVec 3) (b : BufferedStore)
    : (s.landStore c b).coloured = s.coloured := by rw [State.landStore_fields]
@[simp] theorem State.landStore_afterJump (s : State) (c : BitVec 3) (b : BufferedStore)
    : (s.landStore c b).afterJump = s.afterJump := by rw [State.landStore_fields]
@[simp] theorem State.landStore_intWait (s : State) (c : BitVec 3) (b : BufferedStore)
    : (s.landStore c b).intWait = s.intWait := by rw [State.landStore_fields]
@[simp] theorem State.landStore_accelWait (s : State) (c : BitVec 3) (b : BufferedStore)
    : (s.landStore c b).accelWait = s.accelWait := by rw [State.landStore_fields]
@[simp] theorem State.landStore_countIdle (s : State) (c : BitVec 3) (b : BufferedStore)
    : (s.landStore c b).countIdle = s.countIdle := by rw [State.landStore_fields]
@[simp] theorem State.landStore_perf0Idle (s : State) (c : BitVec 3) (b : BufferedStore)
    : (s.landStore c b).perf0Idle = s.perf0Idle := by rw [State.landStore_fields]
@[simp] theorem State.landStore_perf1Idle (s : State) (c : BitVec 3) (b : BufferedStore)
    : (s.landStore c b).perf1Idle = s.perf1Idle := by rw [State.landStore_fields]
@[simp] theorem State.landStore_freeCounter (s : State) (c : BitVec 3) (b : BufferedStore)
    : (s.landStore c b).freeCounter = s.freeCounter := by rw [State.landStore_fields]
@[simp] theorem State.landStore_readGpr (s : State) (c : BitVec 3) (b : BufferedStore) (r : BitVec 5) :
    (s.landStore c b).readGpr r = s.readGpr r := by rw [State.landStore_fields]; rfl
@[simp] theorem State.landStore_readFpr (s : State) (c : BitVec 3) (b : BufferedStore) (r : BitVec 5) :
    (s.landStore c b).readFpr r = s.readFpr r := by rw [State.landStore_fields]; rfl
@[simp] theorem State.landStore_free (s : State) (c : BitVec 3) (b : BufferedStore) (k : Nat) :
    (s.landStore c b).free k = s.free k := by rw [State.landStore_fields]; rfl
@[simp] theorem State.landStore_isKernel (s : State) (c : BitVec 3) (b : BufferedStore) : (s.landStore c b).isKernel = s.isKernel :=
    by rw [State.landStore_fields]; rfl
@[simp] theorem State.landStore_isUser (s : State) (c : BitVec 3) (b : BufferedStore) : (s.landStore c b).isUser = s.isUser :=
    by rw [State.landStore_fields]; rfl
@[simp] theorem State.landStore_isSupervisor (s : State) (c : BitVec 3) (b : BufferedStore) : (s.landStore c b).isSupervisor = s.isSupervisor :=
    by rw [State.landStore_fields]; rfl
@[simp] theorem State.landStore_are64 (s : State) (c : BitVec 3) (b : BufferedStore) : (s.landStore c b).are64 = s.are64 :=
    by rw [State.landStore_fields]; rfl
@[simp] theorem State.landStore_fr (s : State) (c : BitVec 3) (b : BufferedStore) : (s.landStore c b).fr = s.fr :=
    by rw [State.landStore_fields]; rfl
@[simp] theorem State.landStore_exl (s : State) (c : BitVec 3) (b : BufferedStore) : (s.landStore c b).exl = s.exl :=
    by rw [State.landStore_fields]; rfl
@[simp] theorem State.landStore_erl (s : State) (c : BitVec 3) (b : BufferedStore) : (s.landStore c b).erl = s.erl :=
    by rw [State.landStore_fields]; rfl
@[simp] theorem State.landStore_ksu (s : State) (c : BitVec 3) (b : BufferedStore) : (s.landStore c b).ksu = s.ksu :=
    by rw [State.landStore_fields]; rfl

/-! ### `synchronise` -/

/-- SYNC changes memory, the record of old words and the buffer only. -/
theorem State.synchronise_fields (s : State) :
    s.synchronise = { s with mem := s.synchronise.mem, stale := s.synchronise.stale, accel := [] } := by
  unfold State.synchronise State.markSynced
  rw [State.drain_fields]

@[simp] theorem State.synchronise_gpr (s : State) : (s.synchronise).gpr = s.gpr :=
    by rw [State.synchronise_fields]
@[simp] theorem State.synchronise_hi (s : State) : (s.synchronise).hi = s.hi :=
    by rw [State.synchronise_fields]
@[simp] theorem State.synchronise_lo (s : State) : (s.synchronise).lo = s.lo :=
    by rw [State.synchronise_fields]
@[simp] theorem State.synchronise_pc (s : State) : (s.synchronise).pc = s.pc :=
    by rw [State.synchronise_fields]
@[simp] theorem State.synchronise_npc (s : State) : (s.synchronise).npc = s.npc :=
    by rw [State.synchronise_fields]
@[simp] theorem State.synchronise_inDelaySlot (s : State) : (s.synchronise).inDelaySlot = s.inDelaySlot :=
    by rw [State.synchronise_fields]
@[simp] theorem State.synchronise_llbit (s : State) : (s.synchronise).llbit = s.llbit :=
    by rw [State.synchronise_fields]
@[simp] theorem State.synchronise_linked (s : State) : (s.synchronise).linked = s.linked :=
    by rw [State.synchronise_fields]
@[simp] theorem State.synchronise_cp0 (s : State) : (s.synchronise).cp0 = s.cp0 :=
    by rw [State.synchronise_fields]
@[simp] theorem State.synchronise_tlb (s : State) : (s.synchronise).tlb = s.tlb :=
    by rw [State.synchronise_fields]
@[simp] theorem State.synchronise_fpr (s : State) : (s.synchronise).fpr = s.fpr :=
    by rw [State.synchronise_fields]
@[simp] theorem State.synchronise_fcsr (s : State) : (s.synchronise).fcsr = s.fcsr :=
    by rw [State.synchronise_fields]
@[simp] theorem State.synchronise_x86 (s : State) : (s.synchronise).x86 = s.x86 :=
    by rw [State.synchronise_fields]
@[simp] theorem State.synchronise_cam (s : State) : (s.synchronise).cam = s.cam :=
    by rw [State.synchronise_fields]
@[simp] theorem State.synchronise_lines (s : State) : (s.synchronise).lines = s.lines :=
    by rw [State.synchronise_fields]
@[simp] theorem State.synchronise_coldReset (s : State) : (s.synchronise).coldReset = s.coldReset :=
    by rw [State.synchronise_fields]
@[simp] theorem State.synchronise_softReset (s : State) : (s.synchronise).softReset = s.softReset :=
    by rw [State.synchronise_fields]
@[simp] theorem State.synchronise_nmi (s : State) : (s.synchronise).nmi = s.nmi :=
    by rw [State.synchronise_fields]
@[simp] theorem State.synchronise_phys (s : State) : (s.synchronise).phys = s.phys :=
    by rw [State.synchronise_fields]
@[simp] theorem State.synchronise_accel (s : State) : (s.synchronise).accel = [] :=
    by rw [State.synchronise_fields]
@[simp] theorem State.synchronise_coloured (s : State) : (s.synchronise).coloured = s.coloured :=
    by rw [State.synchronise_fields]
@[simp] theorem State.synchronise_afterJump (s : State) : (s.synchronise).afterJump = s.afterJump :=
    by rw [State.synchronise_fields]
@[simp] theorem State.synchronise_intWait (s : State) : (s.synchronise).intWait = s.intWait :=
    by rw [State.synchronise_fields]
@[simp] theorem State.synchronise_accelWait (s : State) : (s.synchronise).accelWait = s.accelWait :=
    by rw [State.synchronise_fields]
@[simp] theorem State.synchronise_countIdle (s : State) : (s.synchronise).countIdle = s.countIdle :=
    by rw [State.synchronise_fields]
@[simp] theorem State.synchronise_perf0Idle (s : State) : (s.synchronise).perf0Idle = s.perf0Idle :=
    by rw [State.synchronise_fields]
@[simp] theorem State.synchronise_perf1Idle (s : State) : (s.synchronise).perf1Idle = s.perf1Idle :=
    by rw [State.synchronise_fields]
@[simp] theorem State.synchronise_freeCounter (s : State) : (s.synchronise).freeCounter = s.freeCounter :=
    by rw [State.synchronise_fields]
@[simp] theorem State.synchronise_readGpr (s : State) (r : BitVec 5) :
    (s.synchronise).readGpr r = s.readGpr r := by rw [State.synchronise_fields]; rfl
@[simp] theorem State.synchronise_readFpr (s : State) (r : BitVec 5) :
    (s.synchronise).readFpr r = s.readFpr r := by rw [State.synchronise_fields]; rfl
@[simp] theorem State.synchronise_free (s : State) (k : Nat) :
    (s.synchronise).free k = s.free k := by rw [State.synchronise_fields]; rfl
@[simp] theorem State.synchronise_isKernel (s : State) : (s.synchronise).isKernel = s.isKernel :=
    by rw [State.synchronise_fields]; rfl
@[simp] theorem State.synchronise_isUser (s : State) : (s.synchronise).isUser = s.isUser :=
    by rw [State.synchronise_fields]; rfl
@[simp] theorem State.synchronise_isSupervisor (s : State) : (s.synchronise).isSupervisor = s.isSupervisor :=
    by rw [State.synchronise_fields]; rfl
@[simp] theorem State.synchronise_are64 (s : State) : (s.synchronise).are64 = s.are64 :=
    by rw [State.synchronise_fields]; rfl
@[simp] theorem State.synchronise_fr (s : State) : (s.synchronise).fr = s.fr :=
    by rw [State.synchronise_fields]; rfl
@[simp] theorem State.synchronise_exl (s : State) : (s.synchronise).exl = s.exl :=
    by rw [State.synchronise_fields]; rfl
@[simp] theorem State.synchronise_erl (s : State) : (s.synchronise).erl = s.erl :=
    by rw [State.synchronise_fields]; rfl
@[simp] theorem State.synchronise_ksu (s : State) : (s.synchronise).ksu = s.ksu :=
    by rw [State.synchronise_fields]; rfl

/-! ### `placeWord` -/

@[simp] theorem State.placeWord_gpr (s : State) (a w : Nat) : (s.placeWord a w).gpr = s.gpr := rfl
@[simp] theorem State.placeWord_hi (s : State) (a w : Nat) : (s.placeWord a w).hi = s.hi := rfl
@[simp] theorem State.placeWord_lo (s : State) (a w : Nat) : (s.placeWord a w).lo = s.lo := rfl
@[simp] theorem State.placeWord_pc (s : State) (a w : Nat) : (s.placeWord a w).pc = s.pc := rfl
@[simp] theorem State.placeWord_npc (s : State) (a w : Nat) : (s.placeWord a w).npc = s.npc := rfl
@[simp] theorem State.placeWord_inDelaySlot (s : State) (a w : Nat)
    : (s.placeWord a w).inDelaySlot = s.inDelaySlot := rfl
@[simp] theorem State.placeWord_llbit (s : State) (a w : Nat) : (s.placeWord a w).llbit = s.llbit := rfl
@[simp] theorem State.placeWord_linked (s : State) (a w : Nat) : (s.placeWord a w).linked = s.linked := rfl
@[simp] theorem State.placeWord_cp0 (s : State) (a w : Nat) : (s.placeWord a w).cp0 = s.cp0 := rfl
@[simp] theorem State.placeWord_tlb (s : State) (a w : Nat) : (s.placeWord a w).tlb = s.tlb := rfl
@[simp] theorem State.placeWord_fpr (s : State) (a w : Nat) : (s.placeWord a w).fpr = s.fpr := rfl
@[simp] theorem State.placeWord_fcsr (s : State) (a w : Nat) : (s.placeWord a w).fcsr = s.fcsr := rfl
@[simp] theorem State.placeWord_x86 (s : State) (a w : Nat) : (s.placeWord a w).x86 = s.x86 := rfl
@[simp] theorem State.placeWord_cam (s : State) (a w : Nat) : (s.placeWord a w).cam = s.cam := rfl
@[simp] theorem State.placeWord_lines (s : State) (a w : Nat) : (s.placeWord a w).lines = s.lines := rfl
@[simp] theorem State.placeWord_coldReset (s : State) (a w : Nat)
    : (s.placeWord a w).coldReset = s.coldReset := rfl
@[simp] theorem State.placeWord_softReset (s : State) (a w : Nat)
    : (s.placeWord a w).softReset = s.softReset := rfl
@[simp] theorem State.placeWord_nmi (s : State) (a w : Nat) : (s.placeWord a w).nmi = s.nmi := rfl
@[simp] theorem State.placeWord_coloured (s : State) (a w : Nat) : (s.placeWord a w).coloured = s.coloured :=
    rfl
@[simp] theorem State.placeWord_afterJump (s : State) (a w : Nat)
    : (s.placeWord a w).afterJump = s.afterJump := rfl
@[simp] theorem State.placeWord_intWait (s : State) (a w : Nat) : (s.placeWord a w).intWait = s.intWait :=
    rfl
@[simp] theorem State.placeWord_accelWait (s : State) (a w : Nat)
    : (s.placeWord a w).accelWait = s.accelWait := rfl
@[simp] theorem State.placeWord_countIdle (s : State) (a w : Nat)
    : (s.placeWord a w).countIdle = s.countIdle := rfl
@[simp] theorem State.placeWord_perf0Idle (s : State) (a w : Nat)
    : (s.placeWord a w).perf0Idle = s.perf0Idle := rfl
@[simp] theorem State.placeWord_perf1Idle (s : State) (a w : Nat)
    : (s.placeWord a w).perf1Idle = s.perf1Idle := rfl
@[simp] theorem State.placeWord_freeCounter (s : State) (a w : Nat)
    : (s.placeWord a w).freeCounter = s.freeCounter := rfl
@[simp] theorem State.placeWord_readGpr (s : State) (a w : Nat) (r : BitVec 5) :
    (s.placeWord a w).readGpr r = s.readGpr r := rfl
@[simp] theorem State.placeWord_readFpr (s : State) (a w : Nat) (r : BitVec 5) :
    (s.placeWord a w).readFpr r = s.readFpr r := rfl
@[simp] theorem State.placeWord_free (s : State) (a w : Nat) (k : Nat) :
    (s.placeWord a w).free k = s.free k := rfl
@[simp] theorem State.placeWord_isKernel (s : State) (a w : Nat) : (s.placeWord a w).isKernel = s.isKernel :=
    rfl
@[simp] theorem State.placeWord_isUser (s : State) (a w : Nat) : (s.placeWord a w).isUser = s.isUser := rfl
@[simp] theorem State.placeWord_isSupervisor (s : State) (a w : Nat) : (s.placeWord a w).isSupervisor = s.isSupervisor :=
    rfl
@[simp] theorem State.placeWord_are64 (s : State) (a w : Nat) : (s.placeWord a w).are64 = s.are64 := rfl
@[simp] theorem State.placeWord_fr (s : State) (a w : Nat) : (s.placeWord a w).fr = s.fr := rfl
@[simp] theorem State.placeWord_exl (s : State) (a w : Nat) : (s.placeWord a w).exl = s.exl := rfl
@[simp] theorem State.placeWord_erl (s : State) (a w : Nat) : (s.placeWord a w).erl = s.erl := rfl
@[simp] theorem State.placeWord_ksu (s : State) (a w : Nat) : (s.placeWord a w).ksu = s.ksu := rfl

/-! ### `forgetClash` -/

@[simp] theorem State.forgetClash_gpr (s : State) (t : Target) (va : Dword)
    : (s.forgetClash t va).gpr = s.gpr := rfl
@[simp] theorem State.forgetClash_hi (s : State) (t : Target) (va : Dword) : (s.forgetClash t va).hi = s.hi :=
    rfl
@[simp] theorem State.forgetClash_lo (s : State) (t : Target) (va : Dword) : (s.forgetClash t va).lo = s.lo :=
    rfl
@[simp] theorem State.forgetClash_pc (s : State) (t : Target) (va : Dword) : (s.forgetClash t va).pc = s.pc :=
    rfl
@[simp] theorem State.forgetClash_npc (s : State) (t : Target) (va : Dword)
    : (s.forgetClash t va).npc = s.npc := rfl
@[simp] theorem State.forgetClash_inDelaySlot (s : State) (t : Target) (va : Dword)
    : (s.forgetClash t va).inDelaySlot = s.inDelaySlot := rfl
@[simp] theorem State.forgetClash_llbit (s : State) (t : Target) (va : Dword)
    : (s.forgetClash t va).llbit = s.llbit := rfl
@[simp] theorem State.forgetClash_linked (s : State) (t : Target) (va : Dword)
    : (s.forgetClash t va).linked = s.linked := rfl
@[simp] theorem State.forgetClash_cp0 (s : State) (t : Target) (va : Dword)
    : (s.forgetClash t va).cp0 = s.cp0 := rfl
@[simp] theorem State.forgetClash_tlb (s : State) (t : Target) (va : Dword)
    : (s.forgetClash t va).tlb = s.tlb := rfl
@[simp] theorem State.forgetClash_fpr (s : State) (t : Target) (va : Dword)
    : (s.forgetClash t va).fpr = s.fpr := rfl
@[simp] theorem State.forgetClash_fcsr (s : State) (t : Target) (va : Dword)
    : (s.forgetClash t va).fcsr = s.fcsr := rfl
@[simp] theorem State.forgetClash_x86 (s : State) (t : Target) (va : Dword)
    : (s.forgetClash t va).x86 = s.x86 := rfl
@[simp] theorem State.forgetClash_cam (s : State) (t : Target) (va : Dword)
    : (s.forgetClash t va).cam = s.cam := rfl
@[simp] theorem State.forgetClash_mem (s : State) (t : Target) (va : Dword)
    : (s.forgetClash t va).mem = s.mem := rfl
@[simp] theorem State.forgetClash_lines (s : State) (t : Target) (va : Dword)
    : (s.forgetClash t va).lines = s.lines := rfl
@[simp] theorem State.forgetClash_coldReset (s : State) (t : Target) (va : Dword)
    : (s.forgetClash t va).coldReset = s.coldReset := rfl
@[simp] theorem State.forgetClash_softReset (s : State) (t : Target) (va : Dword)
    : (s.forgetClash t va).softReset = s.softReset := rfl
@[simp] theorem State.forgetClash_nmi (s : State) (t : Target) (va : Dword)
    : (s.forgetClash t va).nmi = s.nmi := rfl
@[simp] theorem State.forgetClash_phys (s : State) (t : Target) (va : Dword)
    : (s.forgetClash t va).phys = s.phys := rfl
@[simp] theorem State.forgetClash_accel (s : State) (t : Target) (va : Dword)
    : (s.forgetClash t va).accel = s.accel := rfl
@[simp] theorem State.forgetClash_stale (s : State) (t : Target) (va : Dword)
    : (s.forgetClash t va).stale = s.stale := rfl
@[simp] theorem State.forgetClash_afterJump (s : State) (t : Target) (va : Dword)
    : (s.forgetClash t va).afterJump = s.afterJump := rfl
@[simp] theorem State.forgetClash_intWait (s : State) (t : Target) (va : Dword)
    : (s.forgetClash t va).intWait = s.intWait := rfl
@[simp] theorem State.forgetClash_accelWait (s : State) (t : Target) (va : Dword)
    : (s.forgetClash t va).accelWait = s.accelWait := rfl
@[simp] theorem State.forgetClash_countIdle (s : State) (t : Target) (va : Dword)
    : (s.forgetClash t va).countIdle = s.countIdle := rfl
@[simp] theorem State.forgetClash_perf0Idle (s : State) (t : Target) (va : Dword)
    : (s.forgetClash t va).perf0Idle = s.perf0Idle := rfl
@[simp] theorem State.forgetClash_perf1Idle (s : State) (t : Target) (va : Dword)
    : (s.forgetClash t va).perf1Idle = s.perf1Idle := rfl
@[simp] theorem State.forgetClash_freeCounter (s : State) (t : Target) (va : Dword)
    : (s.forgetClash t va).freeCounter = s.freeCounter := rfl
@[simp] theorem State.forgetClash_readGpr (s : State) (t : Target) (va : Dword) (r : BitVec 5) :
    (s.forgetClash t va).readGpr r = s.readGpr r := rfl
@[simp] theorem State.forgetClash_readFpr (s : State) (t : Target) (va : Dword) (r : BitVec 5) :
    (s.forgetClash t va).readFpr r = s.readFpr r := rfl
@[simp] theorem State.forgetClash_free (s : State) (t : Target) (va : Dword) (k : Nat) :
    (s.forgetClash t va).free k = s.free k := rfl
@[simp] theorem State.forgetClash_isKernel (s : State) (t : Target) (va : Dword) : (s.forgetClash t va).isKernel = s.isKernel :=
    rfl
@[simp] theorem State.forgetClash_isUser (s : State) (t : Target) (va : Dword) : (s.forgetClash t va).isUser = s.isUser :=
    rfl
@[simp] theorem State.forgetClash_isSupervisor (s : State) (t : Target) (va : Dword) : (s.forgetClash t va).isSupervisor = s.isSupervisor :=
    rfl
@[simp] theorem State.forgetClash_are64 (s : State) (t : Target) (va : Dword) : (s.forgetClash t va).are64 = s.are64 :=
    rfl
@[simp] theorem State.forgetClash_fr (s : State) (t : Target) (va : Dword) : (s.forgetClash t va).fr = s.fr :=
    rfl
@[simp] theorem State.forgetClash_exl (s : State) (t : Target) (va : Dword) : (s.forgetClash t va).exl = s.exl :=
    rfl
@[simp] theorem State.forgetClash_erl (s : State) (t : Target) (va : Dword) : (s.forgetClash t va).erl = s.erl :=
    rfl
@[simp] theorem State.forgetClash_ksu (s : State) (t : Target) (va : Dword) : (s.forgetClash t va).ksu = s.ksu :=
    rfl

/-! ### `drainOpen` -/

/-- What an open drain changes. -/
theorem State.drainOpen_fields (s : State) :
    s.drainOpen = { s with
      mem := s.drainOpen.mem, stale := s.drainOpen.stale, accel := s.drainOpen.accel } := by
  unfold State.drainOpen
  split
  · exact State.drain_fields s
  · rfl

/-! ### `opened` -/

/-- What opening a step changes. -/
theorem State.opened_fields (s : State) :
    s.opened = { s with
      mem := s.opened.mem, stale := s.opened.stale, accel := s.opened.accel
      afterJump := s.opened.afterJump, intWait := s.opened.intWait, accelWait := s.opened.accelWait } := by
  unfold State.opened
  dsimp only
  split
  · unfold State.dropSynced
    rw [State.drainOpen_fields]
  · rw [State.drainOpen_fields]

@[simp] theorem State.opened_gpr (s : State) : (s.opened).gpr = s.gpr := by rw [State.opened_fields]
@[simp] theorem State.opened_hi (s : State) : (s.opened).hi = s.hi := by rw [State.opened_fields]
@[simp] theorem State.opened_lo (s : State) : (s.opened).lo = s.lo := by rw [State.opened_fields]
@[simp] theorem State.opened_pc (s : State) : (s.opened).pc = s.pc := by rw [State.opened_fields]
@[simp] theorem State.opened_npc (s : State) : (s.opened).npc = s.npc := by rw [State.opened_fields]
@[simp] theorem State.opened_inDelaySlot (s : State) : (s.opened).inDelaySlot = s.inDelaySlot :=
    by rw [State.opened_fields]
@[simp] theorem State.opened_llbit (s : State) : (s.opened).llbit = s.llbit := by rw [State.opened_fields]
@[simp] theorem State.opened_linked (s : State) : (s.opened).linked = s.linked :=
    by rw [State.opened_fields]
@[simp] theorem State.opened_cp0 (s : State) : (s.opened).cp0 = s.cp0 := by rw [State.opened_fields]
@[simp] theorem State.opened_tlb (s : State) : (s.opened).tlb = s.tlb := by rw [State.opened_fields]
@[simp] theorem State.opened_fpr (s : State) : (s.opened).fpr = s.fpr := by rw [State.opened_fields]
@[simp] theorem State.opened_fcsr (s : State) : (s.opened).fcsr = s.fcsr := by rw [State.opened_fields]
@[simp] theorem State.opened_x86 (s : State) : (s.opened).x86 = s.x86 := by rw [State.opened_fields]
@[simp] theorem State.opened_cam (s : State) : (s.opened).cam = s.cam := by rw [State.opened_fields]
@[simp] theorem State.opened_lines (s : State) : (s.opened).lines = s.lines := by rw [State.opened_fields]
@[simp] theorem State.opened_coldReset (s : State) : (s.opened).coldReset = s.coldReset :=
    by rw [State.opened_fields]
@[simp] theorem State.opened_softReset (s : State) : (s.opened).softReset = s.softReset :=
    by rw [State.opened_fields]
@[simp] theorem State.opened_nmi (s : State) : (s.opened).nmi = s.nmi := by rw [State.opened_fields]
@[simp] theorem State.opened_phys (s : State) : (s.opened).phys = s.phys := by rw [State.opened_fields]
@[simp] theorem State.opened_coloured (s : State) : (s.opened).coloured = s.coloured :=
    by rw [State.opened_fields]
@[simp] theorem State.opened_countIdle (s : State) : (s.opened).countIdle = s.countIdle :=
    by rw [State.opened_fields]
@[simp] theorem State.opened_perf0Idle (s : State) : (s.opened).perf0Idle = s.perf0Idle :=
    by rw [State.opened_fields]
@[simp] theorem State.opened_perf1Idle (s : State) : (s.opened).perf1Idle = s.perf1Idle :=
    by rw [State.opened_fields]
@[simp] theorem State.opened_freeCounter (s : State) : (s.opened).freeCounter = s.freeCounter :=
    by rw [State.opened_fields]
@[simp] theorem State.opened_readGpr (s : State) (r : BitVec 5) :
    (s.opened).readGpr r = s.readGpr r := by rw [State.opened_fields]; rfl
@[simp] theorem State.opened_readFpr (s : State) (r : BitVec 5) :
    (s.opened).readFpr r = s.readFpr r := by rw [State.opened_fields]; rfl
@[simp] theorem State.opened_free (s : State) (k : Nat) :
    (s.opened).free k = s.free k := by rw [State.opened_fields]; rfl
@[simp] theorem State.opened_isKernel (s : State) : (s.opened).isKernel = s.isKernel :=
    by rw [State.opened_fields]; rfl
@[simp] theorem State.opened_isUser (s : State) : (s.opened).isUser = s.isUser :=
    by rw [State.opened_fields]; rfl
@[simp] theorem State.opened_isSupervisor (s : State) : (s.opened).isSupervisor = s.isSupervisor :=
    by rw [State.opened_fields]; rfl
@[simp] theorem State.opened_are64 (s : State) : (s.opened).are64 = s.are64 :=
    by rw [State.opened_fields]; rfl
@[simp] theorem State.opened_fr (s : State) : (s.opened).fr = s.fr := by rw [State.opened_fields]; rfl
@[simp] theorem State.opened_exl (s : State) : (s.opened).exl = s.exl := by rw [State.opened_fields]; rfl
@[simp] theorem State.opened_erl (s : State) : (s.opened).erl = s.erl := by rw [State.opened_fields]; rfl
@[simp] theorem State.opened_ksu (s : State) : (s.opened).ksu = s.ksu := by rw [State.opened_fields]; rfl

/-! ### Registers -/

/-- Register 0 reads 0. -/
@[simp] theorem State.readGpr_zero (s : State) : s.readGpr 0 = 0 := rfl

/-- A register reads what was written to it. -/
theorem State.readGpr_writeGpr_self (s : State) (i : BitVec 5) (v : Dword) (h : i ≠ 0) :
    (s.writeGpr i v).readGpr i = v := by
  unfold State.writeGpr State.readGpr
  rw [if_neg h, if_neg h]
  simp

/-- A write leaves every other register alone. -/
theorem State.readGpr_writeGpr_other (s : State) (i r : BitVec 5) (v : Dword) (h : r ≠ i) :
    (s.writeGpr i v).readGpr r = s.readGpr r := by
  have hn : i.toNat ≠ r.toNat := fun e => h (BitVec.eq_of_toNat_eq e.symm)
  unfold State.writeGpr
  split
  · rfl
  · unfold State.readGpr
    split
    · rfl
    · simp [hn]

/-- What any register reads after a write. -/
theorem State.readGpr_writeGpr (s : State) (i r : BitVec 5) (v : Dword) :
    (s.writeGpr i v).readGpr r = if r = i ∧ i ≠ 0 then v else s.readGpr r := by
  by_cases h : r = i
  · subst h
    by_cases h0 : r = 0
    · subst h0; rfl
    · rw [if_pos ⟨rfl, h0⟩, State.readGpr_writeGpr_self s r v h0]
  · rw [if_neg (fun e => h e.1), State.readGpr_writeGpr_other s i r v h]

/-- What any floating-point register reads after a write. -/
@[simp] theorem State.readFpr_writeFpr (s : State) (i r : BitVec 5) (v : Dword) :
    (s.writeFpr i v).readFpr r = if r = i then v else s.readFpr r := by
  unfold State.writeFpr State.readFpr
  by_cases h : r = i
  · subst h; simp
  · have hn : i.toNat ≠ r.toNat := fun e => h (BitVec.eq_of_toNat_eq e.symm)
    simp [hn, h]

end Sys2Proof.Machine
end

