-- ==== Sys2Proof/Laws/Ops.lean ====
section
/-!
SUPPORT. What each shared operation can do, said once: the checks that open an instruction, the ends of an
instruction, loads and stores, exception entry.
-/
namespace Sys2Proof.Machine

/-! ### What MTC0 moves -/

/-- A 32-bit register takes the low word of the general register (11_cp0_registers.md rule R178). -/
@[simp] theorem lowWord_mtc0Value (v : Dword) : lowWord (mtc0Value v) = lowWord v := by
  simp only [mtc0Value, sextWord, lowWord]
  ext i hi
  rw [BitVec.getElem_setWidth, BitVec.getLsbD_signExtend]
  simp [hi, Nat.lt_of_lt_of_le hi (by decide : 32 ≤ 64)]

/-- A sign-extended word reaches a 64-bit register whole, as rules R178 and R503 have every value do (log 59). -/
theorem mtc0Value_word {v : Dword} (h : sextWord (lowWord v) = v) : mtc0Value v = v := h

/-! ### Reserved bits -/

/-- A merge of other bits leaves the reserved ones as they differ from their fixed value `k`. -/
theorem clearIn_mergeBits {w : Nat} {mask old v k r : BitVec w} (h : mask &&& r = 0) :
    clearIn (mergeBits mask old v ^^^ k) r = clearIn (old ^^^ k) r := by
  have e : (mergeBits mask old v ^^^ k) &&& r = (old ^^^ k) &&& r := by
    ext i hi
    have hb := congrArg (fun x : BitVec w => x[i]) h
    simp only [BitVec.getElem_and, BitVec.ofNat_eq_ofNat, BitVec.getElem_zero] at hb
    simp only [mergeBits, BitVec.getElem_and, BitVec.getElem_or, BitVec.getElem_not, BitVec.getElem_xor]
    cases hm : mask[i] <;> cases hr : r[i] <;> simp_all
  simp only [clearIn, e]

/-! ### Checks -/

theorem need64_on {s : State} (h : s.are64 = true) (k : Out) : need64 s k = k := if_pos h

theorem need64_off {s : State} (h : s.are64 = false) (k : Out) : need64 s k = .next (s.takeException .ri) := by
  simp [need64, h, raise]

theorem needCop_on {n : BitVec 2} {s : State} (h : s.copUsable n = true) (k : Out) : needCop n s k = k :=
  if_pos h

theorem needCop_off {n : BitVec 2} {s : State} (h : s.copUsable n = false) (k : Out) :
    needCop n s k = .next (s.takeException (.cpU n)) := by
  simp [needCop, h, raise]

theorem notInSlot_out {s : State} (h : s.inDelaySlot = false) (k : Out) : notInSlot s k = k := by
  simp [notInSlot, h]

theorem notInSlot_in {s : State} (h : s.inDelaySlot = true) (k : Out) :
    notInSlot s k = .fault .controlInDelaySlot := if_pos h

theorem needEven_ok {s : State} {regs : List (BitVec 5)} (k : Out)
    (h : s.fr = true ∨ ∀ r ∈ regs, r.getLsbD 0 = false) : needEven s regs k = k := by
  unfold needEven
  rw [if_pos]
  rcases h with h | h
  · simp [h]
  · simp only [Bool.or_eq_true, List.all_eq_true, Bool.not_eq_true']
    exact Or.inr h

theorem needEven_odd {s : State} {regs : List (BitVec 5)} {r : BitVec 5} (k : Out) (hf : s.fr = false)
    (hr : r ∈ regs) (h : r.getLsbD 0 = true) : needEven s regs k = .fault .floatRegisterPair := by
  unfold needEven
  rw [if_neg]
  simp only [hf, Bool.false_or, List.all_eq_true, Bool.not_eq_true']
  intro e
  rw [e r hr] at h
  cases h

/-- What a checked instruction can do when it answers a next state. -/
theorem need64_cases {s t : State} {k : Out} (h : need64 s k = .next t) :
    (s.are64 = true ∧ k = .next t) ∨ (s.are64 = false ∧ t = s.takeException .ri) := by
  cases e : s.are64 with
  | true => exact .inl ⟨rfl, by rwa [need64_on e] at h⟩
  | false => rw [need64_off e] at h; cases h; exact .inr ⟨rfl, rfl⟩

theorem needCop_cases {n : BitVec 2} {s t : State} {k : Out} (h : needCop n s k = .next t) :
    (s.copUsable n = true ∧ k = .next t) ∨ (s.copUsable n = false ∧ t = s.takeException (.cpU n)) := by
  cases e : s.copUsable n with
  | true => exact .inl ⟨rfl, by rwa [needCop_on e] at h⟩
  | false => rw [needCop_off e] at h; cases h; exact .inr ⟨rfl, rfl⟩

theorem notInSlot_cases {s t : State} {k : Out} (h : notInSlot s k = .next t) :
    s.inDelaySlot = false ∧ k = .next t := by
  cases e : s.inDelaySlot with
  | true => rw [notInSlot_in e] at h; cases h
  | false => exact ⟨rfl, by rwa [notInSlot_out e] at h⟩

theorem needEven_cases {s t : State} {regs : List (BitVec 5)} {k : Out} (h : needEven s regs k = .next t) :
    (s.fr = true ∨ ∀ r ∈ regs, r.getLsbD 0 = false) ∧ k = .next t := by
  unfold needEven at h
  split at h
  · rename_i e
    refine ⟨?_, h⟩
    rcases Bool.or_eq_true_iff.1 e with e | e
    · exact .inl e
    · refine .inr fun r hr => ?_
      have := List.all_eq_true.1 e r hr
      simpa using this
  · cases h

/-! ### Ends of an instruction -/

/-- What `Res.finish` can do when it answers a next state. -/
theorem Res.finish_cases {α : Type} {r : Res α} {s t : State} {k : α → Out} (h : r.finish s k = .next t) :
    (∃ a, r = .ok a ∧ k a = .next t) ∨ (∃ e, r = .exc e ∧ t = s.takeException e) := by
  cases r with
  | ok a => exact .inl ⟨a, rfl, h⟩
  | exc e => cases h; exact .inr ⟨e, rfl, rfl⟩
  | fault f => cases h
  | refused x => cases h

/-- What `finishLoad` can do when it answers a next state. -/
theorem finishLoad_cases {α : Type} {rt : BitVec 5} {r : Res α} {s t : State} {k : α → Out}
    (h : finishLoad rt r s k = .next t) :
    (∃ a, r = .ok a ∧ k a = .next t) ∨ (∃ e, r = .exc e ∧ t = s.takeException e) ∨ (rt = 0 ∧ t = s.advance) := by
  cases r with
  | ok a => exact .inl ⟨a, rfl, h⟩
  | exc e =>
    unfold finishLoad at h
    simp only [raise] at h
    split at h
    · rename_i c
      cases h
      refine .inr (.inr ⟨?_, rfl⟩)
      simpa using (Bool.and_eq_true_iff.1 c).1
    · cases h; exact .inr (.inl ⟨e, rfl, rfl⟩)
  | fault f => cases h
  | refused x => cases h

theorem Res.bind_ok {α β : Type} {r : Res α} {k : α → Res β} {b : β} :
    r.bind k = .ok b ↔ ∃ a, r = .ok a ∧ k a = .ok b := by
  cases r <;> simp [Res.bind]

/-! ### What the ends write -/

theorem State.onlyGoesOn_advance (s : State) : s.onlyGoesOn s.advance :=
  ⟨⟨rfl, rfl, rfl⟩, fun _ => rfl, rfl⟩

/-- Writing a general register and going on. -/
theorem State.writesGpr_advance (s : State) (i : BitVec 5) (v : Dword) :
    s.writesGpr (s.writeGpr i v).advance i v := by
  refine ⟨⟨?_, ?_, rfl⟩, fun a => ?_, fun r => ?_, ?_⟩
  · simp
  · simp
  · simp
  · simp [State.readGpr_writeGpr]
  · unfold State.writeGpr; split <;> rfl

theorem State.putGpr_eq (s : State) (i : BitVec 5) (v : Dword) :
    s.putGpr i v = .next (s.writeGpr i v).advance := rfl

/-- Writing a floating-point register and going on. -/
theorem State.writesFpr_advance (s : State) (i : BitVec 5) (v : Dword) :
    s.writesFpr (s.writeFpr i v).advance i v :=
  ⟨⟨rfl, rfl, rfl⟩, fun _ => rfl, fun r => by simp, rfl⟩

/-- Writing a floating-point register and FCSR and going on. -/
theorem State.writesFprFcsr_advance (s : State) (i : BitVec 5) (v : Dword) (f : Word) :
    s.writesFprFcsr ((s.setFcsr f).writeFpr i v).advance i v f :=
  ⟨⟨rfl, rfl, rfl⟩, fun _ => rfl, fun r => by simp, rfl, rfl⟩

theorem State.writesFcsr_advance (s : State) (f : Word) : s.writesFcsr (s.setFcsr f).advance f :=
  ⟨⟨rfl, rfl, rfl⟩, fun _ => rfl, rfl, rfl⟩

theorem State.writesHiLo_advance (s : State) (h l : Dword) : s.writesHiLo (s.writeHiLo h l).advance h l :=
  ⟨⟨rfl, rfl, rfl⟩, fun _ => rfl, rfl, rfl, rfl⟩

theorem State.writesCp0_advance (s : State) (c : Cp0) : s.writesCp0 (s.setCp0 c).advance c :=
  ⟨⟨rfl, rfl, rfl⟩, fun _ => rfl, rfl, rfl⟩

theorem State.writesX86_advance (s : State) (x : X86) : s.writesX86 (s.setX86 x).advance x :=
  ⟨⟨rfl, rfl, rfl⟩, fun _ => rfl, rfl, rfl⟩

/-! ### Loads and stores -/

theorem aligned_ok {va : Dword} {n : Nat} {store : Bool} {u : Unit} :
    aligned va n store = .ok u ↔ va.toNat % n = 0 := by
  unfold aligned
  split <;> simp_all

theorem State.physKinds_contains {s : State} {a n : Nat} {k : Option PhysKind} :
    (s.physKinds a n).contains k = true ↔ ∃ i, i < n ∧ s.physAt (a + i) = k := by
  simp [State.physKinds]

/-- When the host's map allows an access: every byte is RAM, or ROM that is not stored to (20_memory.md rule
R200). -/
theorem State.checkPhys_ok {s : State} {a n : Nat} {store : Bool} {e : Exc} {u : Unit} :
    s.checkPhys a n store e = .ok u ↔ ∀ i, i < n → s.physAt (a + i) = some .ram ∨
      (store = false ∧ s.physAt (a + i) = some .rom) := by
  unfold State.checkPhys
  dsimp only
  constructor
  · intro h i hi
    split at h
    · cases h
    rename_i h1
    split at h
    · cases h
    rename_i h2
    split at h
    · cases h
    rename_i h3
    split at h
    · cases h
    rename_i h4
    simp only [State.physKinds_contains, not_exists, not_and, Bool.and_eq_true] at h1 h2 h3 h4
    cases hk : s.physAt (a + i) with
    | none => exact absurd hk (h2 i hi)
    | some k =>
      cases k with
      | ram => exact .inl rfl
      | rom =>
        refine .inr ⟨?_, rfl⟩
        cases store with
        | false => rfl
        | true => exact absurd hk (h4 rfl i hi)
      | device => exact absurd hk (h3 i hi)
      | err => exact absurd hk (h1 i hi)
  · intro h
    have hn (k : Option PhysKind) (hk : k ≠ some .ram) (hr : store = false → k ≠ some .rom) :
        ¬ (s.physKinds a n).contains k = true := by
      rw [State.physKinds_contains]
      rintro ⟨i, hi, e⟩
      rcases h i hi with h | ⟨hs, h⟩
      · exact hk (e.symm.trans h)
      · exact hr hs (e.symm.trans h)
    rw [if_neg (hn _ (by simp) (by simp)), if_neg (hn _ (by simp) (by simp)),
      if_neg (hn _ (by simp) (by simp))]
    cases store with
    | false => rfl
    | true => rw [if_neg]; simpa using hn (some .rom) (by decide) (by simp)

/-- When a store-conditional fits the last LL (20_memory.md rule R244). -/
theorem State.fitsLink_ok {s : State} {t : Target} {n : Nat} {u : Unit} :
    s.fitsLink t n = .ok u ↔ t.cca = 3 ∧ ∀ l ∈ s.linked, l = ⟨t.pa, n⟩ := by
  unfold State.fitsLink
  split <;> simp_all

/-- The bus answers an access, or raises the data bus error (60_exceptions.md rule R944). -/
theorem State.busAnswers_cases (s : State) (pa : PhysAddr) (n : Nat) :
    ((∃ i, i < n ∧ s.physAt (pa.toNat + i) = some .err) ∧ s.busAnswers pa n = .exc .dbe) ∨
      ((∀ i, i < n → s.physAt (pa.toNat + i) ≠ some .err) ∧ s.busAnswers pa n = .ok ()) := by
  unfold State.busAnswers
  split
  · rename_i h
    exact .inl ⟨State.physKinds_contains.1 h, rfl⟩
  · rename_i h
    exact .inr ⟨fun i hi e => h (State.physKinds_contains.2 ⟨i, hi, e⟩), rfl⟩

/-- What any byte reads after one store. -/
theorem State.readByte_storeBytes (s : State) (a n b : Nat) (v : Dword) :
    readByte (s.storeBytes a n v).mem b =
      if a ≤ b ∧ b < a + n then (v >>> (8 * (b - a))).setWidth 8 else readByte s.mem b := by
  show readByte (writeLE s.mem a n v) b = _
  rw [readByte_writeLE]
  split
  · apply BitVec.eq_of_getLsbD_eq
    intro i hi
    simp [hi]
  · rfl

/-- What any byte reads after a list of stores. -/
theorem State.readByte_landAll (s : State) (l : List BufferedStore) (b : Nat) :
    readByte (s.landAll l).mem b = byteAfter s.mem l b := by
  induction l generalizing s with
  | nil => rfl
  | cons c r ih =>
    refine (ih (s.storeBytes c.addr c.size c.value)).trans ?_
    unfold byteAfter
    rw [State.readByte_storeBytes, List.foldl_cons]

theorem State.readByte_drain (s : State) (b : Nat) : readByte s.drain.mem b = byteAfter s.mem s.accel b :=
  s.readByte_landAll s.accel b

/-- Bytes read are bytes joined. -/
theorem readLE_eq_bytesLE (m : List Host.Cell) (a n : Nat) : readLE m a n = bytesLE (readByte m) a n := by
  induction n generalizing a with
  | zero => rfl
  | succ k ih => unfold readLE bytesLE; rw [ih]

/-- What a load sees is what memory holds once the buffer is written out (20_memory.md rule R230). -/
theorem State.readLE_drain (s : State) (a n : Nat) : readLE s.drain.mem a n = s.seenLE a n := by
  rw [readLE_eq_bytesLE, show readByte s.drain.mem = s.byteSeen from funext s.readByte_drain]
  rfl

/-- With an empty buffer a load sees what memory holds. -/
theorem State.byteSeen_of_empty {s : State} (h : s.accel = []) (a : Nat) : s.byteSeen a = readByte s.mem a := by
  unfold State.byteSeen
  rw [h]
  rfl

theorem State.memRead_ok {s : State} {pa : PhysAddr} {n : Nat} {v : Dword} :
    s.memRead pa n = .ok v ↔ (∀ i, i < n → s.physAt (pa.toNat + i) = some .ram ∨
      s.physAt (pa.toNat + i) = some .rom) ∧ s.seenLE pa.toNat n = v := by
  unfold State.memRead
  simp only [Res.bind_ok, State.checkPhys_ok, State.readLE_drain, Res.ok.injEq, true_and, exists_const]

theorem State.memWrite_ok {s t : State} {g : Target} {n : Nat} {v : Dword} :
    s.memWrite g n v = .ok t ↔ (∀ i, i < n → s.physAt (g.pa.toNat + i) = some .ram) ∧
      s.landStore g.cca ⟨g.pa.toNat, n, v⟩ = t := by
  unfold State.memWrite
  simp only [Res.bind_ok, State.checkPhys_ok, Res.ok.injEq, Bool.true_eq_false, false_and, or_false, exists_const]

/-- What a cached access remembers (20_memory.md rule R221): the colour of its page, if none was. -/
theorem State.noteCached_ok {s u : State} {t : Target} {va : Dword} (h : s.noteCached t va = .ok u) :
    u = { s with coloured := u.coloured } := by
  unfold State.noteCached at h
  dsimp only at h
  split at h
  · cases h; rfl
  · split at h
    · cases h; rfl
    · split at h
      · cases h; rfl
      · cases h

/-- An access reaches the address it translates to, and changes nothing but the colours. -/
theorem State.reach_ok {s u : State} {va : Dword} {kind : AccessKind} {g : Target} :
    s.reach va kind = .ok (g, u) ↔ s.translate va kind = .ok g ∧ s.noteCached g va = .ok u := by
  unfold State.reach
  simp only [Res.bind_ok, Res.ok.injEq, Prod.mk.injEq]
  constructor
  · rintro ⟨t, h, v, k, rfl, rfl⟩; exact ⟨h, k⟩
  · rintro ⟨h, k⟩; exact ⟨g, h, u, k, rfl, rfl⟩

theorem State.reach_fields {s u : State} {va : Dword} {kind : AccessKind} {g : Target}
    (h : s.reach va kind = .ok (g, u)) : u = { s with coloured := u.coloured } :=
  State.noteCached_ok (State.reach_ok.1 h).2

/-- When a load succeeds, its value and the state it goes on from (20_memory.md rule R216). -/
theorem State.loadVirt_ok {s u : State} {va : Dword} {n : Nat} {v : Dword} :
    s.loadVirt va n = .ok (v, u) ↔ va.toNat % n = 0 ∧ ∃ g, s.reach va .load = .ok (g, u) ∧
      (∀ i, i < n → u.physAt (g.pa.toNat + i) = some .ram ∨ u.physAt (g.pa.toNat + i) = some .rom) ∧
      u.seenLE g.pa.toNat n = v := by
  unfold State.loadVirt State.loadAt
  simp only [Res.bind_ok, State.memRead_ok, Res.ok.injEq, Prod.mk.injEq]
  constructor
  · rintro ⟨_, h, ⟨g, w⟩, r, x, ⟨p, q⟩, rfl, rfl⟩; exact ⟨aligned_ok.1 h, g, r, p, q⟩
  · rintro ⟨h, g, r, p, q⟩; exact ⟨(), aligned_ok.2 h, (g, u), r, v, ⟨p, q⟩, rfl, rfl⟩

/-- When a store succeeds, and the state it leaves (20_memory.md rule R216). -/
theorem State.storeVirt_ok {s t : State} {va : Dword} {n : Nat} {v : Dword} :
    s.storeVirt va n v = .ok t ↔ va.toNat % n = 0 ∧ ∃ g u, s.reach va .store = .ok (g, u) ∧
      (∀ i, i < n → u.physAt (g.pa.toNat + i) = some .ram) ∧
      u.landStore g.cca ⟨g.pa.toNat, n, v⟩ = t := by
  unfold State.storeVirt
  simp only [Res.bind_ok, State.memWrite_ok]
  constructor
  · rintro ⟨_, h, ⟨g, u⟩, r, p⟩; exact ⟨aligned_ok.1 h, g, u, r, p⟩
  · rintro ⟨h, g, u, r, p⟩; exact ⟨(), aligned_ok.2 h, (g, u), r, p⟩

/-- An access off its boundary gives Address Error (20_memory.md rule R184). -/
theorem State.loadVirt_misaligned {s : State} {va : Dword} {n : Nat} (h : va.toNat % n ≠ 0) :
    s.loadVirt va n = .exc (.addressError false va) := by
  simp [State.loadVirt, aligned, h, Res.bind]

theorem State.storeVirt_misaligned {s : State} {va : Dword} {n : Nat} {v : Dword} (h : va.toNat % n ≠ 0) :
    s.storeVirt va n v = .exc (.addressError true va) := by
  simp [State.storeVirt, aligned, h, Res.bind]

/-- A list of stores keeps the canonical form. -/
theorem State.wf_landAll (s : State) (l : List BufferedStore) (h : Memory.wf s.mem = true) :
    Memory.wf (s.landAll l).mem = true := by
  induction l generalizing s with
  | nil => exact h
  | cons c r ih => exact ih (s.storeBytes c.addr c.size c.value) (wf_writeLE c.size s.mem c.addr c.value h)

theorem State.wf_drain (s : State) (h : Memory.wf s.mem = true) : Memory.wf s.drain.mem = true :=
  s.wf_landAll s.accel h

/-- Every store keeps the canonical form, whatever its cache attribute. -/
theorem State.wf_landStore (s : State) (c : BitVec 3) (b : BufferedStore) (h : Memory.wf s.mem = true) :
    Memory.wf (s.landStore c b).mem = true := by
  unfold State.landStore
  split
  · unfold State.collect
    dsimp only
    split
    · exact State.wf_drain { s with accel := s.accel ++ [b] } h
    · exact h
  · split
    · exact wf_writeLE _ _ _ _ (s.wf_drain h)
    · exact wf_writeLE _ _ _ _ h

/-- Every store leaves less than a cache line in the buffer. -/
theorem State.bounded_landStore (s : State) (c : BitVec 3) (b : BufferedStore)
    (h : bufferedBytes s.accel < 32) : bufferedBytes (s.landStore c b).accel < 32 := by
  unfold State.landStore
  split
  · unfold State.collect
    dsimp only
    split
    · exact Nat.zero_lt_succ 31
    · exact Nat.lt_of_not_le ‹_›
  · split
    · exact Nat.zero_lt_succ 31
    · exact h

/-- What a store does to memory and to the buffer, by its cache attribute (20_memory.md rules R223 to R225). -/
theorem State.received_landStore (s : State) (c : BitVec 3) (b : BufferedStore) :
    s.received (s.landStore c b) (arrivals s.accel c b) := by
  have hsum : bufferedBytes (s.accel ++ [b]) = bufferedBytes s.accel + b.size := by simp [bufferedBytes]
  unfold State.landStore arrivals
  split
  · unfold State.collect
    dsimp only
    rw [hsum]
    split
    · rw [if_neg (by omega)]
      exact ⟨State.readByte_drain { s with accel := s.accel ++ [b] }, rfl⟩
    · rw [if_pos (by omega)]
      exact ⟨fun _ => rfl, rfl⟩
  · split
    · refine ⟨fun a => ?_, rfl⟩
      rw [State.readByte_storeBytes, State.readByte_drain]
      simp only [byteAfter, List.foldl_append, List.foldl_cons, List.foldl_nil]
    · refine ⟨fun a => ?_, rfl⟩
      rw [State.readByte_storeBytes]
      rfl

/-- What a store changes. -/
theorem State.storesTo_advance (s : State) (g : Target) (n : Nat) (v : Dword) :
    s.storesTo (s.landStore g.cca ⟨g.pa.toNat, n, v⟩).advance g n v := by
  refine ⟨⟨?_, ?_, rfl⟩, s.received_landStore _ _, ?_⟩
  · simp
  · simp
  · unfold State.sameButFlow
    rw [State.landStore_fields]
    rfl

/-! ### Exception entry -/

@[simp] theorem State.takeException_npc (s : State) (e : Exc) :
    (s.takeException e).npc = (s.takeException e).pc + 4 := rfl

end Sys2Proof.Machine
end

