-- ==== Sys2Proof/Tests/Slice0.lean ====
section
/-!
SUPPORT. The model's own tests: ill-formed terms are refused, words decode to the instructions the spec writes
beside them, single steps give the results of the spec's worked examples, and every statement with hypotheses has
a state and operands that meet them.
-/
open Sys2Proof Sys2Proof.Machine Sys2Proof.Claims

noncomputable section

set_option Elab.async false

namespace Sys2Proof.Tests

/-! ### Well-formedness (Sys2Proof/WellFormed.lean) -/

/-- An instruction without a known encoding is ill-formed: the x86-translation group. -/
theorem test_wellFormed_refuses_x86 : Instr.wellFormed .x86add = false := by decide +kernel
/-- The lookup-table group. -/
theorem test_wellFormed_refuses_cam : Instr.wellFormed .campi = false := by decide +kernel
/-- The extended-double conversions. -/
theorem test_wellFormed_refuses_extendedDouble : Instr.wellFormed .cvtLdD = false := by decide +kernel
/-- SLL r0, r0, 3 is the word of EHB. -/
theorem test_wellFormed_refuses_nopShift : Instr.wellFormed (.sll 0 0 3) = false := by decide +kernel
/-- Its neighbour is an ordinary shift. -/
theorem test_wellFormed_accepts_shift : Instr.wellFormed (.sll 0 0 2) = true := by decide +kernel

/-! ### Decoding: the words of the worked examples, or written out from the row's encoding -/

/-- 30_encoding.md rules R264, R281: ADD with sa, SLL with rs, JR with rt not 0 match no row -/
theorem test_decode_reserved_fields :
    decode 0x00221820 = some (.add 1 2 3) ∧ decode 0x00221860 = none ∧
    decode 0x00021840 = some (.sll 2 3 1) ∧ decode 0x00221840 = none ∧
    decode 0x00200008 = some (.jr 1) ∧ decode 0x00210008 = none := by decide +kernel

/-- 40_loadstore.md: the words of the worked examples. -/
theorem test_decode_loadStore :
    List.map decode [0x80220004, 0x90220004, 0x84220004, 0x94220006, 0x8C220004, 0x9C220004, 0x88220005,
      0x98220001, 0xDC220000, 0x68220002, 0x6C220003, 0xC0220000, 0xD0220000, 0xA0220005, 0xA4220002,
      0xAC220004, 0xA8220001, 0xB8220002, 0xFC220000, 0xB0220002, 0xB4220005, 0xE0220000, 0xF0220000,
      0xCC200000, 0x4C22000F] =
    [some (.lb 1 2 4), some (.lbu 1 2 4), some (.lh 1 2 4), some (.lhu 1 2 6), some (.lw 1 2 4),
      some (.lwu 1 2 4), some (.lwl 1 2 5), some (.lwr 1 2 1), some (.ld 1 2 0), some (.ldl 1 2 2),
      some (.ldr 1 2 3), some (.ll 1 2 0), some (.lld 1 2 0), some (.sb 1 2 5), some (.sh 1 2 2),
      some (.sw 1 2 4), some (.swl 1 2 1), some (.swr 1 2 2), some (.sd 1 2 0), some (.sdl 1 2 2),
      some (.sdr 1 2 5), some (.sc 1 2 0), some (.scd 1 2 0), some (.pref 1 0 0),
      some (.prefx 1 2 0)] := by decide +kernel

/-- 41_alu.md: the words of the worked examples. -/
theorem test_decode_alu :
    List.map decode [0x20220001, 0x60220001, 0x24220001, 0x64220001, 0x2822FFFF, 0x2C22FFFF, 0x3022FF0F,
      0x34228001, 0x3822FFFF, 0x3C028000, 0x00221820, 0x0022182C, 0x00221821, 0x0022182D, 0x00221822,
      0x0022182E, 0x00221823, 0x0022182F, 0x0022182A, 0x0022182B, 0x00221824, 0x00221825, 0x00221826,
      0x00221827, 0x70231821, 0x70231825, 0x70231820, 0x70231824, 0x7C0218A0, 0x7C021964, 0x7C0218A4,
      0x7C021C20, 0x7C021E20] =
    [some (.addi 1 2 1), some (.daddi 1 2 1), some (.addiu 1 2 1), some (.daddiu 1 2 1),
      some (.slti 1 2 65535), some (.sltiu 1 2 65535), some (.andi 1 2 65295), some (.ori 1 2 32769),
      some (.xori 1 2 65535), some (.lui 2 32768), some (.add 1 2 3), some (.dadd 1 2 3),
      some (.addu 1 2 3), some (.daddu 1 2 3), some (.sub 1 2 3), some (.dsub 1 2 3), some (.subu 1 2 3),
      some (.dsubu 1 2 3), some (.slt 1 2 3), some (.sltu 1 2 3), some (.and 1 2 3), some (.or 1 2 3),
      some (.xor 1 2 3), some (.nor 1 2 3), some (.clo 1 3 3), some (.dclo 1 3 3), some (.clz 1 3 3),
      some (.dclz 1 3 3), some (.wsbh 2 3), some (.dshd 2 3), some (.dsbh 2 3), some (.seb 2 3),
      some (.seh 2 3)] := by decide +kernel

/-- 42_muldiv.md: the words of the worked examples. -/
theorem test_decode_mulDiv :
    List.map decode [0x70221802, 0x00220018, 0x0022001C, 0x00220019, 0x0022001D, 0x70220000, 0x70220001,
      0x70220004, 0x70220005, 0x0022001A, 0x0022001E, 0x0022001B, 0x0022001F, 0x00001810, 0x00200011,
      0x00001812, 0x00200013] =
    [some (.mul 1 2 3), some (.mult 1 2), some (.dmult 1 2), some (.multu 1 2), some (.dmultu 1 2),
      some (.madd 1 2), some (.maddu 1 2), some (.msub 1 2), some (.msubu 1 2), some (.div 1 2),
      some (.ddiv 1 2), some (.divu 1 2), some (.ddivu 1 2), some (.mfhi 3), some (.mthi 1),
      some (.mflo 3), some (.mtlo 1)] := by decide +kernel

/-- 43_shift.md: the words of the worked examples. -/
theorem test_decode_shift :
    List.map decode [0x00021840, 0x00021902, 0x00021903, 0x00221804, 0x00221806, 0x00221807, 0x00221A02,
      0x00221846, 0x00021938, 0x0002193A, 0x0002193B, 0x00221814, 0x00221816, 0x00221817, 0x0002183C,
      0x0002193E, 0x0002193F, 0x00221A3A, 0x0022183E, 0x00221856, 0x7C225A00, 0x7C223901, 0x7C223902,
      0x7C223F03, 0x7C225904, 0x7C221F05, 0x7C227A06, 0x7C22BA07] =
    [some (.sll 2 3 1), some (.srl 2 3 4), some (.sra 2 3 4), some (.sllv 1 2 3), some (.srlv 1 2 3),
      some (.srav 1 2 3), some (.rotr 2 3 8), some (.rotrv 1 2 3), some (.dsll 2 3 4),
      some (.dsrl 2 3 4), some (.dsra 2 3 4), some (.dsllv 1 2 3), some (.dsrlv 1 2 3),
      some (.dsrav 1 2 3), some (.dsll32 2 3 0), some (.dsrl32 2 3 4), some (.dsra32 2 3 4),
      some (.drotr 2 3 8), some (.drotr32 2 3 0), some (.drotrv 1 2 3), some (.ext 1 2 11 8),
      some (.dextm 1 2 7 4), some (.dextu 1 2 7 4), some (.dext 1 2 7 28), some (.ins 1 2 11 4),
      some (.dinsm 1 2 3 28), some (.dinsu 1 2 15 8), some (.dins 1 2 23 8)] := by decide +kernel

/-- 44_branch.md: the words of the worked examples. -/
theorem test_decode_branch :
    List.map decode [0x08000800, 0x0C000800, 0x00200008, 0x00200408, 0x00201009, 0x0020FC09, 0x10220003,
      0x14220003, 0x1820FFFE, 0x1C200003, 0x04200003, 0x04210003, 0x04300003, 0x04310003, 0x50220003,
      0x5422FFFF, 0x58200003, 0x5C200003, 0x04220003, 0x04230003, 0x04320003, 0x04330003] =
    [some (.j 2048), some (.jal 2048), some (.jr 1), some (.jrHb 1), some (.jalr 1 2),
      some (.jalrHb 1 31), some (.beq 1 2 3), some (.bne 1 2 3), some (.blez 1 65534), some (.bgtz 1 3),
      some (.bltz 1 3), some (.bgez 1 3), some (.bltzal 1 3), some (.bgezal 1 3), some (.beql 1 2 3),
      some (.bnel 1 2 65535), some (.blezl 1 3), some (.bgtzl 1 3), some (.bltzl 1 3), some (.bgezl 1 3),
      some (.bltzall 1 3), some (.bgezall 1 3)] := by decide +kernel

/-- 45_cp0_priv.md: the words of the worked examples. -/
theorem test_decode_cp0 :
    List.map decode [0x40028001, 0x40227000, 0x40825800, 0x40A25000, 0x41411800, 0x41C11800, 0x42000008,
      0x42000001, 0x42000002, 0x42000006, 0x42000018, 0x4200001F, 0x7000003F, 0xBC350000, 0x7C02003B,
      0x42000020, 0x41606000, 0x41606020] =
    [some (.mfc0 2 16 1), some (.dmfc0 2 14 0), some (.mtc0 2 11 0), some (.dmtc0 2 10 0),
      some (.rdpgpr 1 3), some (.wrpgpr 1 3), some .tlbp, some .tlbr, some .tlbwi, some .tlbwr,
      some .eret, some .deret, some (.sdbbp 0), some (.cache 1 21 0), some (.rdhwr 2 0), some (.wait 0),
      some (.di 0), some (.ei 0)] := by decide +kernel

/-- 46_misc_trap_cmov.md: the words of the worked examples. -/
theorem test_decode_misc :
    List.map decode [0x0000000C, 0x000001CD, 0x0000000F, 0x043F0000, 0x00000000, 0x00000040, 0x000000C0,
      0x00220030, 0x00220031, 0x00220032, 0x00220033, 0x00220034, 0x00220036, 0x0428FFFF, 0x0429FFFF,
      0x042AFFFF, 0x042BFFFF, 0x042CFFFF, 0x042EFFFF, 0x0022180B, 0x0022180A, 0x00241801, 0x00251801] =
    [some (.syscall 0), some (.brk 7), some (.sync 0), some (.synci 1 0), some .nop, some .ssnop,
      some .ehb, some (.tge 1 2 0), some (.tgeu 1 2 0), some (.tlt 1 2 0), some (.tltu 1 2 0),
      some (.teq 1 2 0), some (.tne 1 2 0), some (.tgei 1 65535), some (.tgeiu 1 65535),
      some (.tlti 1 65535), some (.tltiu 1 65535), some (.teqi 1 65535), some (.tnei 1 65535),
      some (.movn 1 2 3), some (.movz 1 2 3), some (.movf 1 1 3), some (.movt 1 1 3)] := by decide +kernel

/-- 47_custom_int.md: the words of the worked examples. -/
theorem test_decode_custom :
    List.map decode [0x70221810, 0x70221811, 0x70221812, 0x70221813, 0x70221814, 0x70221815, 0x70221816,
      0x70221817, 0x7022181C, 0x7022181D, 0x7022181E, 0x7022181F, 0x70230026, 0x70230027, 0xC8221810,
      0xC8221811, 0xC8221812, 0xC8221813, 0xC8221814, 0xC8221815, 0xC8221816, 0xC8221817, 0xC8240025,
      0xD8221FE0, 0xD8221811, 0xD8221FE2, 0xD8221803, 0xE8221810, 0xE8221811, 0xE8221812, 0xE8221813,
      0xE8221814, 0xE8221815, 0xE8221816, 0xE8221817, 0xE8240025, 0xF8221FF8, 0xF8221811, 0xF8221FE2,
      0xF8221803] =
    [some (.gsmult 1 2 3), some (.gsdmult 1 2 3), some (.gsmultu 1 2 3), some (.gsdmultu 1 2 3),
      some (.gsdiv 1 2 3), some (.gsddiv 1 2 3), some (.gsdivu 1 2 3), some (.gsddivu 1 2 3),
      some (.gsmod 1 2 3), some (.gsdmod 1 2 3), some (.gsmodu 1 2 3), some (.gsdmodu 1 2 3),
      some (.gsle 1 3), some (.gsgt 1 3), some (.gslble 1 2 3), some (.gslbgt 1 2 3),
      some (.gslhle 1 2 3), some (.gslhgt 1 2 3), some (.gslwle 1 2 3), some (.gslwgt 1 2 3),
      some (.gsldle 1 2 3), some (.gsldgt 1 2 3), some (.gslq 1 4 0 5), some (.gslbx 1 2 3 252),
      some (.gslhx 1 2 3 2), some (.gslwx 1 2 3 252), some (.gsldx 1 2 3 0), some (.gssble 1 2 3),
      some (.gssbgt 1 2 3), some (.gsshle 1 2 3), some (.gsshgt 1 2 3), some (.gsswle 1 2 3),
      some (.gsswgt 1 2 3), some (.gssdle 1 2 3), some (.gssdgt 1 2 3), some (.gssq 1 4 0 5),
      some (.gssbx 1 2 3 255), some (.gsshx 1 2 3 2), some (.gsswx 1 2 3 252),
      some (.gssdx 1 2 3 0)] := by decide +kernel

/-- 48_custom_mmi.md: the words of the worked examples. -/
theorem test_decode_mmi1 :
    List.map decode [0x4B0208C0, 0x4B2208C0, 0x4B4208C0, 0x4B6208C0, 0x4B8208C0, 0x4BA208C0, 0x4BC208C0,
      0x4BE208C0, 0x4B0208C1, 0x4B2208C1, 0x4B4208C1, 0x4B6208C1, 0x4B8208C1, 0x4BA208C1, 0x4BC208C1,
      0x4BE208C1, 0x4B0208C2, 0x4B2208C2, 0x4B4208C2, 0x4B6208C2, 0x4BE208C2, 0x4B0208C3, 0x4B2208C3,
      0x4B4208C3, 0x4B6208C3, 0x4B8208C3, 0x4BA208C3, 0x4BC208C3, 0x4BE208C3, 0x4B0208C8, 0x4B2208C8,
      0x4B4208C8, 0x4B6208C8, 0x4B8208C8, 0x4BA208C8, 0x4B0208C9, 0x4B2208C9, 0x4B4208C9, 0x4B6208C9,
      0x4B8208C9] =
    [some (.paddsh 2 1 3), some (.paddush 2 1 3), some (.paddh 2 1 3), some (.paddw 2 1 3),
      some (.paddsb 2 1 3), some (.paddusb 2 1 3), some (.paddb 2 1 3), some (.paddd 2 1 3),
      some (.psubsh 2 1 3), some (.psubush 2 1 3), some (.psubh 2 1 3), some (.psubw 2 1 3),
      some (.psubsb 2 1 3), some (.psubusb 2 1 3), some (.psubb 2 1 3), some (.psubd 2 1 3),
      some (.pshufh 2 1 3), some (.packsswh 2 1 3), some (.packsshb 2 1 3), some (.packushb 2 1 3),
      some (.pandn 2 1 3), some (.punpcklhw 2 1 3), some (.punpckhhw 2 1 3), some (.punpcklbh 2 1 3),
      some (.punpckhbh 2 1 3), some (.pinsrh0 2 1 3), some (.pinsrh1 2 1 3), some (.pinsrh2 2 1 3),
      some (.pinsrh3 2 1 3), some (.pavgh 2 1 3), some (.pavgb 2 1 3), some (.pmaxsh 2 1 3),
      some (.pminsh 2 1 3), some (.pmaxub 2 1 3), some (.pminub 2 1 3), some (.pcmpeqw 2 1 3),
      some (.pcmpgtw 2 1 3), some (.pcmpeqh 2 1 3), some (.pcmpgth 2 1 3),
      some (.pcmpeqb 2 1 3)] := by decide +kernel

/-- 48_custom_mmi.md: the words of the worked examples. -/
theorem test_decode_mmi2 :
    List.map decode [0x4BA208C9, 0x4B0208CA, 0x4B2208CA, 0x4B4208CA, 0x4B6208CA, 0x4B8208CA, 0x4BA208CA,
      0x4B0208CB, 0x4B2208CB, 0x4B4208CB, 0x4B6208CB, 0x4B8208CB, 0x4BA208CB, 0x4B2208CD, 0x4B4208CE,
      0x4B6208CE, 0x4B8008CF, 0x4BA008CF, 0x4B8208C2, 0x4BA208C2, 0x4BC208C2, 0x4B0208CC, 0x4B2208CC,
      0x4B4208CC, 0x4B6208CC, 0x4B82080C, 0x4BA2080C, 0x4B0208CD, 0x4B4208CD, 0x4B6208CD, 0x4B82080D,
      0x4BA2080D, 0x4B0208CE, 0x4B2208CE, 0x4B0208CF, 0x4B2208CF, 0x4B4208CF, 0x4B6208CF, 0x4B82080E,
      0x4BA2080E] =
    [some (.pcmpgtb 2 1 3), some (.psllw 2 1 3), some (.psllh 2 1 3), some (.pmullh 2 1 3),
      some (.pmulhh 2 1 3), some (.pmuluw 2 1 3), some (.pmulhuh 2 1 3), some (.psrlw 2 1 3),
      some (.psrlh 2 1 3), some (.psraw 2 1 3), some (.psrah 2 1 3), some (.punpcklwd 2 1 3),
      some (.punpckhwd 2 1 3), some (.pasubub 2 1 3), some (.pextrh 2 1 3), some (.pmaddhw 2 1 3),
      some (.biadd 1 3), some (.pmovmskb 1 3), some (.gsxor 2 1 3), some (.gsnor 2 1 3),
      some (.gsand 2 1 3), some (.gsaddu 2 1 3), some (.gsor 2 1 3), some (.gsadd 2 1 3),
      some (.gsdadd 2 1 3), some (.gssequ 2 1), some (.gsseq 2 1), some (.gssubu 2 1 3),
      some (.gssub 2 1 3), some (.gsdsub 2 1 3), some (.gssltu 2 1), some (.gsslt 2 1),
      some (.gssll 2 1 3), some (.gsdsll 2 1 3), some (.gssrl 2 1 3), some (.gsdsrl 2 1 3),
      some (.gssra 2 1 3), some (.gsdsra 2 1 3), some (.gssleu 2 1), some (.gssle 2 1)] := by decide +kernel

/-- 49_fpu.md: the words of the worked examples. -/
theorem test_decode_fpu1 :
    List.map decode [0x460008C5, 0x462008C5, 0x46C008C5, 0x460208C0, 0x462208C0, 0x46C208C0, 0x460208C3,
      0x462208C3, 0x4C8208E0, 0x4C8208E1, 0x4C8208E6, 0x4C8208E8, 0x4C8208E9, 0x4C8208EE, 0x460208C2,
      0x462208C2, 0x46C208C2, 0x460008C7, 0x462008C7, 0x46C008C7, 0x4C8208F0, 0x4C8208F1, 0x4C8208F6,
      0x4C8208F8, 0x4C8208F9, 0x4C8208FE, 0x460008D5, 0x462008D5, 0x460008D6, 0x462008D6, 0x460008C4,
      0x462008C4, 0x460208C1, 0x462208C1, 0x46C208C1, 0x46076130, 0x46076131, 0x46076132, 0x46076133,
      0x46076134] =
    [some (.absS 1 3), some (.absD 1 3), some (.absPs 1 3), some (.addS 2 1 3), some (.addD 2 1 3),
      some (.addPs 2 1 3), some (.divS 2 1 3), some (.divD 2 1 3), some (.maddS 4 2 1 3),
      some (.maddD 4 2 1 3), some (.maddPs 4 2 1 3), some (.msubS 4 2 1 3), some (.msubD 4 2 1 3),
      some (.msubPs 4 2 1 3), some (.mulS 2 1 3), some (.mulD 2 1 3), some (.mulPs 2 1 3),
      some (.negS 1 3), some (.negD 1 3), some (.negPs 1 3), some (.nmaddS 4 2 1 3),
      some (.nmaddD 4 2 1 3), some (.nmaddPs 4 2 1 3), some (.nmsubS 4 2 1 3), some (.nmsubD 4 2 1 3),
      some (.nmsubPs 4 2 1 3), some (.recipS 1 3), some (.recipD 1 3), some (.rsqrtS 1 3),
      some (.rsqrtD 1 3), some (.sqrtS 1 3), some (.sqrtD 1 3), some (.subS 2 1 3), some (.subD 2 1 3),
      some (.subPs 2 1 3), some (.cFS 7 12 1), some (.cUnS 7 12 1), some (.cEqS 7 12 1),
      some (.cUeqS 7 12 1), some (.cOltS 7 12 1)] := by decide +kernel

/-- 49_fpu.md: the words of the worked examples. -/
theorem test_decode_fpu2 :
    List.map decode [0x46076135, 0x46076136, 0x46076137, 0x46076138, 0x46076139, 0x4607613A, 0x4607613B,
      0x4602083C, 0x4607613D, 0x4607613E, 0x4607613F, 0x46276130, 0x46276131, 0x46276132, 0x46276133,
      0x46276134, 0x46220935, 0x46276136, 0x46276137, 0x46276138, 0x46276139, 0x4627613A, 0x4627613B,
      0x4627613C, 0x4622093D, 0x4627613E, 0x4627613F, 0x46C76130, 0x46C76131, 0x46C20A32, 0x46C76133,
      0x46C76134, 0x46C76135, 0x46C76136, 0x46C76137, 0x46C76138, 0x46C76139, 0x46C7613A, 0x46C7613B,
      0x46C7613C] =
    [some (.cUltS 7 12 1), some (.cOleS 7 12 1), some (.cUleS 7 12 1), some (.cSfS 7 12 1),
      some (.cNgleS 7 12 1), some (.cSeqS 7 12 1), some (.cNglS 7 12 1), some (.cLtS 2 1 0),
      some (.cNgeS 7 12 1), some (.cLeS 7 12 1), some (.cNgtS 7 12 1), some (.cFD 7 12 1),
      some (.cUnD 7 12 1), some (.cEqD 7 12 1), some (.cUeqD 7 12 1), some (.cOltD 7 12 1),
      some (.cUltD 2 1 1), some (.cOleD 7 12 1), some (.cUleD 7 12 1), some (.cSfD 7 12 1),
      some (.cNgleD 7 12 1), some (.cSeqD 7 12 1), some (.cNglD 7 12 1), some (.cLtD 7 12 1),
      some (.cNgeD 2 1 1), some (.cLeD 7 12 1), some (.cNgtD 7 12 1), some (.cFPs 7 12 1),
      some (.cUnPs 7 12 1), some (.cEqPs 2 1 2), some (.cUeqPs 7 12 1), some (.cOltPs 7 12 1),
      some (.cUltPs 7 12 1), some (.cOlePs 7 12 1), some (.cUlePs 7 12 1), some (.cSfPs 7 12 1),
      some (.cNglePs 7 12 1), some (.cSeqPs 7 12 1), some (.cNglPs 7 12 1),
      some (.cLtPs 7 12 1)] := by decide +kernel

/-- 49_fpu.md: the words of the worked examples. -/
theorem test_decode_fpu3 :
    List.map decode [0x46C7613D, 0x46C7613E, 0x46C7613F, 0x460008CA, 0x462008CA, 0x460008CE, 0x462008CE,
      0x460008E1, 0x468008E1, 0x46A008E1, 0x460008E5, 0x462008E5, 0x462008E0, 0x468008E0, 0x46A008E0,
      0x460008E4, 0x462008E4, 0x460008CB, 0x462008CB, 0x460008CF, 0x462008CF, 0x460008C8, 0x462008C8,
      0x460008CC, 0x462008CC, 0x460008C9, 0x462008C9, 0x460008CD, 0x462008CD, 0x460208E6, 0x46C008E8,
      0x46C008E0, 0x46C208EC, 0x46C208ED, 0x46C208EE, 0x46C208EF] =
    [some (.cNgePs 7 12 1), some (.cLePs 7 12 1), some (.cNgtPs 7 12 1), some (.ceilLS 1 3),
      some (.ceilLD 1 3), some (.ceilWS 1 3), some (.ceilWD 1 3), some (.cvtDS 1 3), some (.cvtDW 1 3),
      some (.cvtDL 1 3), some (.cvtLS 1 3), some (.cvtLD 1 3), some (.cvtSD 1 3), some (.cvtSW 1 3),
      some (.cvtSL 1 3), some (.cvtWS 1 3), some (.cvtWD 1 3), some (.floorLS 1 3), some (.floorLD 1 3),
      some (.floorWS 1 3), some (.floorWD 1 3), some (.roundLS 1 3), some (.roundLD 1 3),
      some (.roundWS 1 3), some (.roundWD 1 3), some (.truncLS 1 3), some (.truncLD 1 3),
      some (.truncWS 1 3), some (.truncWD 1 3), some (.cvtPsS 2 1 3), some (.cvtSPl 1 3),
      some (.cvtSPu 1 3), some (.pllPs 2 1 3), some (.pluPs 2 1 3), some (.pulPs 2 1 3),
      some (.puuPs 2 1 3)] := by decide +kernel

/-- 49_fpu_move_mem.md: the words of the worked examples. -/
theorem test_decode_fpuMove1 :
    List.map decode [0x4442F800, 0x44C2F800, 0x44221800, 0x44A21800, 0x44021800, 0x44621800, 0x44821800,
      0x44E21800, 0x4C8208DE, 0x460008C6, 0x462008C6, 0x46C008C6, 0x460C08D1, 0x462808D1, 0x46C808D1,
      0x460208D3, 0x462208D3, 0x46C208D3, 0x460908D1, 0x462D08D1, 0x46C908D1, 0x460208D2, 0x462208D2,
      0x46C208D2, 0x450CFFFE, 0x45020004, 0x45010004, 0x45070004, 0xD4230008, 0x4C2200C1, 0x4C2200C5,
      0xC4230004, 0x4C2200C0, 0xF4230008, 0x4C221809, 0x4C22180D, 0xE4230000, 0x4C221808, 0xE8248025,
      0xE823101C] =
    [some (.cfc1 2 31), some (.ctc1 2 31), some (.dmfc1 2 3), some (.dmtc1 2 3), some (.mfc1 2 3),
      some (.mfhc1 2 3), some (.mtc1 2 3), some (.mthc1 2 3), some (.alnvPs 4 2 1 3), some (.movS 1 3),
      some (.movD 1 3), some (.movPs 1 3), some (.movfS 3 1 3), some (.movfD 2 1 3),
      some (.movfPs 2 1 3), some (.movnS 2 1 3), some (.movnD 2 1 3), some (.movnPs 2 1 3),
      some (.movtS 2 1 3), some (.movtD 3 1 3), some (.movtPs 2 1 3), some (.movzS 2 1 3),
      some (.movzD 2 1 3), some (.movzPs 2 1 3), some (.bc1f 3 65534), some (.bc1fl 0 4),
      some (.bc1t 0 4), some (.bc1tl 1 4), some (.ldc1 1 3 8), some (.ldxc1 1 2 3), some (.luxc1 1 2 3),
      some (.lwc1 1 3 4), some (.lwxc1 1 2 3), some (.sdc1 1 3 8), some (.sdxc1 1 2 3),
      some (.suxc1 1 2 3), some (.swc1 1 3 0), some (.swxc1 1 2 3), some (.gssqc1 1 4 0 5),
      some (.gsswlec1 1 3 2)] := by decide +kernel

/-- 49_fpu_move_mem.md: the words of the worked examples. -/
theorem test_decode_fpuMove2 :
    List.map decode [0xD8231026, 0xC8248025, 0xC8231018, 0xC8230044, 0xC8230085, 0xC8230086, 0xC82300C7,
      0xC8231019, 0xC823101A, 0xC823101B, 0xD82317C7, 0xE8230044, 0xE8230085, 0xE8230086, 0xE8230147,
      0xE823101D, 0xE823101E, 0xE823101F, 0xF8231026, 0xF8231007] =
    [some (.gslwxc1 1 3 2 4), some (.gslqc1 1 4 0 5), some (.gslwlec1 1 3 2), some (.gslwlc1 1 3 1),
      some (.gslwrc1 1 3 2), some (.gsldlc1 1 3 2), some (.gsldrc1 1 3 3), some (.gslwgtc1 1 3 2),
      some (.gsldlec1 1 3 2), some (.gsldgtc1 1 3 2), some (.gsldxc1 1 3 2 248), some (.gsswlc1 1 3 1),
      some (.gsswrc1 1 3 2), some (.gssdlc1 1 3 2), some (.gssdrc1 1 3 5), some (.gsswgtc1 1 3 2),
      some (.gssdlec1 1 3 2), some (.gssdgtc1 1 3 2), some (.gsswxc1 1 3 2 4),
      some (.gssdxc1 1 3 2 0)] := by decide +kernel


/-- Reserved words of every major decoding table are refused (30_encoding.md rule R280). -/
theorem test_decode_refuses_reserved : List.map decode [0x00000005, 0x04040000, 0x42000003, 0x46000014,
    0x4C000003, 0x70000003, 0x7C000008, 0x74000000, 0xEC000000] = List.replicate 9 none := by decide +kernel

/-! ### Single steps: the results of the spec's worked examples -/

/-- A kernel-mode state in CKSEG0 with CU2 to CU0 and FR set, and the bytes of state E2 at 0x2000
(47_custom_int.md). -/
def mach (gprs : List (BitVec 5 × Dword)) : State :=
  gprs.foldl (fun s p => s.writeGpr p.1 p.2) { State.reset with
    pc := 0xFFFFFFFF80001000, npc := 0xFFFFFFFF80001004, fcsr := 0
    cp0 := { State.reset.cp0 with status := 0x740000E0 }
    mem := writeLE (writeLE [] 0x2000 8 0x5566778811223344) 0x2008 8 0x0807060504030201 }

/-- The same with two floating-point registers. -/
def machF (a b : Dword) : State := ((mach []).writeFpr 1 a).writeFpr 2 b

/-- User mode with every coprocessor unusable and 64-bit operations off. -/
def userMach : State :=
  { mach [] with cp0 := { State.reset.cp0 with status := 0x00000010 } }

/-- What a field reads after an instruction that answers a next state. -/
def after {α : Type} (i : Instr) (s : State) (f : State → α) : Option α :=
  match exec i s with
  | .next t => some (f t)
  | _ => none

/-- The base address of the examples. -/
abbrev baseE : BitVec 5 × Dword := (1, 0xFFFFFFFF80002000)

/-- 41_alu.md rule R352 -/
theorem test_add :
    after (.add 1 2 3) (mach [(1, 5), (2, 0xFFFFFFFFFFFFFFF9)]) (·.readGpr 3) = some 0xFFFFFFFFFFFFFFFE := by
  decide +kernel

/-- 41_alu.md rule R354: the 32-bit sum is sign-extended -/
theorem test_addu_wraps :
    after (.addu 1 2 3) (mach [(1, 0x7FFFFFFF), (2, 1)]) (·.readGpr 3) = some 0xFFFFFFFF80000000 := by
  decide +kernel

/-- 41_alu.md rules R341, R342: the destination kept, the general vector -/
theorem test_addi_overflow : after (.addi 1 2 1) (mach [(1, 0x7FFFFFFF), (2, 7)])
    (fun u => (u.readGpr 2, u.pc)) = some (7, 0xFFFFFFFF80000180) := by decide +kernel

/-- 41_alu.md rule R366 -/
theorem test_clo :
    after (.clo 1 3 3) (mach [(1, 0xFFFFFFFFFFF00000)]) (·.readGpr 3) = some 12 := by decide +kernel

/-- 41_alu.md rule R370 -/
theorem test_wsbh :
    after (.wsbh 2 3) (mach [(2, 0x11223344)]) (·.readGpr 3) = some 0x22114433 := by decide +kernel

/-- 41_alu.md rule R371 -/
theorem test_dshd :
    after (.dshd 2 3) (mach [(2, 0x1122334455667788)]) (·.readGpr 3) = some 0x7788556633441122 := by
  decide +kernel

/-- 42_muldiv.md rule R404 -/
theorem test_mult : after (.mult 1 2) (mach [(1, 0xFFFFFFFF80000000), (2, 2)]) (fun u => (u.hi, u.lo)) =
    some (0xFFFFFFFFFFFFFFFF, 0) := by decide +kernel

/-- 42_muldiv.md rule R412: the quotient rounds toward zero -/
theorem test_div : after (.div 1 2) (mach [(1, 0xFFFFFFFFFFFFFFF9), (2, 2)]) (fun u => (u.hi, u.lo)) =
    some (0xFFFFFFFFFFFFFFFF, 0xFFFFFFFFFFFFFFFD) := by decide +kernel

/-- 47_custom_int.md rule R584 -/
theorem test_gsdiv :
    after (.gsdiv 1 2 3) (mach [(1, 0xFFFFFFFFFFFFFFF9), (2, 2)]) (·.readGpr 3) = some 0xFFFFFFFFFFFFFFFD := by
  decide +kernel

/-- 43_shift.md rule R432 -/
theorem test_sra :
    after (.sra 2 3 4) (mach [(2, 0xFFFFFFFF80000010)]) (·.readGpr 3) = some 0xFFFFFFFFF8000001 := by
  decide +kernel

/-- 43_shift.md rule R437: the amount is taken modulo 32 -/
theorem test_rotrv :
    after (.rotrv 1 2 3) (mach [(2, 0x12345678), (1, 0x24)]) (·.readGpr 3) = some 0xFFFFFFFF81234567 := by
  decide +kernel

/-- 43_shift.md rule R453 -/
theorem test_dext :
    after (.dext 1 2 7 28) (mach [(1, 0x0123456789ABCDEF)]) (·.readGpr 2) = some 0x78 := by decide +kernel

/-- 43_shift.md rule R457 -/
theorem test_dins :
    after (.dins 1 2 23 8) (mach [(2, 0xFFFFFFFFFFFFFFFF)]) (·.readGpr 2) = some 0xFFFFFFFFFF0000FF := by
  decide +kernel

/-- 44_branch.md rule R463 -/
theorem test_jal : after (.jal 0x800) (mach []) (fun u => (u.readGpr 31, u.pc, u.npc)) =
    some (0xFFFFFFFF80001008, 0xFFFFFFFF80001004, 0xFFFFFFFF80002000) := by decide +kernel

/-- 44_branch.md rule R468 -/
theorem test_beq_taken : after (.beq 1 2 3) (mach [(1, 5), (2, 5)]) (fun u => (u.pc, u.npc)) =
    some (0xFFFFFFFF80001004, 0xFFFFFFFF80001010) := by decide +kernel

/-- 44_branch.md rule R476: the delay slot is skipped -/
theorem test_beql_not_taken : after (.beql 1 2 3) (mach [(1, 5), (2, 6)]) (fun u => (u.pc, u.inDelaySlot)) =
    some (0xFFFFFFFF80001008, false) := by decide +kernel

/-- 46_misc_trap_cmov.md rule R541 -/
theorem test_syscall : after (.syscall 0) (mach []) (fun u => (u.cp0.epc, u.pc, u.exl)) =
    some (0xFFFFFFFF80001000, 0xFFFFFFFF80000180, true) := by decide +kernel

/-- 46_misc_trap_cmov.md rule R548: the comparison is signed -/
theorem test_tge_goes_on :
    after (.tge 1 2 0) (mach [(1, 0xFFFFFFFFFFFFFFFF), (2, 1)]) (·.pc) = some 0xFFFFFFFF80001004 := by
  decide +kernel

/-- 46_misc_trap_cmov.md rule R560: all 64 bits are tested -/
theorem test_movn :
    after (.movn 1 2 3) (mach [(1, 0x1122334455667788), (2, 0x0000000100000000)]) (·.readGpr 3) =
      some 0x1122334455667788 := by
  decide +kernel

/-- 40_loadstore.md rule R302 -/
theorem test_lb :
    after (.lb 1 2 4) (mach [baseE]) (·.readGpr 2) = some 0xFFFFFFFFFFFFFF88 := by decide +kernel

/-- 40_loadstore.md rule R308 -/
theorem test_lwl :
    after (.lwl 1 2 5) (mach [baseE]) (·.readGpr 2) = some 0x0000000077880000 := by decide +kernel

/-- 40_loadstore.md rule R318 -/
theorem test_swl :
    after (.swl 1 2 1) (mach [baseE, (2, 0x0102030405060708)]) (fun u => readLE u.mem 0x2000 8) =
    some 0x5566778811220506 := by decide +kernel

/-- 40_loadstore.md rule R312 -/
theorem test_ll : after (.ll 1 2 0) (mach [baseE]) (fun u => (u.readGpr 2, u.llbit, u.cp0.llAddr)) =
    some (0x11223344, true, 0x2000) := by decide +kernel

/-- State E of 40_loadstore.md: CKSEG0 is cached (Config.K0 = 3). -/
def machC (gprs : List (BitVec 5 × Dword)) : State :=
  { mach gprs with cp0 := { (mach gprs).cp0 with config := 0x80034483 } }

/-- 40_loadstore.md rule R323: memory is unchanged and rt reads 0 -/
theorem test_sc_without_link :
    after (.sc 1 2 0) (machC [baseE, (2, 7)]) (fun u => (u.readGpr 2, readLE u.mem 0x2000 8)) =
    some (0, 0x5566778811223344) := by decide +kernel

/-- 20_memory.md rule R244: an SC at another address than the last LL, and one that is not cached. -/
theorem test_sc_mismatched :
    exec (.sc 1 2 0) { machC [baseE] with linked := some ⟨0x2004, 4⟩ } = .refused .mismatchedStoreConditional ∧
    exec (.sc 1 2 0) (mach [baseE]) = .refused .mismatchedStoreConditional := ⟨rfl, rfl⟩

/-- 40_loadstore.md rule R323: DBE although LLbit is clear. -/
theorem test_sc_bus_error : ∃ s : State, s.llbit = false ∧ exec (.sc 1 2 0) s = .next (s.takeException .dbe) :=
  ⟨{ machC [baseE] with phys := [⟨0x2003, 0x2004, .err⟩] }, rfl, rfl⟩

/-- 47_custom_int.md rule R615 -/
theorem test_gslq : after (.gslq 1 4 0 5) (mach [baseE]) (fun u => (u.readGpr 4, u.readGpr 5)) =
    some (0x5566778811223344, 0x0807060504030201) := by decide +kernel

/-- 47_custom_int.md rule R628 -/
theorem test_gssq : after (.gssq 1 4 0 5) (mach [baseE, (4, 0x0102030405060708), (5, 0x1112131415161718)])
    (fun u => (readLE u.mem 0x2000 8, readLE u.mem 0x2008 8)) = some (0x0102030405060708, 0x1112131415161718) := by
  decide +kernel

/-- 95_test_vectors.md K3 -/
theorem test_mfc0_config1 :
    after (.mfc0 2 16 1) (mach []) (·.readGpr 2) = some 0xFFFFFFFFFEE37193 := by decide +kernel

/-- 95_test_vectors.md K2 -/
theorem test_mfc0_status_after_reset :
    after (.mfc0 2 12 0) State.reset (·.readGpr 2) = some 0x30C000E4 := by decide +kernel

/-- 95_test_vectors.md K5 -/
theorem test_mtc0_status : after (.mtc0 2 12 0) { mach [(2, 0xFFFFFFFFFFFFFFE7)] with
    cp0 := { State.reset.cp0 with status := 0 } } (·.cp0.status) = some 0xF4D0FFE7 := by decide +kernel

/-- 95_test_vectors.md K7 -/
theorem test_mtc0_cause :
    after (.mtc0 2 13 0) (mach [(2, 0xFFFFFFFFFFFFFFFF)]) (·.cp0.cause) = some 0x08800300 := by
  decide +kernel

/-- 95_test_vectors.md K8 -/
theorem test_mtc0_wired :
    after (.mtc0 2 6 0) (mach [(2, 8)]) (fun u => (u.cp0.wired, u.cp0.random)) = some (8, 63) := by
  decide +kernel

/-- 95_test_vectors.md K10 -/
theorem test_dmtc0_entryHi :
    after (.dmtc0 2 10 0) (mach [(2, 0xFFFFFFFFFFFFFFFF)]) (·.cp0.entryHi) = some 0xC000FFFFFFFFE0FF := by
  decide +kernel

/-- 95_test_vectors.md K12: ExcCode 11, CE 0 -/
theorem test_mfc0_user : after (.mfc0 2 12 0) userMach
    (fun u => (u.cp0.cause.extractLsb' 2 5, u.cp0.cause.extractLsb' 28 2)) = some (11, 0) := by
  decide +kernel

/-- 95_test_vectors.md K14 -/
theorem test_mfc0_reserved : exec (.mfc0 2 18 0) (mach []) = .refused .noSuchCp0Register := rfl

/-- TLB[9] of the worked examples K15 to K18, with its G bit. -/
def entry9 (glob : Bool) : TlbEntry :=
  { mask := 0, r := 0, vpn2 := 0x200, g := glob, asid := 5, pfn0 := 0x100, c0 := 3, d0 := true, v0 := true
    pfn1 := 0x101, c1 := 3, d1 := false, v1 := true }

/-- The other entries are out of the way of the probe. -/
def tlbMach (asid : Dword) (glob : Bool) : State :=
  ({ mach [] with
    tlb := Vector.replicate 64 { TlbEntry.zero with r := 3 }
    cp0 := { (mach []).cp0 with entryHi := 0x400000 ||| asid, index := 9 } } : State).setTlb 9 (entry9 glob)

/-- 95_test_vectors.md K15 -/
theorem test_tlbp_hit : after .tlbp (tlbMach 5 false) (·.cp0.index) = some 9 := by decide +kernel

/-- 95_test_vectors.md K17 -/
theorem test_tlbp_global : after .tlbp (tlbMach 6 true) (·.cp0.index) = some 9 := by decide +kernel

/-- 95_test_vectors.md K19 -/
theorem test_tlbwi : after .tlbwi { tlbMach 5 true with cp0 := { (tlbMach 5 true).cp0 with
    index := 5, pageMask := 0, entryLo0 := 0x401F, entryLo1 := 0x405A } } (fun u => u.tlb[5]) =
      some (entry9 false) := by
  decide +kernel

/-- 20_memory.md rule R209: V = 0 is TLB Invalid -/
theorem test_translate_invalid :
    ((tlbMach 5 false).setTlb 9 { entry9 false with v0 := false }).translate 0x400234 .store =
    .exc (.tlbInvalid true 0x400234) := by decide +kernel

/-- 20_memory.md rule R208: the odd page of entry 9, a store to it is Modified -/
theorem test_translate_mapped : (tlbMach 5 false).translate 0x401234 .load = .ok ⟨0x101234, 3⟩ ∧
    (tlbMach 5 false).translate 0x401234 .store = .exc (.mod 0x401234) := by decide +kernel

/-- 45_cp0_priv.md rule R509 -/
theorem test_eret :
    after .eret { mach [] with llbit := true, cp0 := { State.reset.cp0 with status := 0x13, epc := 0x400100 } }
    (fun u => (u.pc, u.cp0.status, u.llbit)) = some (0x400100, 0x11, false) := by decide +kernel

/-- 48_custom_mmi.md rule R710 -/
theorem test_paddsh :
    after (.paddsh 2 1 3) (machF 0x7FFF80000001FFFF 0x00018000FFFF0001) (·.readFpr 3) =
      some 0x7FFF800000000000 := by
  decide +kernel

/-- 48_custom_mmi.md -/
theorem test_pavgb :
    after (.pavgb 2 1 3) (machF 0x7F80FF0110F0557F 0x0180010120207F01) (·.readFpr 3) = some 0x4080800118886A40 := by
  decide +kernel

/-- 49_fpu.md rule R828 -/
theorem test_mul_d :
    after (.mulD 2 1 3) (machF 0x3FF8000000000000 0xC000000000000000) (·.readFpr 3) = some 0xC008000000000000 := by
  decide +kernel

/-- 49_fpu.md rule R816 -/
theorem test_add_s :
    after (.addS 2 1 3) (machF 0x3F800000 0x40000000) (fun u => u.fcsr) = some 0 := by decide +kernel

/-- 49_fpu.md rule R807: a quiet NaN operand signals Unimplemented Operation -/
theorem test_quiet_nan_is_unimplemented :
    (Fmt.double.operate (mach []).fpEnv 0 false .add 0x7FF7FFFFFFFFFFFF 0x3FF0000000000000 0).conds = condE := by
  decide +kernel

/-- 49_fpu.md rule R850 -/
theorem test_c_ult_d :
    after (.cUltD 2 1 1) (machF 0x7FF7FFFFFFFFFFFF 0x3FF0000000000000) (·.fcsr) = some 0x02000000 := by
  decide +kernel

/-- 49_fpu.md rule R850: cond 13 signals Invalid on a quiet NaN -/
theorem test_c_nge_d :
    after (.cNgeD 2 1 1) (machF 0x7FF7FFFFFFFFFFFF 0x3FF0000000000000) (·.fcsr) = some 0x02010040 := by
  decide +kernel

/-- 49_fpu.md rule R857 -/
theorem test_cvt_d_w :
    after (.cvtDW 1 3) (machF 0xFFFFFFFF 0) (·.readFpr 3) = some 0xBFF0000000000000 := by decide +kernel

/-- 49_fpu.md rule R877: Inexact -/
theorem test_trunc_w_d :
    after (.truncWD 1 3) (machF 0x4006000000000000 0) (·.fcsr) = some 0x00001004 := by decide +kernel

/-- 49_fpu_move_mem.md rule R906: bits 20:18 are ignored -/
theorem test_ctc1_reserved :
    after (.ctc1 2 31) (mach [(2, 0x00000000011C0003)]) (·.fcsr) = some 0x01000003 := by decide +kernel

/-- 93_implementation_defined.md U9: bit 22 is stored (96_test_vectors_custom_fpu.md V13 ignores it, log 53) -/
theorem test_ctc1_impl :
    after (.ctc1 2 31) (mach [(2, 0x00000000015C0003)]) (·.fcsr) = some 0x01400003 := by decide +kernel

/-- 49_fpu_move_mem.md rule R906: FENR, with FS in bit 24 -/
theorem test_ctc1 :
    after (.ctc1 2 28) (mach [(2, 0xFFFFF007)]) (·.fcsr) = some 0x01000003 := by decide +kernel

/-- 49_fpu_move_mem.md rule R913 -/
theorem test_alnv_ps :
    after (.alnvPs 4 2 1 3) ((machF 0x11111111AAAAAAAA 0x22222222BBBBBBBB).writeGpr 4 4) (·.readFpr 3) =
    some 0xBBBBBBBB11111111 := by decide +kernel

/-- 49_fpu_move_mem.md rule R1110 -/
theorem test_ldc1 :
    after (.ldc1 1 3 8) (mach [baseE]) (·.readFpr 3) = some 0x0807060504030201 := by decide +kernel

/-- 49_fpu_move_mem.md rule R1100 -/
theorem test_bc1f_not_taken :
    after (.bc1f 3 0xFFFE) { mach [] with fcsr := 0x08000000 } (fun u => (u.pc, u.npc)) =
    some (0xFFFFFFFF80001004, 0xFFFFFFFF80001008) := by decide +kernel

/-- 45_cp0_priv.md rule R500: Coprocessor Unusable comes first -/
theorem test_deret_user : after .deret userMach
    (fun u => (u.cp0.cause.extractLsb' 2 5, u.cp0.cause.extractLsb' 28 2)) = some (11, 0) := by
  decide +kernel

/-- 49_fpu_move_mem.md rule R914: with FR = 0 only bits 31:0 are written -/
theorem test_mov_s_keeps_upper : after (.movS 2 4)
    (({ mach [] with cp0 := { State.reset.cp0 with
      status := 0x700000E0 } }.writeFpr 2 0x1111111122222222).writeFpr 4
      0x3333333344444444) (·.readFpr 4) = some 0x3333333322222222 := by decide +kernel

/-- 49_fpu.md rule R811: V out of range, and I since 2147483648.5 is not an integer -/
theorem test_cvt_w_d_range :
    after (.cvtWD 1 3) (machF 0x41E0000000100000 0) (·.fcsr) = some 0x00011044 := by decide +kernel

/-- 20_memory.md rule R225: the store waits -/
theorem test_sd_accelerated : after (.sd 1 2 0) (mach [(1, 0xB800000000002000), (2, 7)]) (fun u =>
    (readLE u.mem 0x2000 8, u.accel)) = some (0x5566778811223344, [⟨0x2000, 8, 7⟩]) := by decide +kernel

/-- 20_memory.md rule R230: a load returns the latest store, the buffered one -/
theorem test_load_sees_buffer :
    after (.lw 1 2 2) { mach [(1, 0xFFFFFFFF80002002)] with
      accel := [⟨0x2000, 8, 0x8877665544332211⟩] } (·.readGpr 2) =
    some 0xFFFFFFFF88776655 := by decide +kernel

/-- 20_memory.md rule R232: stores to one location keep their order -/
theorem test_cached_store_follows_buffer :
    after (.sb 1 2 0) { machC [baseE, (2, 9)] with accel := [⟨0x2000, 8, 7⟩] } (fun u =>
    (readLE u.mem 0x2000 8, u.accel)) = some (9, []) := by decide +kernel

/-- 60_exceptions.md rule R981: a performance counter does not decrease -/
theorem test_counter_never_wraps : 
    ([0, 1, 0xFFFFFFFFFFFFFFFF].all fun f => counterAmount (BitVec.allOnes 64) f 5 == 0) = true := by
  decide +kernel

/-- 60_exceptions.md rule R984: Debug.SSt is set. -/
theorem test_single_step_refused :
    step { mach [] with cp0 := { (mach []).cp0 with debug := 0x02018100 } } = .refused .debugMode := rfl

/-- 11_cp0_registers.md rule R178: a sign-extended word reaches a 64-bit register whole -/
theorem test_mtc0_epc :
    after (.mtc0 2 14 0) (mach [(2, 0xFFFFFFFF80001000)]) (·.cp0.epc) = some 0xFFFFFFFF80001000 := by
  decide +kernel

/-- 93_implementation_defined.md U26: a sign-extended write (log 59) -/
theorem test_mtc0_signExtends :
    after (.mtc0 2 14 0) (mach [(2, 0x9800000080001000)]) (·.cp0.epc) = some 0xFFFFFFFF80001000 := by
  decide +kernel

/-- 20_memory.md rule R225: SYNC writes the buffer out -/
theorem test_sync_drains : after (.sync 0) { mach [] with accel := [⟨0x2000, 8, 7⟩] } (fun u =>
    (readLE u.mem 0x2000 8, u.accel)) = some (7, []) := by decide +kernel

/-- 20_memory.md rules R191, R194: the ends of the gaps between the kernel segments -/
theorem test_kernel_gaps : 
    ([2 ^ 48, 2 ^ 62 - 1, 2 ^ 62 + 2 ^ 48, 2 ^ 63 - 1, 0xC000FFFF80000000, 0xFFFFFFFF7FFFFFFF].all fun a =>
      match (mach []).translate (BitVec.ofNat 64 a) .load with
      | .exc (.addressError false _) => true
      | _ => false) = true := by decide +kernel

/-- 20_memory.md rule R194: the range in conflict -/
theorem test_doubtful_range : 
    ([0xC00000FF80000000, 0xC000FFFF7FFFFFFF].all fun a =>
      match (mach []).translate (BitVec.ofNat 64 a) .load with
      | .refused .doubtfulKernelSegment => true
      | _ => false) = true := by decide +kernel

/-- log 49: the word placed by withFetchWord is the one the next step runs -/
theorem test_step_after_placing : 
    (match step (State.reset.withFetchWord 32 0x24020007) with | .next u => u.readGpr 2 | _ => 0) = 7 := by
  decide +kernel

/-! ### Witnesses: every statement with hypotheses has a state and operands that meet them

One theorem per statement; each clause's hypotheses are met, at a boundary of their range where they have one. -/

/-- Words at both ends of their range, and a base address. -/
def wordMach : State := mach [(1, 0xFFFFFFFF80000000), (2, 0x7FFFFFFF), (3, 1), (4, 0xFFFFFFFF80002000),
  (5, 0xFFFFFFFF80002008)]
/-- In a delay slot. -/
def slotMach : State := { wordMach with inDelaySlot := true }
/-- FR = 0, coprocessors 2 to 0 usable. -/
def evenMach : State := { wordMach with cp0 := { State.reset.cp0 with status := 0x700000E0 } }
/-- User mode with coprocessors 2 to 0 usable, FR = 1 and 64-bit operations off. -/
def narrowMach : State := { wordMach with cp0 := { State.reset.cp0 with status := 0x74000010 } }
/-- Coprocessors 2 and 0 usable, coprocessor 1 not. -/
def noFpMach : State := { wordMach with cp0 := { State.reset.cp0 with status := 0x540000E0 } }
/-- The bus answers ERR at the bytes 0x2007 and 0x200F. -/
def errMach : State := { wordMach with phys := [⟨0x2007, 0x2008, .err⟩, ⟨0x200F, 0x2010, .err⟩] ++ State.reset.phys }
/-- The same errors with CKSEG0 cached; the last LL was a word at 0x200C. -/
def errLinkMach : State := { errMach with
  linked := some ⟨0x200C, 4⟩, cp0 := { wordMach.cp0 with config := 0x80034483 } }
/-- CKSEG0 is cached, and the page of 0x2000 has the colour of its address. -/
def cachedMach : State := { wordMach with
  coloured := [⟨2, 2⟩], cp0 := { wordMach.cp0 with config := 0x80034483 } }
/-- The page has another colour. -/
def clashMach : State := { cachedMach with coloured := [⟨2, 1⟩] }
/-- Kernel mode with KX = 0, and with ERL = 1. -/
def shortMach : State := { mach [] with cp0 := { State.reset.cp0 with status := 0x74000060 } }
/-- See `shortMach`. -/
def erlMach : State := { mach [] with cp0 := { State.reset.cp0 with status := 0x740000E4 } }
/-- Supervisor mode. -/
def supMach : State := { mach [] with cp0 := { State.reset.cp0 with status := 0x00000008 } }
/-- At exception level. -/
def exlMach : State := { mach [] with cp0 := { State.reset.cp0 with status := 0x740000E2 } }
/-- An interrupt enabled and pending. -/
def intMach : State := { mach [] with
  lines := 1, cp0 := { State.reset.cp0 with status := 0x7400FFE1, cause := 0x00800000 } }
/-- Every request is raised and enabled, in vectored mode with the widest spacing. -/
def busyMach : State := { mach [] with
  lines := 0x3F
  cp0 := { State.reset.cp0 with status := 0x7400FFE1, cause := 0x00800300, intCtl := 0xFC000200 } }
/-- Request 2 is the highest one of `intMach`. -/
theorem highest_two : HighestRequest intMach 2 := by
  refine ⟨by decide, ?_, fun m h h' => ?_⟩
  · unfold EnabledRequest Requests
    decide +kernel
  · unfold EnabledRequest Requests
    interval_cases m <;> decide +kernel
/-- Request 7 is the highest one of `busyMach`. -/
theorem highest_seven : HighestRequest busyMach 7 := by
  refine ⟨by decide, ?_, fun m h h' => by omega⟩
  unfold EnabledRequest Requests
  decide +kernel
/-- 60_exceptions.md rule R978: vector 7 lies 0x200 + 7 * 512 above the base. -/
theorem test_vectored_entry :
    (match busyMach.enterInterrupt with | .next t => t.pc | _ => 0) = 0xFFFFFFFF80001000 := by decide +kernel
/-- The even page of entry 9 is not valid. -/
def invalidMach : State := (tlbMach 5 false).setTlb 9 { entry9 false with v0 := false }
/-- Entries 9 and 10 of the TLB match the same address. -/
def twiceMach : State := (tlbMach 5 false).setTlb 10 (entry9 false)

/-- Register 1 of `wordMach` is a sign-extended word. -/
theorem isWord_one : IsWord (wordMach.readGpr 1) := by unfold IsWord; decide +kernel
/-- Register 2 of `wordMach` is a sign-extended word. -/
theorem isWord_two : IsWord (wordMach.readGpr 2) := by unfold IsWord; decide +kernel
/-- Register 3 of `wordMach` is a sign-extended word. -/
theorem isWord_three : IsWord (wordMach.readGpr 3) := by unfold IsWord; decide +kernel

/-- Meets the hypotheses of WordArithmeticSignExtendsItsResult. -/
theorem witness_WordArithmeticSignExtendsItsResult :
    IsWord (wordMach.readGpr 1) ∧ IsWord (wordMach.readGpr 2) := ⟨isWord_one, isWord_two⟩

/-- Meets the hypotheses of DoublewordArithmeticNeedsSixtyFourBits. -/
theorem witness_DoublewordArithmeticNeedsSixtyFourBits :
    wordMach.are64 = true ∧ userMach.are64 = false := by decide +kernel

/-- Meets the hypotheses of OverflowTrapsAndLeavesTheDestination. -/
theorem witness_OverflowTrapsAndLeavesTheDestination :
    (IsWord (wordMach.readGpr 2) ∧ IsWord (wordMach.readGpr 3)) ∧
      Fits 32 (0x7FFFFFFF + 0) ∧ ¬ Fits 32 (0x7FFFFFFF + 1) ∧ Fits 64 (-(2 ^ 63)) ∧ ¬ Fits 64 (2 ^ 63) ∧
      wordMach.are64 = true ∧ userMach.are64 = false := by
  refine ⟨⟨isWord_two, isWord_three⟩, ?_⟩
  unfold Fits
  decide +kernel

/-- Meets the hypotheses of LeadingBitCountsAreExact. -/
theorem witness_LeadingBitCountsAreExact :
    IsWord (wordMach.readGpr 1) ∧ wordMach.are64 = true ∧ userMach.are64 = false := ⟨isWord_one, by decide +kernel⟩

/-- Meets the hypotheses of ByteAndHalfwordRearrangements. -/
theorem witness_ByteAndHalfwordRearrangements :
    IsWord (wordMach.readGpr 1) ∧ wordMach.are64 = true ∧ userMach.are64 = false := ⟨isWord_one, by decide +kernel⟩

/-- Meets the hypotheses of WordShiftsSignExtend. -/
theorem witness_WordShiftsSignExtend :
    IsWord (wordMach.readGpr 1) := isWord_one

/-- Meets the hypotheses of DoublewordShiftsMoveAllSixtyFourBits. -/
theorem witness_DoublewordShiftsMoveAllSixtyFourBits :
    wordMach.are64 = true ∧ userMach.are64 = false := by decide +kernel

/-- Meets the hypotheses of BitFieldsMoveBitByBit. -/
theorem witness_BitFieldsMoveBitByBit :
    (IsWord (wordMach.readGpr 1) ∧ IsWord (wordMach.readGpr 2)) ∧ wordMach.are64 = true ∧ userMach.are64 = false ∧
      (31#5).toNat + (0#5).toNat ≤ 31 ∧ (∀ p ∈ extracts, (p.2 0 31).1 + (p.2 0 31).2 ≤ 64) ∧
      (∀ p ∈ inserts, (p.2 31 31).1 ≤ (p.2 31 31).2) := by
  refine ⟨⟨isWord_one, isWord_two⟩, by decide +kernel, by decide +kernel, by decide +kernel, ?_, ?_⟩
  · simp [extracts]
  · simp [inserts]

/-- Meets the hypotheses of MultiplyFillsHiAndLo. -/
theorem witness_MultiplyFillsHiAndLo :
    (IsWord (wordMach.readGpr 1) ∧ IsWord (wordMach.readGpr 2)) ∧ wordMach.are64 = true ∧
      userMach.are64 = false := ⟨⟨isWord_one, isWord_two⟩, by decide +kernel⟩

/-- Meets the hypotheses of DivisionGivesQuotientAndRemainder. -/
theorem witness_DivisionGivesQuotientAndRemainder :
    (IsWord (wordMach.readGpr 1) ∧ IsWord (wordMach.readGpr 3)) ∧
      Divisible 32 (wordMach.readGpr 1).toInt (wordMach.readGpr 3).toInt ∧ Divisible 64 (-(2 ^ 63)) 1 ∧
      wordMach.readGpr 3 ≠ 0 ∧ wordMach.are64 = true ∧ userMach.are64 = false := by
  refine ⟨⟨isWord_one, isWord_three⟩, ?_⟩
  unfold Divisible
  decide +kernel

/-- Meets the hypotheses of HiLoMovesAndMul. -/
theorem witness_HiLoMovesAndMul :
    IsWord (wordMach.readGpr 1) ∧ IsWord (wordMach.readGpr 2) := ⟨isWord_one, isWord_two⟩

/-- Meets the hypotheses of BranchesGoThroughTheDelaySlot. -/
theorem witness_BranchesGoThroughTheDelaySlot :
    wordMach.inDelaySlot = false ∧ (30 : BitVec 5) ≠ 31 ∧ wordMach.readGpr 3 = wordMach.readGpr 3 ∧
      wordMach.readGpr 1 ≠ wordMach.readGpr 2 ∧ (wordMach.readGpr 0).toInt ≤ 0 ∧
      ¬ (wordMach.readGpr 0).toInt < 0 := by decide +kernel

/-- Meets the hypotheses of LikelyBranchesNullifyTheSlotWhenNotTaken. -/
theorem witness_LikelyBranchesNullifyTheSlotWhenNotTaken :
    wordMach.inDelaySlot = false ∧ (30 : BitVec 5) ≠ 31 ∧ wordMach.readGpr 3 = wordMach.readGpr 3 ∧
      wordMach.readGpr 1 ≠ wordMach.readGpr 2 ∧ (wordMach.readGpr 0).toInt ≤ 0 ∧
      ¬ (wordMach.readGpr 0).toInt < 0 := by decide +kernel

/-- Meets the hypotheses of JumpsAndTheirLinks. -/
theorem witness_JumpsAndTheirLinks :
    wordMach.inDelaySlot = false ∧ (2 : BitVec 5) ≠ 1 := by decide +kernel

/-- Meets the hypotheses of UnpredictableControlFlowStops. -/
theorem witness_UnpredictableControlFlowStops :
    slotMach.inDelaySlot = true ∧ slotMach.copUsable 0 = true ∧ (2 : BitVec 5) ≠ 1 ∧
      (30 : BitVec 5) ≠ 31 := by decide +kernel

/-- Meets the hypotheses of ConditionalTraps. -/
theorem witness_ConditionalTraps :
    (wordMach.readGpr 3).toInt ≤ (wordMach.readGpr 3).toInt ∧
      ¬ (wordMach.readGpr 3).toInt < (wordMach.readGpr 3).toInt := by decide +kernel

/-- Meets the hypotheses of ConditionalMoves. -/
theorem witness_ConditionalMoves :
    wordMach.cu 1 = true ∧ userMach.cu 1 = false := by decide +kernel

/-- Meets the hypotheses of SystemCallAndBreakpointTakeTheirException. -/
theorem witness_SystemCallAndBreakpointTakeTheirException :
    wordMach.exl = false := by decide +kernel

/-- Meets the hypotheses of HintsAndBarriersOnlyAdvance. -/
theorem witness_HintsAndBarriersOnlyAdvance :
    wordMach.cu 1 = true ∧ wordMach.copUsable 0 = true ∧ wordMach.inDelaySlot = false ∧
      wordMach.translate (wordMach.readGpr 4 + (0#16).signExtend 64) .load = .ok ⟨0x2000, 2⟩ ∧
      (31 : BitVec 5) ≠ 0 := by decide +kernel

/-- Meets the hypotheses of LoadsExtendTheBytesTheyRead. -/
theorem witness_LoadsExtendTheBytesTheyRead :
    (wordMach.are64 = true ∧ wordMach.cu 2 = true) ∧ (narrowMach.are64 = false ∧ narrowMach.cu 2 = true ∧
      narrowMach.cu 1 = true ∧ narrowMach.copUsable 0 = true) ∧
      (∀ n ∈ [1, 2, 4, 8], Readable wordMach (wordMach.readGpr 4) n ⟨0x2000, 2⟩ ∧
        Readable cachedMach (wordMach.readGpr 4) n ⟨0x2000, 3⟩) ∧
      boundLe (wordMach.readGpr 4) (wordMach.readGpr 4) = true ∧
      boundLe (wordMach.readGpr 4) 0xFFFFFFFF80001FFF = false := by
  refine ⟨by decide +kernel, by decide +kernel, ?_, ?_⟩
  · unfold Readable Reaches InMemory
    decide +kernel
  · unfold boundLe
    cases Config.boundSigned <;> decide +kernel

/-- Meets the hypotheses of StoresWriteExactlyTheirBytes. -/
theorem witness_StoresWriteExactlyTheirBytes :
    (wordMach.are64 = true ∧ wordMach.cu 2 = true) ∧ (narrowMach.are64 = false ∧ narrowMach.cu 2 = true ∧
      narrowMach.cu 1 = true ∧ narrowMach.copUsable 0 = true) ∧
      (∀ n ∈ [1, 2, 4, 8], Writable wordMach (wordMach.readGpr 4) n ⟨0x2000, 2⟩ ∧
        Writable cachedMach (wordMach.readGpr 4) n ⟨0x2000, 3⟩) ∧
      Writable wordMach 0xB800000000002000 8 ⟨0x2000, 7⟩ ∧
      boundLe (wordMach.readGpr 4) (wordMach.readGpr 4) = true ∧
      boundLe (wordMach.readGpr 4) 0xFFFFFFFF80001FFF = false := by
  refine ⟨by decide +kernel, by decide +kernel, ?_, ?_, ?_⟩
  · unfold Writable Reaches InRam
    decide +kernel
  · unfold Writable Reaches InRam
    decide +kernel
  · unfold boundLe
    cases Config.boundSigned <;> decide +kernel

/-- An address whose translation raises, for the clauses on translations that do. -/
theorem translations_raise : wordMach.translate 0x10000 .load = .exc (.tlbRefill false 0x10000) ∧
    wordMach.translate 0x10000 .store = .exc (.tlbRefill true 0x10000) := by
  decide +kernel

/-- Accesses that reach 0x2000 and 0x2008, where the bus answers ERR at byte 7 of the block; the right part of a
block at its last byte, and the left part of a word up to its last byte. -/
theorem accesses_err : (Reaches errMach (wordMach.readGpr 4) .load ⟨0x2000, 2⟩ ∧ AnswersErr errMach 0x2000 8) ∧
    (Reaches errMach (wordMach.readGpr 4 + 7) .load ⟨0x2007, 2⟩ ∧ AnswersErr errMach (blockOf ⟨0x2007, 2⟩ 4) 4 ∧
      AnswersErr errMach (blockOf ⟨0x2007, 2⟩ 8) 8) ∧
    (Reaches errMach (wordMach.readGpr 4 + 7) .store ⟨0x2007, 2⟩ ∧
      AnswersErr errMach (blockOf ⟨0x2007, 2⟩ 4) ((wordMach.readGpr 4 + 7).toNat % 4 + 1) ∧
      AnswersErr errMach 0x2007 (8 - (wordMach.readGpr 4 + 7).toNat % 8)) := by
  unfold Reaches AnswersErr
  refine ⟨⟨?_, ?_⟩, ⟨?_, ?_, ?_⟩, ⟨?_, ?_, ?_⟩⟩ <;> decide +kernel

/-- Meets the hypotheses of LeftAndRightAccessesMovePartOfABlock. -/
theorem witness_LeftAndRightAccessesMovePartOfABlock :
    (BlockReadable wordMach (wordMach.readGpr 4) 4 ⟨0x2000, 2⟩ ∧
      BlockReadable wordMach (wordMach.readGpr 4 + 3) 4 ⟨0x2003, 2⟩ ∧
      BlockReadable wordMach (wordMach.readGpr 4) 8 ⟨0x2000, 2⟩ ∧
      BlockReadable wordMach (wordMach.readGpr 4 + 7) 8 ⟨0x2007, 2⟩) ∧
      (Reaches wordMach (wordMach.readGpr 4 + 7) .store ⟨0x2007, 2⟩ ∧ InRam wordMach (blockOf ⟨0x2007, 2⟩ 8) 8 ∧
        InRam wordMach 0x2007 1) ∧ wordMach.are64 = true ∧ userMach.are64 = false ∧
      (Reaches errMach (wordMach.readGpr 4 + 7) .load ⟨0x2007, 2⟩ ∧ AnswersErr errMach (blockOf ⟨0x2007, 2⟩ 4) 4) ∧
      wordMach.translate 0x10000 .load = .exc (.tlbRefill false 0x10000) := by
  refine ⟨?_, ?_, by decide +kernel, by decide +kernel,
    ⟨accesses_err.2.1.1, accesses_err.2.1.2.1⟩, translations_raise.1⟩
  · unfold BlockReadable Reaches InMemory
    decide +kernel
  · unfold Reaches InRam
    decide +kernel

/-- Meets the hypotheses of LoadLinkedAndStoreConditional. -/
theorem witness_LoadLinkedAndStoreConditional :
    ((wordMach.readGpr 4).toNat % 8 = 0 ∧
        Readable wordMach (wordMach.readGpr 4) 4 ⟨0x2000, 2⟩ ∧ Readable wordMach (wordMach.readGpr 4) 8 ⟨0x2000, 2⟩) ∧
      (Reaches cachedMach (wordMach.readGpr 4) .store ⟨0x2000, 3⟩ ∧ InRam cachedMach 0x2000 8) ∧
      (FitsLink { cachedMach with linked := some ⟨0x2000, 8⟩ } ⟨0x2000, 3⟩ 8 ∧ FitsLink cachedMach ⟨0x2000, 3⟩ 4) ∧
      ¬ FitsLink { cachedMach with linked := some ⟨0x2000, 8⟩ } ⟨0x2000, 3⟩ 4 ∧ ¬ FitsLink cachedMach ⟨0x2000, 2⟩ 4 ∧
      (FitsLink errLinkMach ⟨0x200C, 3⟩ 4 ∧ Reaches errLinkMach (wordMach.readGpr 5 + 4) .store ⟨0x200C, 3⟩ ∧
        AnswersErr errLinkMach 0x200C 4) ∧
      wordMach.translate 0x10000 .store = .exc (.tlbRefill true 0x10000) ∧
      wordMach.are64 = true ∧ userMach.are64 = false := by
  have e : ∀ (l : Link) (s : State) (p : PhysAddr) (n : Nat), s.linked = some l →
      (FitsLink s ⟨p, 3⟩ n ↔ l.pa = p ∧ l.size = n) := by
    intro l s p n h
    unfold FitsLink
    rw [h]
    simp
  refine ⟨?_, ?_, ⟨?_, ?_⟩, ?_, ?_, ⟨?_, ?_, ?_⟩, translations_raise.2, by decide +kernel⟩
  · unfold Readable Reaches InMemory
    decide +kernel
  · unfold Reaches InRam
    decide +kernel
  · exact (e ⟨0x2000, 8⟩ _ _ _ rfl).2 ⟨rfl, rfl⟩
  · exact ⟨rfl, fun l h => by cases h⟩
  · intro h
    exact absurd ((e ⟨0x2000, 8⟩ _ _ _ rfl).1 h).2 (by decide)
  · exact fun h => absurd h.1 (by decide)
  · exact (e ⟨0x200C, 4⟩ _ _ _ rfl).2 ⟨rfl, rfl⟩
  · unfold Reaches
    decide +kernel
  · unfold AnswersErr
    decide +kernel

/-- The quad at 0x2000, and the one at 0x2008, can be loaded; and the first one through a cached address. -/
theorem quads_readable : QuadReadable wordMach (QuadAddress wordMach 4 0) ⟨0x2000, 2⟩ ⟨0x2008, 2⟩ ∧
    QuadReadable wordMach (QuadAddress wordMach 5 0) ⟨0x2008, 2⟩ ⟨0x2010, 2⟩ ∧
    QuadReadable cachedMach (QuadAddress wordMach 4 0) ⟨0x2000, 3⟩ ⟨0x2008, 3⟩ := by
  unfold QuadReadable Readable Reaches InMemory
  refine ⟨⟨?_, ?_⟩, ⟨?_, ?_⟩, ⟨?_, ?_⟩⟩ <;> decide +kernel

/-- The same two quads can be stored to. -/
theorem quads_writable : QuadWritable wordMach (QuadAddress wordMach 4 0) ⟨0x2000, 2⟩ ⟨0x2008, 2⟩ ∧
    QuadWritable wordMach (QuadAddress wordMach 5 0) ⟨0x2008, 2⟩ ⟨0x2010, 2⟩ := by
  unfold QuadWritable Writable Reaches InRam
  refine ⟨⟨?_, ?_⟩, ⟨?_, ?_⟩⟩ <;> decide +kernel

/-- Meets the hypotheses of QuadAndBoundCheckInstructions. -/
theorem witness_QuadAndBoundCheckInstructions :
    (wordMach.cu 2 = true ∧ wordMach.are64 = true ∧ userMach.are64 = false ∧ (narrowMach.are64 = false ∧
      narrowMach.cu 2 = true ∧ narrowMach.cu 1 = true ∧ narrowMach.copUsable 0 = true) ∧
      (QuadAddress wordMach 4 0).toNat % 16 = 0 ∧
        (QuadAddress wordMach 5 0).toNat % 16 = 8 ∧ (QuadAddress wordMach 3 0).toNat % 8 ≠ 0) ∧
      (QuadReadable wordMach (QuadAddress wordMach 4 0) ⟨0x2000, 2⟩ ⟨0x2008, 2⟩ ∧
        QuadWritable wordMach (QuadAddress wordMach 5 0) ⟨0x2008, 2⟩ ⟨0x2010, 2⟩) ∧
      (Reaches errMach (wordMach.readGpr 4) .load ⟨0x2000, 2⟩ ∧ AnswersErr errMach 0x2000 8 ∧
        wordMach.translate 0x10000 .store = .exc (.tlbRefill true 0x10000)) ∧
      boundLe (wordMach.readGpr 3) (wordMach.readGpr 3) = true ∧
      boundLe (wordMach.readGpr 3) (wordMach.readGpr 0) = false ∧
      (wordMach.readGpr 3).sle (wordMach.readGpr 2) = (wordMach.readGpr 3).ule (wordMach.readGpr 2) := by
  refine ⟨by decide +kernel, ?_, ⟨accesses_err.1.1, accesses_err.1.2, translations_raise.2⟩, ?_⟩
  · exact ⟨quads_readable.1, quads_writable.2⟩
  · unfold boundLe
    cases Config.boundSigned <;> decide +kernel

/-- Meets the hypotheses of MisalignedAccessesTakeAddressError. -/
theorem witness_MisalignedAccessesTakeAddressError :
    ((∀ n ∈ [2, 4, 8], (wordMach.readGpr 3 + (0#16).signExtend 64).toNat % n ≠ 0) ∧ wordMach.are64 = true ∧
        wordMach.cu 2 = true) ∧
      (Reaches errMach (wordMach.readGpr 4 + 7) .load ⟨0x2007, 2⟩ ∧ AnswersErr errMach 0x2007 1) ∧
      (Reaches errMach (wordMach.readGpr 4) .store ⟨0x2000, 2⟩ ∧ AnswersErr errMach 0x2000 8) ∧
      (wordMach.translate 0x10000 .load = .exc (.tlbRefill false 0x10000) ∧
        wordMach.translate 0x10000 .store = .exc (.tlbRefill true 0x10000)) ∧
      boundLe (wordMach.readGpr 4) (wordMach.readGpr 4) = true ∧
      boundLe (wordMach.readGpr 4) 0xFFFFFFFF80001FFF = false := by
  refine ⟨by decide +kernel, ?_, ?_, translations_raise, ?_⟩
  · unfold Reaches AnswersErr
    decide +kernel
  · unfold Reaches AnswersErr
    decide +kernel
  · unfold boundLe
    cases Config.boundSigned <;> decide +kernel

/-- Meets the hypotheses of MemoryKeepsBytesInLittleEndianOrder. -/
theorem witness_MemoryKeepsBytesInLittleEndianOrder :
    (8 ≤ 8 ∧ 7 < 8) ∧ (0x1FFF < 0x2000 ∨ 0x2000 + 8 ≤ 0x1FFF) ∧ Memory.wf wordMach.mem = true ∧
      ∀ a, readByte wordMach.mem a = readByte wordMach.mem a := ⟨by decide, by decide, by decide +kernel, fun _ => rfl⟩

/-- Meets the hypotheses of UnmappedSegmentsAndForbiddenAddresses. -/
theorem witness_UnmappedSegmentsAndForbiddenAddresses :
    ((mach []).isKernel = true ∧ (mach []).kx = true ∧ userMach.isUser = true ∧ supMach.isSupervisor = true) ∧
      (Reachable (mach []) (BitVec.ofNat 48 0x1FFFFFFF) ((mach []).cp0.config.setWidth 3) ∧
        Reachable (mach []) (BitVec.ofNat 48 (2 ^ 40 - 1)) 7) ∧
      ((0x9800FFFFFFFFFFFF#64).extractLsb' 62 2 = 2#2 ∧ (0x9801000000000000#64).extractLsb' 48 11 ≠ 0#11 ∧
        2 ^ 48 ≤ (0x0001000000000000#64).toNat ∧ ¬ 2 ^ 62 ≤ (0x0001000000000000#64).toNat) ∧
      (shortMach.isKernel = true ∧ shortMach.kx = false ∧ supMach.sx = false ∧ userMach.ux = false) ∧
      ¬ IsWord 0x80000000 ∧ (erlMach.isKernel = true ∧ erlMach.erl = true ∧ erlMach.kx = true) ∧
      Reaches cachedMach (wordMach.readGpr 4) .load ⟨0x2000, 3⟩ ∧
      (clashMach.translate (wordMach.readGpr 4) .load = .ok ⟨0x2000, 3⟩ ∧
        (∃ c ∈ clashMach.coloured, c.page = (0x2000#48).extractLsb' 12 36) ∧
        ∀ c ∈ clashMach.coloured, c.page = (0x2000#48).extractLsb' 12 36 →
          c.colour ≠ (wordMach.readGpr 4).extractLsb' 12 2) := by
  unfold Reachable IsWord Reaches
  decide +kernel

/-- `Matches` as a test on numbers. -/
def matchesBool (s : State) (va : Dword) (e : TlbEntry) : Bool :=
  e.r == va.extractLsb' 62 2 &&
    ((List.range 35).all fun b => (decide (b < 12) && e.mask.getLsbD b) || e.vpn2.getLsbD b == va.getLsbD (13 + b)) &&
    (e.g || e.asid == s.cp0.entryHi.setWidth 8)

theorem matches_iff (s : State) (va : Dword) (e : TlbEntry) : Matches s va e ↔ matchesBool s va e = true := by
  simp only [Matches, matchesBool, Bool.and_eq_true, beq_iff_eq, List.all_eq_true, List.mem_range, Bool.or_eq_true,
    decide_eq_true_eq, and_assoc]

/-- Meets the hypotheses of TlbLookupOrderAndPhysicalAddress. -/
theorem witness_TlbLookupOrderAndPhysicalAddress :
    (IsMapped (tlbMach 5 false) 0x401000 ∧ (IsMapped (tlbMach 5 false) 0xC00000FF7FFFFFFF ∧
          IsMapped (tlbMach 5 false) 0xFFFFFFFFFFFFFFFF) ∧
        (IsMapped shortMach 0x7FFFFFFF ∧ IsMapped shortMach 0xFFFFFFFFC0000000) ∧
        (IsMapped userMach 0x7FFFFFFF ∧ ¬ IsMapped userMach 0xFFFFFFFFFFFF) ∧
        (IsMapped supMach 0x7FFFFFFF ∧ IsMapped supMach 0xFFFFFFFFDFFFFFFF)) ∧
      (∀ i : Fin 64, ¬ Matches (tlbMach 5 false) 0x402000 (tlbMach 5 false).tlb[i]) ∧
      (Matches (tlbMach 5 false) 0x401000 (tlbMach 5 false).tlb[(9 : Fin 64)] ∧
        ∀ j : Fin 64, Matches (tlbMach 5 false) 0x401000 (tlbMach 5 false).tlb[j] → j = 9) ∧
      Reachable (tlbMach 5 false) 0x101000 3 ∧
      (Matches twiceMach 0x401000 twiceMach.tlb[(9 : Fin 64)] ∧
        Matches twiceMach 0x401000 twiceMach.tlb[(10 : Fin 64)]) ∧
      (OddPage (entry9 false) 0x401000 = true ∧ (entry9 false).v1 = true ∧ (entry9 false).d1 = false) ∧
      (IsMapped invalidMach 0x400234 ∧ Matches invalidMach 0x400234 invalidMach.tlb[(9 : Fin 64)] ∧
        (∀ j : Fin 64, Matches invalidMach 0x400234 invalidMach.tlb[j] → j = 9) ∧
        OddPage invalidMach.tlb[(9 : Fin 64)] 0x400234 = false ∧ invalidMach.tlb[(9 : Fin 64)].v0 = false) := by
  refine ⟨⟨?_, ⟨?_, ?_⟩, ⟨?_, ?_⟩, ⟨?_, ?_⟩, ⟨?_, ?_⟩⟩, ?_⟩
  iterate 9
    · unfold IsMapped Low48 SupervisorLow IsWord
      decide +kernel
  · simp only [matches_iff, Reachable]
    unfold IsMapped Low48 SupervisorLow IsWord
    decide +kernel

/-- Meets the hypotheses of ExceptionEntrySavesAndMasks. -/
theorem witness_ExceptionEntrySavesAndMasks :
    (mach []).exl = false ∧ exlMach.exl = true := by decide +kernel

/-- Meets the hypotheses of ExceptionVectorsByBaseAndOffset. -/
theorem witness_ExceptionVectorsByBaseAndOffset :
    (mach []).exl = false ∧ exlMach.exl = true ∧ (mach []).cp0.cause.getLsbD 23 = false ∧
      intMach.cp0.cause.getLsbD 23 = true ∧ (intMach.ip &&& intMach.im).getLsbD 2 = true ∧
      (∀ k, 2 < k → (intMach.ip &&& intMach.im).getLsbD k = false) := by
  refine ⟨by decide +kernel, by decide +kernel, by decide +kernel, by decide +kernel, by decide +kernel, fun k hk => ?_⟩
  have h : intMach.ip &&& intMach.im = 4#8 := by decide +kernel
  rw [h]
  by_cases h8 : k < 8
  · interval_cases k <;> rfl
  · exact BitVec.getLsbD_of_ge _ _ (by omega)

/-- Meets the hypotheses of FailingAddressIsRecorded. -/
theorem witness_FailingAddressIsRecorded :
    { mach [] with pc := 0x1002 }.pc.toNat % 4 ≠ 0 := by decide +kernel

/-- Meets the hypotheses of ExceptionReturnRestoresPcAndLevel. -/
theorem witness_ExceptionReturnRestoresPcAndLevel :
    (wordMach.copUsable 0 = true ∧ wordMach.inDelaySlot = false) ∧ userMach.copUsable 0 = false := by decide +kernel

/-- Meets the hypotheses of MoveFromCp0ReadsTheRegister. -/
theorem witness_MoveFromCp0ReadsTheRegister :
    (wordMach.copUsable 0 = true ∧ wordMach.are64 = true) ∧ (narrowMach.are64 = false ∧ narrowMach.cu 2 = true ∧
      narrowMach.cu 1 = true ∧ narrowMach.copUsable 0 = true) ∧
      (∀ p ∈ cp0Values wordMach, (p.1, p.2.1) ≠ (31, 1)) ∧ (∀ p ∈ cp0Values wordMach, (p.1, p.2.1) ≠ (18, 0)) ∧
      userMach.copUsable 0 = false := by
  refine ⟨by decide +kernel, by decide +kernel, ?_, ?_, by decide +kernel⟩ <;> simp [cp0Values]

/-- Meets the hypotheses of MoveToCp0WritesOnlyWritableFields. -/
theorem witness_MoveToCp0WritesOnlyWritableFields :
    wordMach.copUsable 0 = true ∧ (words32.all fun p => (wordMach.readCp0 p.1 p.2.1).isSome) = true ∧
      (words64.all fun p => (wordMach.readCp0 p.1 p.2.1).isSome) = true ∧ wordMach.readCp0 31 1 = none ∧
      wordMach.are64 = true ∧ (narrowMach.are64 = false ∧ narrowMach.cu 2 = true ∧ narrowMach.cu 1 = true ∧
      narrowMach.copUsable 0 = true) := by decide +kernel

/-- Meets the hypotheses of TlbWritesAndReads. -/
theorem witness_TlbWritesAndReads :
    (wordMach.copUsable 0 = true ∧ wordMach.cp0.pageMask.extractLsb' 13 12 ∈ legalMasks ∧
        (0x2000#32).extractLsb' 13 12 ∉ legalMasks ∧
        (9 : Fin 64).val = ((tlbMach 5 false).cp0.index.extractLsb' 0 6).toNat) ∧
      (∀ i : Fin 64, ¬ Probed (tlbMach 6 false) (tlbMach 6 false).tlb[i]) ∧
      (Probed (tlbMach 5 false) (tlbMach 5 false).tlb[(9 : Fin 64)] ∧
        ∀ j : Fin 64, Probed (tlbMach 5 false) (tlbMach 5 false).tlb[j] → j = 9) ∧
      (Probed twiceMach twiceMach.tlb[(9 : Fin 64)] ∧ Probed twiceMach twiceMach.tlb[(10 : Fin 64)]) := by
  simp only [Probed, matches_iff]
  decide +kernel

/-- Meets the hypotheses of CacheLoadOperationsAndHardwareRegisters. -/
theorem witness_CacheLoadOperationsAndHardwareRegisters :
    (wordMach.copUsable 0 = true ∧ userMach.copUsable 0 = false ∧
      wordMach.translate (wordMach.readGpr 4 + (0#16).signExtend 64) .load = .ok ⟨0x2000, 2⟩) ∧
      wordMach.isKernel = true ∧ 3 < (4#5).toNat ∧
      (userMach.isKernel = false ∧ userMach.cu 0 = false ∧
      userMach.cp0.hwrEna.getLsbD (3#5).toNat = false) := by decide +kernel

/-- Meets the hypotheses of StopsTheSpecLeavesWithoutAnEffect. -/
theorem witness_StopsTheSpecLeavesWithoutAnEffect :
    wordMach.copUsable 0 = true ∧ userMach.copUsable 0 = false := by decide +kernel

/-- FR = 1 allows every register, FR = 0 the even ones. -/
theorem fpReady_all : FpReady wordMach [0, 1, 2, 31] ∧ FpReady evenMach [0, 2, 4, 30] := by
  unfold FpReady
  decide +kernel

/-- Singles and doubles that stand for 0, 1, 2 and -1, each with its sign. -/
theorem finite_some :
    (IsFinite .single 0 false 0 ∧ IsFinite .single 0x3F800000 false 1 ∧ IsFinite .single 0xBF800000 true (-1)) ∧
    IsFinite .double 0x8000000000000000 true 0 ∧ IsFinite .double 0x3FF0000000000000 false 1 ∧
    IsFinite .double 0x4000000000000000 false 2 :=
  ⟨⟨⟨by decide +kernel, 0, -149, by decide +kernel, by norm_num [valueOf]⟩,
      ⟨by decide +kernel, 0x800000, -23, by decide +kernel, by norm_num [valueOf]⟩,
      ⟨by decide +kernel, 0x800000, -23, by decide +kernel, by norm_num [valueOf]⟩⟩,
    ⟨by decide +kernel, 0, -1074, by decide +kernel, by norm_num [valueOf]⟩,
    ⟨by decide +kernel, 0x10000000000000, -52, by decide +kernel, by norm_num [valueOf]⟩,
    ⟨by decide +kernel, 0x10000000000000, -51, by decide +kernel, by norm_num [valueOf]⟩⟩

/-- Infinite and invalid products, a NaN the hardware handles, and operands it does not. -/
theorem special_some : ProductInfinite .single singleBits 0x7F800000 0xBF800000 true ∧
    ProductInvalid .single singleBits 0x7F800000 0 ∧
    (¬ Unhandled .single 0x7FC00000 ∧ Fmt.single.isSignaling 0x7FC00000 = true) ∧
    Unhandled .double 0x7FF7FFFFFFFFFFFF := by
  refine ⟨⟨false, true, rfl, .inr (.inl ⟨-1, rfl, finite_some.1.2.2, by norm_num⟩)⟩,
    ⟨false, false, .inl ⟨rfl, finite_some.1.1⟩⟩, ?_, ?_⟩
  · unfold Unhandled
    decide +kernel
  · unfold Unhandled
    decide +kernel

/-- Meets the hypotheses of FpArithmeticFollowsTheExceptionProcedure. -/
theorem witness_FpArithmeticFollowsTheExceptionProcedure :
    (FpReady wordMach [0, 1, 2, 31] ∧ FpReady evenMach [0, 2, 4, 30]) ∧ wordMach.cu 1 = true ∧ userMach.cu 1 = false ∧
      wordMach.fr = true ∧ (evenMach.cu 1 = true ∧ evenMach.fr = false ∧ (1#5).getLsbD 0 = true) ∧
      (Untrapped wordMach 31 ∧ ¬ Untrapped State.reset 1 ∧ ¬ Untrapped wordMach 32) ∧
      (IsFinite .single 0x3F800000 false 1 ∧ IsFinite .double 0x4000000000000000 false 2 ∧
        IsFinite .double 0x8000000000000000 true 0) ∧
      ProductInfinite .single singleBits 0x7F800000 0xBF800000 true ∧
      ProductInvalid .single singleBits 0x7F800000 0 := by
  refine ⟨fpReady_all, by decide +kernel, by decide +kernel, by decide +kernel, by decide +kernel, ?_,
    ⟨finite_some.1.2.1, finite_some.2.2.2, finite_some.2.1⟩, special_some.1, special_some.2.1⟩
  unfold Untrapped
  decide +kernel

/-- Register lists for the ready and the odd clauses, of the compares, conversions and moves too. -/
theorem witness_FpArithmeticFollowsTheExceptionProcedure_registers :
    (NamesOdd (namedRegisters .add 0 3 2 4) ∧ NamesOdd (namedRegisters .madd 3 0 2 4) ∧
        ¬ NamesOdd (namedRegisters .abs 3 3 2 4)) ∧ FpReady evenMach (namedRegisters .abs 3 3 2 4) ∧
      FpReady wordMach (namedRegisters .madd 31 1 2 3) ∧ NamesOdd [2, 3] ∧ NamesOdd [3, 2] := by
  unfold NamesOdd FpReady
  decide +kernel

/-- Numbers within one unit of 0.25 and of 1/3 (49_fpu.md rule R839). -/
theorem witness_FpArithmeticFollowsTheExceptionProcedure_units :
    WithinUnits .single 1 (1 / 4) (-25 * 2 ^ 23 - 1) ∧ WithinUnits .single 1 (1 / 4) (-25 * 2 ^ 23 + 1) ∧
      (∃ i, gridNumber .single i = 1 / 4) ∧ WithinUnits .single 1 (1 / 3) (-25 * 2 ^ 23 + 0x2AAAAB) := by
  refine ⟨⟨-25 * 2 ^ 23, ?_⟩, ⟨-25 * 2 ^ 23, ?_⟩, ⟨-25 * 2 ^ 23, ?_⟩, ⟨-25 * 2 ^ 23 + 0x2AAAAA, ?_⟩⟩ <;>
    norm_num [gridNumber, Fmt.single]

/-- Meets the hypotheses of ComparesWriteOneConditionCode. -/
theorem witness_ComparesWriteOneConditionCode :
    (FpReady wordMach [0, 1, 2, 31] ∧ FpReady evenMach [0, 2, 4, 30]) ∧ wordMach.cu 1 = true ∧ userMach.cu 1 = false ∧
      wordMach.fr = true ∧ (evenMach.cu 1 = true ∧ evenMach.fr = false ∧ (1#5).getLsbD 0 = true) ∧
      Untrapped wordMach 16 ∧ ¬ Untrapped State.reset 16 ∧ (6#3).getLsbD 0 = false ∧ (7#3).getLsbD 0 = true := by
  refine ⟨fpReady_all, ?_⟩
  unfold Untrapped
  decide +kernel

/-- Meets the hypotheses of ConversionsRoundInTheirMode. -/
theorem witness_ConversionsRoundInTheirMode :
    (FpReady wordMach [0, 1, 2, 31] ∧ FpReady evenMach [0, 2, 4, 30]) ∧ wordMach.cu 1 = true ∧ userMach.cu 1 = false ∧
      wordMach.fr = true ∧ (evenMach.cu 1 = true ∧ evenMach.fr = false ∧ (1#5).getLsbD 0 = true) ∧
      Untrapped wordMach 17 ∧ ¬ Untrapped State.reset 1 := by
  refine ⟨fpReady_all, ?_⟩
  unfold Untrapped
  decide +kernel

/-- Meets the hypotheses of DenormalAndQuietNanOperandsAreUnimplemented. -/
theorem witness_DenormalAndQuietNanOperandsAreUnimplemented :
    FpReady wordMach [0, 1, 2, 31] ∧ Unhandled .single 1 ∧ Unhandled .single 0x7FBFFFFF ∧
      Unhandled .double 0x000FFFFFFFFFFFFF ∧ 2 ≤ FpOp.add.arity ∧ 3 ≤ FpOp.madd.arity := by
  refine ⟨fpReady_all.1, ?_⟩
  unfold Unhandled
  decide +kernel

/-- Meets the hypotheses of RoundedResultsAreExactOrWithinOneUnit. -/
theorem witness_RoundedResultsAreExactOrWithinOneUnit :
    (Fmt.double.round ⟨.nearest, false⟩ (.fin false 3 0)).conds = 0 ∧
      ∀ rm ∈ [Rounding.nearest, .zero, .up, .down],
        (Fmt.single.round ⟨rm, false⟩ (.fin true 0x1FFFFFF 0)).conds = condI := by decide +kernel

/-- Meets the hypotheses of NumbersAddMultiplyCompareAndRoundAsRationals. -/
theorem witness_NumbersAddMultiplyCompareAndRoundAsRationals :
    (Machine.Num.toInteger .nearest true 5 (-1)) = (-2, true) ∧ valueOf (.fin true 5 (-1)) < 0 := by
  refine ⟨by decide +kernel, ?_⟩
  norm_num [valueOf]

/-- Meets the hypotheses of MovesBetweenRegisterFiles. -/
theorem witness_MovesBetweenRegisterFiles :
    (FpReady wordMach [0, 1, 2, 31] ∧ FpReady evenMach [0, 2, 4, 30]) ∧ wordMach.cu 1 = true ∧ userMach.cu 1 = false ∧
      wordMach.fr = true ∧ (evenMach.cu 1 = true ∧ evenMach.fr = false ∧ (1#5).getLsbD 0 = true) ∧
      wordMach.are64 = true ∧ userMach.are64 = false ∧ (6#3).getLsbD 0 = false ∧ (7#3).getLsbD 0 = true ∧
      (wordMach.readGpr 3).setWidth 3 ≠ 0#3 ∧
      (wordMach.readGpr 0).setWidth 3 = 0#3 := ⟨fpReady_all, by decide +kernel⟩

/-- Meets the hypotheses of FloatingControlRegisterViews. -/
theorem witness_FloatingControlRegisterViews :
    wordMach.cu 1 = true ∧ userMach.cu 1 = false ∧ viewOf 0 31 = some 0 ∧ viewOf 0 1 = none ∧
      viewWritten 0 31 0x015C0003 = some 0x01400003 ∧ viewWritten 0 28 4 = some 0x01000000 ∧
      viewWritten 0 0 4 = none ∧ (0x00200000#32).getLsbD 21 = true ∧ PendingCause 0x00020000 ∧
      PendingCause 0x00001080 ∧ ¬ PendingCause 0x00001F00 := by
  unfold PendingCause
  decide +kernel

/-- Meets the hypotheses of FloatingConditionBranches. -/
theorem witness_FloatingConditionBranches :
    (wordMach.cu 1 = true ∧ wordMach.inDelaySlot = false) ∧
      (slotMach.cu 1 = true ∧ slotMach.inDelaySlot = true) ∧ userMach.cu 1 = false := by decide +kernel

/-- Meets the hypotheses of FloatingLoadsFillOneLocation. -/
theorem witness_FloatingLoadsFillOneLocation :
    ((wordMach.cu 1 = true ∧ wordMach.cu 2 = true ∧ evenMach.cu 1 = true ∧ evenMach.cu 2 = true ∧
          evenMach.fr = false ∧ (1#5).getLsbD 0 = true) ∧
        (QuadAddress wordMach 4 0).toNat % 16 = 0 ∧ (QuadAddress wordMach 5 0).toNat % 16 = 8 ∧
        (QuadAddress wordMach 3 0).toNat % 8 ≠ 0 ∧ (∀ n ∈ [4, 8], (wordMach.readGpr 3).toNat % n ≠ 0)) ∧
      (FpReady wordMach [1] ∧ FpReady wordMach [1, 2] ∧ FpReady evenMach [2]) ∧
      (Readable wordMach (wordMach.readGpr 4) 4 ⟨0x2000, 2⟩ ∧ Readable wordMach (wordMach.readGpr 4) 8 ⟨0x2000, 2⟩) ∧
      (BlockReadable wordMach (wordMach.readGpr 4 + 3) 4 ⟨0x2003, 2⟩ ∧
        BlockReadable wordMach (wordMach.readGpr 4 + 7) 8 ⟨0x2007, 2⟩) ∧
      (errMach.cu 1 = true ∧ Reaches errMach (wordMach.readGpr 5) .load ⟨0x2008, 2⟩ ∧ AnswersErr errMach 0x2008 8) ∧
      (Reaches errMach (wordMach.readGpr 4 + 7) .load ⟨0x2007, 2⟩ ∧ AnswersErr errMach (blockOf ⟨0x2007, 2⟩ 4) 4 ∧
        AnswersErr errMach (blockOf ⟨0x2007, 2⟩ 8) 8) ∧
      wordMach.translate 0x10000 .load = .exc (.tlbRefill false 0x10000) := by
  refine ⟨?_, ?_, ?_, ?_, ?_, accesses_err.2.1, translations_raise.1⟩
  all_goals
    try unfold FpReady
    try unfold BlockReadable
    try unfold Readable
    try unfold Writable
    try unfold Reaches
    try unfold InMemory
    try unfold InRam
    try unfold AnswersErr
    decide +kernel

/-- Meets the hypotheses of FloatingStoresWriteExactlyTheirBytes. -/
theorem witness_FloatingStoresWriteExactlyTheirBytes :
    ((wordMach.cu 1 = true ∧ wordMach.cu 2 = true ∧ evenMach.cu 1 = true ∧ evenMach.cu 2 = true ∧
          evenMach.fr = false ∧ (1#5).getLsbD 0 = true) ∧
        (QuadAddress wordMach 4 0).toNat % 16 = 0 ∧ (QuadAddress wordMach 5 0).toNat % 16 = 8 ∧
        (QuadAddress wordMach 3 0).toNat % 8 ≠ 0 ∧ (∀ n ∈ [4, 8], (wordMach.readGpr 3).toNat % n ≠ 0)) ∧
      (FpReady wordMach [1] ∧ FpReady wordMach [1, 2] ∧ FpReady evenMach [2]) ∧
      (Writable wordMach (wordMach.readGpr 4) 4 ⟨0x2000, 2⟩ ∧ Writable wordMach (wordMach.readGpr 4) 8 ⟨0x2000, 2⟩) ∧
      (Reaches wordMach (wordMach.readGpr 4 + 7) .store ⟨0x2007, 2⟩ ∧ InRam wordMach (blockOf ⟨0x2007, 2⟩ 8) 8 ∧
        InRam wordMach 0x2007 1) ∧
      (errMach.cu 1 = true ∧ Reaches errMach (wordMach.readGpr 5) .store ⟨0x2008, 2⟩ ∧ AnswersErr errMach 0x2008 8) ∧
      (Reaches errMach (wordMach.readGpr 4 + 7) .store ⟨0x2007, 2⟩ ∧
        AnswersErr errMach (blockOf ⟨0x2007, 2⟩ 4) ((wordMach.readGpr 4 + 7).toNat % 4 + 1) ∧
        AnswersErr errMach 0x2007 (8 - (wordMach.readGpr 4 + 7).toNat % 8)) ∧
      wordMach.translate 0x10000 .store = .exc (.tlbRefill true 0x10000) := by
  refine ⟨?_, ?_, ?_, ?_, ?_, accesses_err.2.2, translations_raise.2⟩
  all_goals
    try unfold FpReady
    try unfold BlockReadable
    try unfold Readable
    try unfold Writable
    try unfold Reaches
    try unfold InMemory
    try unfold InRam
    try unfold AnswersErr
    decide +kernel

/-- Meets the hypotheses of MultimediaLanesAreIndependent. -/
theorem witness_MultimediaLanesAreIndependent :
    (MmiReady wordMach [1, 2, 31] ∧ MmiReady evenMach [0, 2, 4]) ∧ Fits 32 0x7FFFFFFF ∧ ¬ Fits 32 0x80000000 ∧
      (31#64).toNat % 128 ≤ 31 ∧ (63#64).toNat % 128 ≤ 63 := by
  unfold MmiReady FpReady Fits
  decide +kernel

/-- Meets the hypotheses of CoprocessorUnusableComesFirst. -/
theorem witness_CoprocessorUnusableComesFirst :
    (encode (.mfc0 2 12 0) = some 0x40026000 ∧ unitOf ((0x40026000#32).extractLsb' 26 6).toNat = some 0 ∧
        userMach.copUsable 0 = false) ∧
      (encode (.addS 2 1 3) = some 0x460208C0 ∧ unitOf ((0x460208C0#32).extractLsb' 26 6).toNat = some 1 ∧
        userMach.copUsable 1 = false) ∧
      (encode (.gslq 1 4 0 5) = some 0xC8240025 ∧ unitOf ((0xC8240025#32).extractLsb' 26 6).toNat = some 2 ∧
        userMach.copUsable 2 = false) ∧
      ¬ gateExcepted (.mfc0 2 12 0) ∧ userMach.cu 2 = false ∧ userMach.cu 1 = false ∧
      noFpMach.cu 2 = true ∧ noFpMach.cu 1 = false := by
  refine ⟨by decide +kernel, by decide +kernel, by decide +kernel, ?_, by decide +kernel⟩
  rintro ⟨a, b, c, h⟩
  cases h

/-- Meets the hypotheses of InterruptsPendingByMaskLevelAndEnable. -/
theorem witness_InterruptsPendingByMaskLevelAndEnable :
    ((mach []).coldReset = false ∧ (mach []).softReset = false ∧ (mach []).nmi = false) ∧
      (((mach []).cp0.debug).getLsbD 8 = false ∧
        ({ mach [] with cp0 := { (mach []).cp0 with debug := 0x02018100 } }.cp0.debug).getLsbD 8 = true) ∧
      (mach []).interruptPending = false ∧ intMach.interruptPending = true ∧
      ((mach []).exl = false ∧ (mach []).cp0.cause.getLsbD 23 = false) ∧
      (HighestRequest intMach 2 ∧ vectorSpacing intMach = 0 ∧ intMach.exl = false ∧
      intMach.cp0.cause.getLsbD 23 = true) ∧
      (HighestRequest busyMach 7 ∧ vectorSpacing busyMach = 16 ∧ busyMach.cp0.status.getLsbD 22 = false ∧
        busyMach.exl = false ∧ busyMach.cp0.cause.getLsbD 23 = true) ∧
      (vectorSpacing { busyMach with cp0 := { busyMach.cp0 with intCtl := 0xFC000060 } } = 3 ∧
        { busyMach with cp0 := { busyMach.cp0 with status := 0x7440FFE1 } }.cp0.status.getLsbD 22 = true) ∧
      ∃ s : State, s.interruptPending = true ∧ Config.maxRecognitionDelay ≤ s.intWait := by
  refine ⟨by decide +kernel, by decide +kernel, by decide +kernel, by decide +kernel, by decide +kernel,
    ⟨highest_two, by decide +kernel⟩, ⟨highest_seven, by decide +kernel⟩, by decide +kernel,
    { intMach with intWait := Config.maxRecognitionDelay }, ?_, le_refl _⟩
  show intMach.interruptPending = true
  decide +kernel

/-- Meets the hypotheses of ResetsGiveTheStatedValues. -/
theorem witness_ResetsGiveTheStatedValues :
    { mach [] with coldReset := true }.coldReset = true ∧
      ({ mach [] with softReset := true }.coldReset = false ∧ { mach [] with softReset := true }.softReset = true) ∧
      { mach [] with nmi := true }.nmi = true := by decide +kernel

/-- Meets the hypotheses of StepRunsTheDecodedInstruction. -/
theorem witness_StepRunsTheDecodedInstruction :
    ((mach []).coldReset = false ∧ (mach []).softReset = false ∧ (mach []).nmi = false ∧
        ((mach []).cp0.debug).getLsbD 8 = false ∧ (mach []).interruptPending = false) ∧
      ((mach []).opened.fetch = .ok (0, (mach []).opened) ∧ decode 0 = some .nop ∧
        exec .nop (mach []).opened = .next (mach []).opened.advance) ∧
      (Reaches (mach []).opened (mach []).opened.pc .fetch ⟨0x1000, 2⟩ ∧ InMemory (mach []).opened 0x1000 4) ∧
      (AnswersErr errMach 0x2004 4 ∧ ∃ s : State, Config.maxBufferDelay ≤ s.accelWait ∧ s.accel ≠ []) ∧
      decode 0x00000005 = none ∧
      { mach [] with pc := 2 }.opened.fetch = .exc (.addressError false 2) := by
  refine ⟨by decide +kernel, ⟨by rfl, by decide +kernel, rfl⟩, ?_, ?_, by decide +kernel, by rfl⟩
  · unfold Reaches InMemory
    decide +kernel
  · refine ⟨?_, { mach [] with accel := [⟨0x2000, 8, 7⟩], accelWait := Config.maxBufferDelay }, le_refl _, ?_⟩
    · unfold AnswersErr
      decide +kernel
    · simp

/-- Meets the hypotheses of the clauses of StepRunsTheDecodedInstruction on the end of a step. -/
theorem witness_StepRunsTheDecodedInstruction_tick :
    (CountsIn userMach 8 ∧ ¬ CountsIn userMach 6 ∧ CountsIn (mach []) 2 ∧ CountsIn exlMach 1 ∧
      ¬ CountsIn exlMach 14) ∧
      (MeetsWithin 5 5 5 ∧ MeetsWithin 0xFFFFFFFF 1 0 ∧ ¬ MeetsWithin 5 6 7) ∧
      (mach []).cp0.cause.getLsbD 27 = false ∧ (∃ s : State, Config.maxCountIdle ≤ s.countIdle) ∧
      ∃ s : State, Config.maxPerfIdle ≤ s.perf0Idle ∧ s.cp0.perfCnt0 ≠ BitVec.allOnes 64 := by
  refine ⟨by unfold CountsIn; decide +kernel, ⟨⟨0, by decide, by decide⟩, ⟨1, by decide, by decide⟩, ?_⟩, by decide +kernel,
    ⟨{ mach [] with countIdle := Config.maxCountIdle }, le_refl _⟩,
    { mach [] with perf0Idle := Config.maxPerfIdle }, le_refl _, by decide +kernel⟩
  rintro ⟨k, hk, h⟩
  have hk' : k ≤ 1 := hk
  interval_cases k <;> simp at h

/-- An instruction that is refused and one that faults, for the other two clauses. -/
theorem witness_StepRunsTheDecodedInstruction_stops :
    exec (.di 1) (mach []) = .refused .disabledInstruction ∧
      exec (.jalr 1 1) (mach []) = .fault .jalrSameRegister := ⟨rfl, rfl⟩

/-- Meets the hypotheses of DecodeInvertsEncode. -/
theorem witness_DecodeInvertsEncode :
    Instr.wellFormed (.lw 1 2 4) = true ∧ Instr.wellFormed (.sll 0 0 31) = true ∧
      decode 0x8C220004 = some (.lw 1 2 4) ∧ decode 0 = some .nop := by decide +kernel

/-- Meets the hypotheses of EveryStepKeepsTheInvariant. -/
theorem witness_EveryStepKeepsTheInvariant :
    State.invariant (mach []) = true ∧ ∃ t, step { mach [] with softReset := true } = .next t ∧
      State.invariant { mach [] with softReset := true } = true := ⟨by decide +kernel, _, rfl, by decide +kernel⟩

/-- Meets the hypotheses of UnprivilegedCodeChangesSystemStateOnlyByExceptions. -/
theorem witness_UnprivilegedCodeChangesSystemStateOnlyByExceptions :
    userMach.copUsable 0 = false ∧ ∃ t, exec (.addiu 1 2 3) userMach = .next t := ⟨by decide +kernel, _, rfl⟩

end Sys2Proof.Tests

end
end

section
/-!
PROOFS of 00_scope.md, first part: the instructions that the spec leaves without an effect (O39).
-/
namespace Sys2Proof.Machine

/-! ### The COP0 instructions without an effect -/

theorem exec_deret (s : State) : exec .deret s = needCop 0 s (.refused .debugMode) := rfl

theorem exec_di (rt : BitVec 5) (s : State) : exec (.di rt) s = needCop 0 s (.refused .disabledInstruction) := rfl

theorem exec_ei (rt : BitVec 5) (s : State) : exec (.ei rt) s = needCop 0 s (.refused .disabledInstruction) := rfl

end Sys2Proof.Machine

namespace Sys2Proof.Claims
open Sys2Proof.Machine

/-- Settles O39: the coprocessor check decides for DERET, DI and EI; the other instructions are refused by their
own arms. -/
theorem stopsTheSpecLeavesWithoutAnEffect : Obligations.StopsTheSpecLeavesWithoutAnEffect := by
  intro s code rt
  refine ⟨rfl, fun usable => ?_, fun unusable => ?_, ?_, ?_, ?_⟩
  · rw [exec_deret, exec_di, exec_ei]
    simp only [needCop_on usable, and_self]
  · unfold Takes
    rw [exec_deret, exec_di, exec_ei]
    simp only [needCop_off unusable, and_self]
  · simp only [List.forall_mem_cons]
    exact ⟨rfl, rfl, rfl, nofun⟩
  · simp only [List.forall_mem_cons]
    exact ⟨rfl, rfl, rfl, rfl, nofun⟩
  · simp only [List.forall_mem_cons]
    exact ⟨rfl, rfl, rfl, nofun⟩

end Sys2Proof.Claims
end

section
/-!
PROOFS of 00_scope.md, second part: what one step does, from the open drain to the tick (O55).
-/
namespace Sys2Proof.Machine
open Sys2Proof.Claims

/-! ### The state a step opens (20_memory.md rules R225, R232) -/

/-- Writing out the buffer brings all its stores to memory. -/
theorem State.received_drain (s : State) : s.received s.drain (s.accel, []) := ⟨s.readByte_drain, s.drain_accel⟩

/-- Either no buffered store reaches memory, or all do. -/
theorem State.drainOpen_cases (s : State) : s.drainOpen = s ∨ s.drainOpen = s.drain := by
  unfold State.drainOpen
  split
  · exact .inr rfl
  · exact .inl rfl

/-- A buffer that has waited the largest delay is empty after the open drain. -/
theorem State.received_drainOpen {s : State} (waited : Config.maxBufferDelay ≤ s.accelWait) :
    s.received s.drainOpen (s.accel, []) := by
  by_cases empty : s.accel = []
  · have stays : s.drainOpen = s := by simp [State.drainOpen, empty]
    rw [stays, empty]
    exact ⟨fun _ => rfl, empty⟩
  · have drains : s.drainOpen = s.drain := by simp [State.drainOpen, empty, waited]
    rw [drains]
    exact s.received_drain

@[simp] theorem State.opened_mem (s : State) : s.opened.mem = s.drainOpen.mem := by
  unfold State.opened
  dsimp only
  split <;> rfl

@[simp] theorem State.opened_accel (s : State) : s.opened.accel = s.drainOpen.accel := by
  unfold State.opened
  dsimp only
  split <;> rfl

/-- What reaches memory when a step opens is what the open drain brings there. -/
theorem State.received_opened (s : State) (w : List BufferedStore × List BufferedStore) :
    s.received s.opened w ↔ s.received s.drainOpen w := by
  simp only [State.received, State.opened_mem, State.opened_accel]

/-! ### An access that reaches its address (20_memory.md rule R221) -/

/-- What an access remembers is a colour. -/
theorem remembered_fields (s : State) (va : Dword) (g : Target) :
    Remembered s va g = { s with coloured := (Remembered s va g).coloured } := by
  unfold Remembered
  split <;> rfl

theorem remembered_physAt (s : State) (va : Dword) (g : Target) (a : Nat) :
    (Remembered s va g).physAt a = s.physAt a := by rw [remembered_fields]; rfl

theorem remembered_stale (s : State) (va : Dword) (g : Target) : (Remembered s va g).stale = s.stale := by
  rw [remembered_fields]

theorem remembered_wordAt (s : State) (va : Dword) (g : Target) (a : Nat) :
    (Remembered s va g).wordAt a = s.wordAt a := by rw [remembered_fields]; rfl

/-- A cached page without a clash of colours is remembered. -/
theorem noteCached_of_sameColour {s : State} {g : Target} {va : Dword}
    (same : g.cca = 3 → ∀ c ∈ s.coloured, c.page = g.pa.extractLsb' 12 36 → c.colour = va.extractLsb' 12 2) :
    s.noteCached g va = .ok (Remembered s va g) := by
  unfold State.noteCached Remembered
  by_cases cached : g.cca = 3
  · simp only [cached, bne_self_eq_false, Bool.false_eq_true, if_false, true_and]
    cases found : s.coloured.find? (fun c => c.page == g.pa.extractLsb' 12 36) with
    | none =>
      have fresh : ∀ c ∈ s.coloured, c.page ≠ g.pa.extractLsb' 12 36 := by simpa using found
      simp only [if_pos fresh]
    | some c =>
      have page : c.page = g.pa.extractLsb' 12 36 := by simpa using List.find?_some found
      have known : c ∈ s.coloured := List.mem_of_find?_eq_some found
      have seen : ¬ ∀ c ∈ s.coloured, c.page ≠ g.pa.extractLsb' 12 36 := fun fresh => fresh c known page
      simp only [same cached c known page, if_pos, if_neg seen]
  · rw [if_pos (by simpa using cached), if_neg (fun h => cached h.1)]

theorem reach_of_reaches {s : State} {va : Dword} {kind : AccessKind} {g : Target} (h : Reaches s va kind g) :
    s.reach va kind = .ok (g, Remembered s va g) :=
  State.reach_ok.2 ⟨h.1, noteCached_of_sameColour h.2⟩

/-- The bus error comes before every other answer of the host's map (60_exceptions.md rule R944). -/
theorem State.checkPhys_err {s : State} {a n : Nat} (store : Bool) (e : Exc) (h : AnswersErr s a n) :
    s.checkPhys a n store e = .exc e := if_pos (State.physKinds_contains.2 h)

/-! ### The fetch (00_scope.md rule R14, 20_memory.md rule R237) -/

/-- A stored instruction word is its four bytes, low byte first. -/
theorem State.wordAt_eq_storedWord (s : State) (a : Nat) : s.wordAt a = storedWord s a := by
  apply BitVec.eq_of_getLsbD_eq
  intro i hi
  unfold State.wordAt storedWord lowWord
  rw [BitVec.getLsbD_setWidth, readLE_getLsbD 4 s.mem a i (by omega)]
  simp only [BitVec.getLsbD_append, hi, decide_true, Bool.true_and]
  interval_cases i <;> rfl

/-- An open choice from a list that is not empty is one of its elements. -/
theorem getD_mod_mem {α : Type} (x : α) (l : List α) (n : Nat) (d : α) :
    (x :: l).getD (n % (x :: l).length) d ∈ x :: l := by
  rw [List.getD_eq_getElem _ _ (Nat.mod_lt n (List.length_pos_of_mem List.mem_cons_self))]
  exact List.getElem_mem _

/-- A fetch returns the stored word or one of its old values. -/
theorem State.fetchedWord_cases (s : State) (a : Nat) :
    s.fetchedWord a = s.wordAt a ∨ ∃ x ∈ s.stale, x.addr = a ∧ x.old = s.fetchedWord a := by
  have old {w : Word} (h : w ∈ s.oldWords a) : ∃ x ∈ s.stale, x.addr = a ∧ x.old = w := by
    simpa [State.oldWords, and_assoc] using h
  unfold State.fetchedWord
  split
  · exact .inl rfl
  · next w rest words =>
    dsimp only
    rcases List.mem_cons.1 (getD_mod_mem (s.wordAt a) (w :: rest) (s.free Slot.fetch).toNat _) with stored | isOld
    · exact .inl stored
    · exact .inr (old (words ▸ isOld))

/-- A word boundary, as the model tests it. -/
theorem setWidth_two_eq_zero_iff (v : Dword) : v.setWidth 2 = 0#2 ↔ v.toNat % 4 = 0 := by
  simp [← BitVec.toNat_inj]

theorem State.fetch_misaligned {s : State} (h : s.pc.toNat % 4 ≠ 0) :
    s.fetch = .exc (.addressError false s.pc) :=
  if_pos (mt (setWidth_two_eq_zero_iff s.pc).1 h)

/-- A fetch at a word boundary whose address is reached. -/
theorem State.fetch_of_reaches {s : State} {g : Target} (boundary : s.pc.toNat % 4 = 0)
    (reaches : Reaches s s.pc .fetch g) :
    s.fetch = ((Remembered s s.pc g).checkPhys g.pa.toNat 4 false .ibe).bind fun _ =>
      .ok ((Remembered s s.pc g).fetchedWord g.pa.toNat, Remembered s s.pc g) := by
  unfold State.fetch
  rw [if_neg (not_not_intro ((setWidth_two_eq_zero_iff s.pc).2 boundary)), reach_of_reaches reaches]
  rfl

/-- What a fetch at a word boundary gives (00_scope.md rule R14 steps 3 and 4). -/
theorem fetchGives_of_reaches {s : State} {g : Target} (boundary : s.pc.toNat % 4 = 0)
    (reaches : Reaches s s.pc .fetch g) : FetchGives s g := by
  constructor
  · intro mapped
    refine ⟨(Remembered s s.pc g).fetchedWord g.pa.toNat, ?_, ?_⟩
    · have answers : (Remembered s s.pc g).checkPhys g.pa.toNat 4 false .ibe = .ok () :=
        State.checkPhys_ok.2 fun i hi => by simpa [remembered_physAt] using mapped i hi
      rw [State.fetch_of_reaches boundary reaches, answers]
      rfl
    · have word := (Remembered s s.pc g).fetchedWord_cases g.pa.toNat
      rwa [remembered_wordAt, remembered_stale, State.wordAt_eq_storedWord] at word
  · intro err
    have answers : (Remembered s s.pc g).checkPhys g.pa.toNat 4 false .ibe = .exc .ibe :=
      State.checkPhys_err _ _ (by simpa only [AnswersErr, remembered_physAt] using err)
    rw [State.fetch_of_reaches boundary reaches, answers]
    rfl

/-! ### One step (00_scope.md rule R14) -/

/-- Without a reset input, a single step into debug mode or a pending interrupt, a step runs one instruction. -/
theorem step_eq_finishStep {s : State} (cold : s.coldReset = false) (soft : s.softReset = false)
    (nmi : s.nmi = false) (sst : (s.cp0.debug).getLsbD 8 = false) (quiet : s.interruptPending = false) :
    step s = finishStep s.opened s.opened.runInstruction := by
  simp only [step, State.singleSteps, cold, soft, nmi, sst, quiet, Bool.false_and, Bool.false_eq_true, if_false]

theorem State.runInstruction_decoded {s u : State} {w : Word} {i : Instr} (fetched : s.fetch = .ok (w, u))
    (decoded : decode w = some i) : s.runInstruction = exec i u := by
  simp only [State.runInstruction, fetched, Res.finish, decoded]

theorem State.runInstruction_unknown {s u : State} {w : Word} (fetched : s.fetch = .ok (w, u))
    (unknown : decode w = none) : s.runInstruction = u.unknownWord w := by
  simp only [State.runInstruction, fetched, Res.finish, unknown]

theorem State.runInstruction_exc {s : State} {e : Exc} (fetched : s.fetch = .exc e) :
    s.runInstruction = .next (s.takeException e) := by
  simp only [State.runInstruction, fetched, Res.finish, raise]

/-! ### A word that no instruction has (30_encoding.md rule R280, 60_exceptions.md rule R947) -/

/-- What an unknown word does where no coprocessor check stops it. -/
theorem State.unknownWord_unchecked {s : State} {w : Word}
    (h : ∀ n, opcodeUnit w = some n → s.copUsable n = true) :
    s.unknownWord w = .next (s.takeException .ri) ∨ s.unknownWord w = .refused .unknownWord := by
  unfold State.unknownWord
  cases unit : opcodeUnit w with
  | none => cases Config.unknownWordRaisesRI <;> simp [raise]
  | some n =>
    simp only [needCop_on (h n unit)]
    cases Config.unknownWordRaisesRI <;> simp [raise]

theorem State.unknownWord_unusable {s : State} {w : Word} {n : BitVec 2} (unit : opcodeUnit w = some n)
    (unusable : s.copUsable n = false) : s.unknownWord w = .next (s.takeException (.cpU n)) := by
  simp only [State.unknownWord, unit, needCop_off unusable]

/-- The unit by the number of the opcode. -/
theorem opcodeUnit_eq (w : Word) :
    opcodeUnit w =
      if (w.extractLsb' 26 6).toNat = 16 then some 0
      else if (w.extractLsb' 26 6).toNat = 17 ∨ (w.extractLsb' 26 6).toNat = 19 then some 1
      else none := by
  simp [opcodeUnit, ← BitVec.toNat_inj]

/-- What the step of a word does that no instruction has (log 18). -/
theorem unknownWord_of_step {s o u : State} {w : Word} (runs : step s = finishStep o (u.unknownWord w)) :
    UnknownWord s o u w := by
  have unit := opcodeUnit_eq w
  have reserved (h : ∀ n, opcodeUnit w = some n → u.copUsable n = true) :
      step s = .next ((u.takeException .ri).tick o) ∨ step s = .refused .unknownWord := by
    rcases State.unknownWord_unchecked h with e | e <;> rw [e] at runs
    · exact .inl runs
    · exact .inr runs
  have unusable {n : BitVec 2} (isUnit : opcodeUnit w = some n) (off : u.copUsable n = false) :
      step s = .next ((u.takeException (.cpU n)).tick o) := by
    rw [runs, State.unknownWord_unusable isUnit off]
    rfl
  unfold UnknownWord
  dsimp only
  split
  · next c => exact unusable (by rw [unit, if_pos c.1]) c.2
  · next notCop0 =>
    split
    · next c => exact unusable (by rw [unit, if_neg (by omega), if_pos c.1]) c.2
    · next notCop1 =>
      refine reserved fun n isUnit => ?_
      rw [unit] at isUnit
      split at isUnit
      · next op => cases isUnit; exact Bool.eq_true_of_not_eq_false fun off => notCop0 ⟨op, off⟩
      · split at isUnit
        · next op => cases isUnit; exact Bool.eq_true_of_not_eq_false fun off => notCop1 ⟨op, off⟩
        · cases isUnit

/-! ### The end of a step (00_scope.md rule R14 step 8) -/

/-- A performance counter counts as its enable bits say (11_cp0_registers.md rules R157, R160). -/
theorem State.counts_iff (s : State) (ctl : Word) : s.counts ctl = true ↔ CountsIn s ctl := by
  unfold State.counts CountsIn State.exl State.erl State.ksu
  cases s.cp0.status.getLsbD 2 with
  | true => simp
  | false =>
    cases s.cp0.status.getLsbD 1 with
    | true => simp
    | false => simp [and_comm, or_comm]

/-- Count meets Compare on the way (11_cp0_registers.md rules R111, R112). -/
theorem meetsCompare_iff (count compare amount : Word) :
    meetsCompare count compare amount = true ↔ MeetsWithin count (count + amount) compare := by
  have advanced : count + amount - count = amount := by bv_omega
  unfold meetsCompare MeetsWithin
  rw [decide_eq_true_iff, advanced, BitVec.le_def]
  constructor
  · intro within
    exact ⟨(compare - count).toNat, within, by rw [BitVec.ofNat_toNat, BitVec.setWidth_eq]; bv_omega⟩
  · rintro ⟨k, within, rfl⟩
    bv_omega

/-- Setting Cause.TI. -/
theorem putBit_ti (cause : Word) : putBit cause 30 true = cause ||| 0x40000000 := by
  apply BitVec.eq_of_getLsbD_eq
  intro i hi
  have field : fieldMask 32 30 1 = 0x40000000#32 := rfl
  have one : BitVec.ofNat 32 true.toNat <<< 30 = 0x40000000#32 := rfl
  simp only [putBit, putField, mergeBits, field, one, BitVec.getLsbD_or, BitVec.getLsbD_and, BitVec.getLsbD_not, hi]
  cases cause.getLsbD i <;> simp

/-- A counter that counts never decreases (11_cp0_registers.md rule R160). -/
theorem toNat_add_counterAmount_lt (cnt free : Dword) (idle : Nat) :
    cnt.toNat + (counterAmount cnt free idle).toNat < 2 ^ 64 := by
  have room : 0 < 2 ^ 64 - cnt.toNat := by omega
  have small := Nat.mod_lt free.toNat room
  unfold counterAmount
  dsimp only
  split
  · next forced =>
    rw [Bool.and_eq_true, Bool.and_eq_true, bne_iff_ne] at forced
    obtain ⟨⟨_, notLast⟩, _⟩ := forced
    have below : cnt.toNat ≠ 2 ^ 64 - 1 := fun e => notLast (BitVec.eq_of_toNat_eq (by rw [e, BitVec.toNat_allOnes]))
    show cnt.toNat + 1 < 2 ^ 64
    omega
  · rw [BitVec.toNat_ofNat]
    omega

/-- A counter below its largest value moves within a bound (log 57). -/
theorem counterAmount_ne_zero {cnt free : Dword} {idle : Nat} (waited : Config.maxPerfIdle ≤ idle)
    (notLast : cnt ≠ BitVec.allOnes 64) : counterAmount cnt free idle ≠ 0 := by
  unfold counterAmount
  dsimp only
  split
  · decide
  · next h =>
    intro zero
    exact h (by rw [decide_eq_true zero, decide_eq_true waited, bne_iff_ne.2 notLast]; rfl)

/-- How a performance counter moves in one step (60_exceptions.md rule R981; log 57). -/
theorem counterMoves_stoodStill (counts : Bool) (cnt free : Dword) (idle : Nat) :
    let amount := if counts then counterAmount cnt free idle else 0
    CounterMoves (counts = true) cnt (cnt + amount) idle (stoodStill counts amount idle) := by
  cases counts with
  | false => simp [CounterMoves, stoodStill]
  | true =>
    have still : cnt + counterAmount cnt free idle = cnt ↔ counterAmount cnt free idle = 0 := by
      constructor <;> intro h <;> bv_omega
    have bound := toNat_add_counterAmount_lt cnt free idle
    refine ⟨fun h => absurd rfl h, fun _ => ⟨?_, fun h => ?_, fun h => ?_, fun waited notLast => ?_⟩⟩
    · simp only [if_true, BitVec.toNat_add]; omega
    · exact if_pos (still.1 h)
    · exact if_neg (mt still.2 h)
    · exact mt still.1 (counterAmount_ne_zero waited notLast)

/-! #### Count and Random -/

/-- Count stands still with Cause.DC = 1 (11_cp0_registers.md rule R128). -/
theorem State.countAmount_stopped {t : State} (dc : t.cp0.cause.getLsbD 27 = true) : t.countAmount = 0 := by
  simp only [State.countAmount, dc, if_true]

/-- Count moves within a bound while it counts (log 57). -/
theorem State.countAmount_ne_zero {t : State} (dc : t.cp0.cause.getLsbD 27 = false)
    (waited : Config.maxCountIdle ≤ t.countIdle) : t.countAmount ≠ 0 := by
  unfold State.countAmount
  simp only [dc, Bool.false_eq_true, if_false]
  split
  · decide
  · next h => simpa [waited] using h

/-- Random goes down by one from above Wired (11_cp0_registers.md rule R93). -/
theorem nextRandom_eq (random wired : Word) :
    nextRandom random wired = if random.toNat ≤ wired.toNat then 63 else random - 1 := by
  simp only [nextRandom, BitVec.le_def]

theorem State.tick_cause (t s : State) :
    (t.tick s).cp0.cause =
      t.cp0.cause ||| (if meetsCompare t.cp0.count t.cp0.compare t.countAmount then 0x40000000 else 0) := by
  unfold State.tick
  dsimp only
  split
  · exact putBit_ti _
  · exact BitVec.or_zero.symm

theorem State.tick_count (t s : State) : (t.tick s).cp0.count = t.cp0.count + t.countAmount := rfl

theorem State.tick_countIdle (t s : State) :
    (t.tick s).countIdle =
      if t.countAmount = 0 ∧ t.cp0.cause.getLsbD 27 = false then t.countIdle + 1 else 0 := by
  simp only [State.tick, Bool.and_eq_true, decide_eq_true_eq, Bool.not_eq_true']

/-- What the end of a step changes. -/
theorem ticks_tick (o t : State) : Ticks o t (t.tick o) := by
  have still : t.cp0.count + t.countAmount = t.cp0.count ↔ t.countAmount = 0 := by
    constructor <;> intro h <;> bv_omega
  refine ⟨⟨meetsCompare t.cp0.count t.cp0.compare t.countAmount, meetsCompare_iff _ _ _, ?_⟩, fun stopped => ?_,
    fun runs => ⟨fun h => ?_, fun h => ?_, fun waited => ?_⟩, ?_, ?_⟩
  · rw [← nextRandom_eq, ← State.tick_cause t o]
    rfl
  · rw [State.tick_count, State.tick_countIdle, State.countAmount_stopped stopped, if_neg (by simp [stopped])]
    exact ⟨BitVec.add_zero _, rfl⟩
  · rw [State.tick_countIdle, if_pos ⟨still.1 h, runs⟩]
  · rw [State.tick_countIdle, if_neg fun zero => mt still.2 h zero.1]
  · exact mt still.1 (State.countAmount_ne_zero runs waited)
  · rw [← State.counts_iff]
    exact counterMoves_stoodStill _ _ _ _
  · rw [← State.counts_iff]
    exact counterMoves_stoodStill _ _ _ _

end Sys2Proof.Machine

namespace Sys2Proof.Claims
open Sys2Proof.Machine

/-- Settles O55: a step is the open drain, the fetch, the decoded instruction and the tick, each by its own law. -/
theorem stepRunsTheDecodedInstruction : Obligations.StepRunsTheDecodedInstruction := by
  intro s cold soft nmi sst quiet o
  have runs : step s = finishStep o o.runInstruction := step_eq_finishStep cold soft nmi sst quiet
  refine ⟨?_, ?_, ?_, fun boundary g => fetchGives_of_reaches boundary, fun w u i fetched decoded => ?_,
    fun w u fetched unknown => ?_, fun e fetched => ?_, fun off => ?_, ticks_tick o⟩
  · exact s.opened_fields
  · simp only [o, State.received_opened, State.opened_mem, State.opened_accel]
    rcases s.drainOpen_cases with e | e <;> rw [e]
    · exact .inl ⟨rfl, rfl⟩
    · exact .inr s.received_drain
  · intro waited
    exact (s.received_opened _).2 (State.received_drainOpen waited)
  · rw [runs, State.runInstruction_decoded fetched decoded]
    refine ⟨fun t h => ?_, fun f h => ?_, fun r h => ?_⟩ <;> rw [h] <;> rfl
  · exact unknownWord_of_step (runs.trans (by rw [State.runInstruction_unknown fetched unknown]))
  · rw [runs, State.runInstruction_exc fetched]
    rfl
  · have pc : o.pc = s.pc := s.opened_pc
    rw [← pc] at off ⊢
    exact State.fetch_misaligned off

end Sys2Proof.Claims
end

section
/-!
SUPPORT. Rounding to a floating-point format: the fields of a bit pattern, cutting a magnitude, the choice between
its neighbours, and the tests of the exponent (49_fpu.md rules R801 to R809; 10_state.md rule R58).
-/
namespace Sys2Proof.Machine
open Sys2Proof.Claims

/-! ### Bit patterns from their fields (49_fpu.md rule R801) -/

section Pack
variable {f : Fmt} {neg : Bool} {e frac : Nat}

theorem Fmt.pack_eq_frac_add : f.pack neg e frac = frac + (neg.toNat * 2 ^ f.expBits + e) * 2 ^ f.fracBits := by
  unfold Fmt.pack
  rw [pow_add]
  ring

theorem Fmt.pack_div (hf : frac < 2 ^ f.fracBits) :
    f.pack neg e frac / 2 ^ f.fracBits = e + neg.toNat * 2 ^ f.expBits := by
  rw [Fmt.pack_eq_frac_add, Nat.add_mul_div_right _ _ (by positivity), Nat.div_eq_of_lt hf]
  omega

theorem Fmt.fracField_pack (hf : frac < 2 ^ f.fracBits) : f.fracField (f.pack neg e frac) = frac := by
  rw [Fmt.fracField, Fmt.pack_eq_frac_add, Nat.add_mul_mod_self_right, Nat.mod_eq_of_lt hf]

theorem Fmt.expField_pack (he : e < 2 ^ f.expBits) (hf : frac < 2 ^ f.fracBits) :
    f.expField (f.pack neg e frac) = e := by
  rw [Fmt.expField, Fmt.pack_div hf, Nat.add_mul_mod_self_right, Nat.mod_eq_of_lt he]

theorem Fmt.sign_pack (he : e < 2 ^ f.expBits) (hf : frac < 2 ^ f.fracBits) :
    f.sign (f.pack neg e frac) = neg := by
  rw [Fmt.sign, Nat.testBit_eq_decide_div_mod_eq, Nat.add_comm, pow_add, ← Nat.div_div_eq_div_mul, Fmt.pack_div hf,
    Nat.add_mul_div_right _ _ (by positivity), Nat.div_eq_of_lt he]
  cases neg <;> rfl

theorem Fmt.pack_lt (he : e < 2 ^ f.expBits) (hf : frac < 2 ^ f.fracBits) :
    f.pack neg e frac < 2 ^ (f.expBits + f.fracBits + 1) := by
  have top : neg.toNat * 2 ^ f.expBits + e + 1 ≤ 2 * 2 ^ f.expBits := by cases neg <;> simp <;> omega
  calc f.pack neg e frac
      < (neg.toNat * 2 ^ f.expBits + e + 1) * 2 ^ f.fracBits := by rw [Fmt.pack_eq_frac_add]; linarith
    _ ≤ 2 * 2 ^ f.expBits * 2 ^ f.fracBits := Nat.mul_le_mul_right _ top
    _ = 2 ^ (f.expBits + f.fracBits + 1) := by ring

/-- A zero pattern is a zero of its sign. -/
theorem Fmt.toNum_zero (hE : 1 < f.expBits) : f.toNum (f.zero neg) = .fin neg 0 (1 - f.bias - f.fracBits) := by
  have he : 0 < 2 ^ f.expBits := by positivity
  have hf : 0 < 2 ^ f.fracBits := by positivity
  have : 2 ^ 1 < 2 ^ f.expBits := Nat.pow_lt_pow_right (by omega) hE
  simp only [Fmt.toNum, Fmt.zero, Fmt.expField_pack he hf, Fmt.fracField_pack hf, Fmt.sign_pack he hf]
  rw [if_neg (by omega), if_pos trivial]

/-- A pattern with an exponent field of a normal number has the hidden bit. -/
theorem Fmt.toNum_pack (he : 1 ≤ e) (he' : e < 2 ^ f.expBits - 1) (hf : frac < 2 ^ f.fracBits) :
    f.toNum (f.pack neg e frac) = .fin neg (2 ^ f.fracBits + frac) (e - f.bias - f.fracBits) := by
  have he'' : e < 2 ^ f.expBits := by omega
  simp only [Fmt.toNum, Fmt.expField_pack he'' hf, Fmt.fracField_pack hf, Fmt.sign_pack he'' hf]
  rw [if_neg he'.ne, if_neg (by omega)]

theorem Fmt.isDenormal_pack (he : 1 ≤ e) (he' : e < 2 ^ f.expBits) (hf : frac < 2 ^ f.fracBits) :
    f.isDenormal (f.pack neg e frac) = false := by
  simp [Fmt.isDenormal, Fmt.expField_pack he' hf, Nat.one_le_iff_ne_zero.mp he]

end Pack

/-- The largest exponent field stands for the exponent after the largest. -/
theorem Fmt.two_pow_expBits {f : Fmt} (hE : 0 < f.expBits) : (2 : ℤ) ^ f.expBits - 1 = f.bias + 1 + f.bias := by
  obtain ⟨n, hn⟩ := Nat.exists_eq_add_of_lt hE
  simp only [Fmt.bias, hn, Nat.zero_add, Nat.add_sub_cancel, pow_succ]
  ring

theorem Fmt.bias_nonneg (f : Fmt) : 0 ≤ f.bias := sub_nonneg.mpr (one_le_pow₀ one_le_two)

/-! ### Significands of full precision -/

/-- The significand has as many bits as the format's precision. -/
def Fmt.Normal (f : Fmt) (sig : Nat) : Prop := 2 ^ f.fracBits ≤ sig ∧ sig < 2 ^ f.precision

theorem Fmt.two_pow_precision (f : Fmt) : 2 ^ f.precision = 2 * 2 ^ f.fracBits := by
  rw [Fmt.precision, pow_succ, mul_comm]

section Normal
variable {f : Fmt} {sig : Nat} {e : ℤ}

theorem Fmt.Normal.two_pow_le (h : f.Normal sig) : (2 : ℝ) ^ (e + f.fracBits) ≤ sig * (2 : ℝ) ^ e := by
  have : (2 : ℝ) ^ f.fracBits ≤ sig := mod_cast h.1
  rw [zpow_add₀ two_ne_zero, zpow_natCast, mul_comm]
  gcongr

theorem Fmt.Normal.lt_two_pow (h : f.Normal sig) : sig * (2 : ℝ) ^ e < (2 : ℝ) ^ (e + f.fracBits + 1) := by
  have : (sig : ℝ) < (2 : ℝ) ^ (f.fracBits + 1) := mod_cast h.2
  calc sig * (2 : ℝ) ^ e < (2 : ℝ) ^ (f.fracBits + 1) * (2 : ℝ) ^ e := by gcongr
    _ = _ := by rw [← zpow_natCast, ← zpow_add₀ two_ne_zero]; push_cast; ring_nf

/-- The magnitude of a significand of full precision lies above a power of two as its exponent does. -/
theorem Fmt.Normal.two_pow_le_iff (h : f.Normal sig) {j : ℤ} :
    (2 : ℝ) ^ j ≤ sig * (2 : ℝ) ^ e ↔ j ≤ e + f.fracBits := by
  constructor
  · intro le
    have := (zpow_lt_zpow_iff_right₀ one_lt_two).mp (le.trans_lt (h.lt_two_pow (e := e)))
    omega
  · intro le
    exact (zpow_le_zpow_right₀ one_le_two le).trans h.two_pow_le

end Normal

/-! ### Cutting a magnitude to full precision -/

/-- What `roundMag` is told about the real magnitude `a`: it is `m`, or, with `sticky`, it lies between `m` and the
next integer. -/
def Spans (m : Nat) (sticky : Bool) (a : ℝ) : Prop := if sticky then (m : ℝ) < a ∧ a < m + 1 else a = m

section Spans
variable {m : Nat} {sticky : Bool} {a : ℝ}

theorem Spans.lt_natCast_iff (h : Spans m sticky a) (n : Nat) : a < n ↔ m < n := by
  cases sticky
  case false => rw [show a = m from h, Nat.cast_lt]
  case true =>
    obtain ⟨lo, hi⟩ : (m : ℝ) < a ∧ a < m + 1 := h
    constructor
    · exact fun lt => Nat.cast_lt.mp (lo.trans lt)
    · exact fun lt => hi.trans_le (mod_cast lt)

theorem Spans.eq_natCast_iff (h : Spans m sticky a) (n : Nat) : a = n ↔ m = n ∧ sticky = false := by
  cases sticky
  case false => rw [show a = m from h, Nat.cast_inj, and_iff_left rfl]
  case true =>
    obtain ⟨lo, hi⟩ : (m : ℝ) < a ∧ a < m + 1 := h
    refine iff_of_false (fun eq => ?_) (by simp)
    rw [eq] at lo hi
    have : m < n ∧ n < m + 1 := ⟨mod_cast lo, mod_cast hi⟩
    omega

theorem Spans.natCast_lt_iff (h : Spans m sticky a) (n : Nat) : (n : ℝ) < a ↔ n < m ∨ (m = n ∧ sticky = true) := by
  rw [lt_iff_not_ge, le_iff_lt_or_eq, h.lt_natCast_iff, h.eq_natCast_iff]
  cases sticky <;> simp <;> omega

end Spans

/-- What the integer part `q`, the rest `r` of `2 ^ k` and `sticky` say about the real magnitude `a`: all that
rounding looks at. -/
structure Leaves (q r k : Nat) (sticky : Bool) (a : ℝ) : Prop where
  le : (q : ℝ) ≤ a
  lt : a < q + 1
  exact_iff : a = q ↔ r = 0 ∧ sticky = false
  above_iff : 1 < 2 * (a - q) ↔ 2 ^ k < 2 * r ∨ (2 * r = 2 ^ k ∧ sticky = true)
  tie_iff : 2 * (a - q) = 1 ↔ 2 * r = 2 ^ k ∧ sticky = false

theorem Leaves.of_exact (q : Nat) : Leaves q 0 0 false q where
  le := le_rfl
  lt := lt_add_one _
  exact_iff := by simp
  above_iff := by norm_num
  tie_iff := by simp

/-- Dropping `k` bits leaves their value, and `sticky` stays below the last of them. -/
theorem Leaves.of_spans {q r k : Nat} {sticky : Bool} {a : ℝ} (hk : 1 ≤ k) (hr : r < 2 ^ k)
    (h : Spans (q * 2 ^ k + r) sticky (a * 2 ^ k)) : Leaves q r k sticky a := by
  obtain ⟨n, rfl⟩ := Nat.exists_eq_add_of_le' hk
  obtain ⟨P, hP⟩ : ∃ P : ℕ, 2 ^ n = P := ⟨_, rfl⟩
  have pos : (0 : ℝ) < P := by rw [← hP]; positivity
  obtain ⟨d, rfl⟩ : ∃ d : ℝ, a = q + d / (2 * P) := ⟨a * (2 * P) - q * (2 * P), by field_simp; ring⟩
  have twice : (2 : ℕ) ^ (n + 1) = 2 * P := by rw [pow_succ, hP, mul_comm]
  have dropped : Spans r sticky d := by
    have scaled : (q + d / (2 * P)) * (2 : ℝ) ^ (n + 1) = (q * 2 ^ (n + 1) : ℕ) + d := by
      push_cast
      rw [show (2 : ℝ) ^ (n + 1) = 2 * P by exact_mod_cast twice]
      field_simp
    rw [scaled] at h
    cases sticky <;> simp_all [Spans, add_assoc]
  rw [twice] at hr
  have half : 2 * ((q : ℝ) + d / (2 * P) - q) = d / P := by field_simp; ring
  have nonneg : 0 ≤ d := not_lt.mp fun neg => by simpa using (dropped.lt_natCast_iff 0).mp (mod_cast neg)
  have below : d < 2 * P := mod_cast (dropped.lt_natCast_iff (2 * P)).mpr hr
  have whole : d = 0 ↔ r = 0 ∧ sticky = false := mod_cast dropped.eq_natCast_iff 0
  constructor
  · exact le_add_of_nonneg_right (by positivity)
  · exact add_lt_add_right ((div_lt_one (by positivity)).mpr below) _
  · rw [add_eq_left, div_eq_zero_iff, or_iff_left (by positivity), whole]
  · rw [half, one_lt_div pos, twice, dropped.natCast_lt_iff, Nat.mul_left_cancel_iff two_pos,
      Nat.mul_lt_mul_left two_pos]
  · rw [half, div_eq_one_iff_eq pos.ne', twice, dropped.eq_natCast_iff, Nat.mul_left_cancel_iff two_pos]

/-- The parts of a cut magnitude: the significand has full precision, and `m` is what was cut apart. -/
theorem Fmt.truncate_spec (f : Fmt) {m : Nat} (hm : m ≠ 0) (e : ℤ) :
    ∃ q k r w, f.truncate m e = (q, k, r, w) ∧ f.Normal q ∧
      ((m < 2 ^ f.precision ∧ r = 0 ∧ w = 0 ∧ ∃ d : ℕ, q = m * 2 ^ d ∧ k = e - d) ∨
        (1 ≤ w ∧ r < 2 ^ w ∧ m = q * 2 ^ w + r ∧ k = e + w)) := by
  have lo : 2 ^ Nat.log2 m ≤ m := Nat.log2_self_le hm
  have hi : m < 2 ^ (Nat.log2 m + 1) := Nat.lt_log2_self
  unfold Fmt.truncate Fmt.Normal Fmt.precision
  dsimp only
  split
  next short =>
    obtain ⟨d, hd⟩ := Nat.exists_eq_add_of_le short
    have hF : f.fracBits = Nat.log2 m + d := by omega
    rw [hd, Nat.add_sub_cancel_left, hF, pow_add, pow_add]
    refine ⟨_, _, _, _, rfl, ⟨by gcongr, by gcongr⟩, .inl ⟨?_, rfl, rfl, d, rfl, rfl⟩⟩
    exact hi.trans_le (Nat.le_mul_of_pos_right _ (by positivity))
  next long =>
    obtain ⟨d, hd⟩ := Nat.exists_eq_add_of_lt (not_le.mp long)
    have hF : Nat.log2 m = f.fracBits + (d + 1) := by omega
    rw [hd, Nat.add_assoc _ d, Nat.add_sub_cancel_left]
    rw [hd, Nat.add_assoc _ d, pow_add] at hi
    rw [hF, pow_add] at lo
    refine ⟨_, _, _, _, rfl, ⟨?_, ?_⟩, .inr ⟨by omega, Nat.mod_lt _ (by positivity), ?_, rfl⟩⟩
    · exact (Nat.le_div_iff_mul_le (by positivity)).mpr lo
    · exact (Nat.div_lt_iff_lt_mul (by positivity)).mpr hi
    · exact (Nat.div_add_mod' _ _).symm

/-! ### The choice between the neighbours (10_state.md rule R58) -/

section Away
variable {q r k : Nat} {sticky : Bool} {a : ℝ}

theorem Leaves.floor_eq (h : Leaves q r k sticky a) : ⌊a⌋ = q := Int.floor_eq_iff.mpr ⟨h.le, h.lt⟩

theorem Leaves.ceil_eq (h : Leaves q r k sticky a) : ⌈a⌉ = q + if r != 0 || sticky then 1 else 0 := by
  rw [Int.ceil_eq_iff]
  by_cases e : r = 0 ∧ sticky = false
  · simp [e, h.exact_iff.mpr e]
  · have above : (q : ℝ) < a := lt_of_le_of_ne h.le (Ne.symm (mt h.exact_iff.mp e))
    have up : (r != 0 || sticky) = true := by simpa [imp_iff_not_or] using e
    simp [up, above, h.lt.le]

/-- To nearest, the magnitude goes up above the middle, and in the middle from an odd number. -/
theorem Leaves.away_nearest_iff (h : Leaves q r k sticky a) (neg : Bool) :
    Rounding.nearest.away neg q r k sticky = true ↔ 1 < 2 * (a - q) ∨ (2 * (a - q) = 1 ∧ q % 2 = 1) := by
  rw [h.above_iff, h.tie_iff]
  simp only [Rounding.away, Nat.testBit_zero, Bool.or_eq_true, Bool.and_eq_true, decide_eq_true_eq, beq_iff_eq]
  cases sticky <;> simp

theorem Leaves.nearest_even (h : Leaves q r k sticky a) (neg : Bool) :
    let t : Nat := q + if Rounding.nearest.away neg q r k sticky then 1 else 0
    2 * |(t : ℝ) - a| ≤ 1 ∧ (2 * |(t : ℝ) - a| = 1 → t % 2 = 0) := by
  have choice := h.away_nearest_iff neg
  by_cases away : Rounding.nearest.away neg q r k sticky = true
  · rw [if_pos away]
    push_cast
    rw [abs_of_nonneg (by linarith [h.lt])]
    obtain above | ⟨tie, odd⟩ := choice.mp away
    · exact ⟨by linarith, fun eq => absurd above (by linarith)⟩
    · exact ⟨by linarith, fun _ => by omega⟩
  · rw [if_neg away, Nat.add_zero]
    dsimp only
    rw [abs_sub_comm, abs_of_nonneg (by linarith [h.le])]
    obtain ⟨below, even⟩ := not_or.mp (mt choice.mpr away)
    exact ⟨by linarith, fun tie => by have := mt (And.intro tie) even; omega⟩

theorem abs_signed_sub {neg : Bool} {x : ℝ} (hneg : neg = true ↔ x < 0) (t : Nat) :
    |(signed neg t : ℝ) - x| = |(t : ℝ) - (|x|)| := by
  cases neg
  case false =>
    have nonneg : 0 ≤ x := by simpa using hneg
    rw [abs_of_nonneg nonneg]
    rfl
  case true =>
    rw [abs_of_neg (hneg.mp rfl), ← abs_neg]
    simp [signed, add_comm]

theorem signed_emod_two (neg : Bool) (t : Nat) : signed neg t % 2 = 0 ↔ t % 2 = 0 := by
  cases neg <;> simp [signed] <;> omega

/-- The magnitude rounded as `away` says, with the sign of the number, is the number rounded in the mode. -/
theorem Leaves.integerOf (rm : Rounding) {neg : Bool} {x : ℝ} (h : Leaves q r k sticky |x|)
    (hneg : neg = true ↔ x < 0) :
    IntegerOf rm x (signed neg (q + if rm.away neg q r k sticky then 1 else 0)) := by
  by_cases mode : rm = .nearest
  · obtain ⟨near, even⟩ := h.nearest_even neg
    rw [mode, IntegerOf, abs_signed_sub hneg, signed_emod_two]
    exact ⟨near, even⟩
  have floor := h.floor_eq
  have ceil := h.ceil_eq
  cases neg
  case false =>
    have nonneg : 0 ≤ x := by simpa using hneg
    rw [abs_of_nonneg nonneg] at floor ceil
    cases rm <;> simp_all [IntegerOf, signed, Rounding.away, nonneg.not_gt]
  case true =>
    have negative : x < 0 := hneg.mp rfl
    rw [abs_of_neg negative] at floor ceil
    rw [Int.floor_neg, neg_eq_iff_eq_neg] at floor
    rw [Int.ceil_neg, neg_eq_iff_eq_neg] at ceil
    cases rm <;> simp_all [IntegerOf, signed, Rounding.away]

/-- Rounding leaves exactly the magnitudes that nothing is left of. -/
theorem Leaves.rounded_eq_iff (h : Leaves q r k sticky a) (rm : Rounding) (neg : Bool) :
    ((q + if rm.away neg q r k sticky then 1 else 0 : ℕ) : ℝ) = a ↔ r = 0 ∧ sticky = false := by
  rw [← h.exact_iff]
  constructor
  · intro eq
    split at eq
    · exact absurd h.lt (by rw [← eq]; push_cast; exact lt_irrefl _)
    · exact eq.symm
  · intro eq
    obtain ⟨rfl, rfl⟩ := h.exact_iff.mp eq
    have keep : rm.away neg q 0 k false = false := by cases rm <;> simp [Rounding.away, (Nat.two_pow_pos k).ne]
    simp [keep, eq]

end Away

/-- The rounded significand in its binade. -/
theorem Fmt.stepBy_spec {f : Fmt} {q : Nat} (hq : f.Normal q) (k : ℤ) {n : ℕ} (hn : n ≤ 1) :
    ∃ sig e, f.stepBy q k n = (sig, e) ∧ f.Normal sig ∧ k ≤ e ∧ sig * (2 : ℝ) ^ e = (q + n : ℕ) * 2 ^ k := by
  obtain ⟨lo, hi⟩ := hq
  have two := f.two_pow_precision
  unfold Fmt.stepBy
  dsimp only
  rw [← Nat.cast_add]
  by_cases carry : 2 ^ f.precision ≤ q + n
  · have full : q + n = 2 ^ f.precision := by omega
    have sig : (((q + n : ℕ) : ℤ) - 2 ^ f.precision + 2 ^ f.fracBits).toNat = 2 ^ f.fracBits := by
      rw [full]
      push_cast
      rw [sub_self, zero_add]
      exact mod_cast Int.toNat_natCast (2 ^ f.fracBits)
    rw [if_pos (mod_cast carry), sig]
    refine ⟨_, _, rfl, ⟨le_rfl, by omega⟩, by omega, ?_⟩
    rw [full, two, zpow_add_one₀ two_ne_zero]
    push_cast
    ring
  · rw [if_neg (mod_cast carry), if_neg (mod_cast (by omega : ¬ q + n < 2 ^ f.fracBits)), Int.toNat_natCast]
    exact ⟨q + n, k, rfl, ⟨by omega, by omega⟩, le_rfl, rfl⟩

/-! ### Rounding a magnitude (49_fpu.md rule R804) -/

/-- A magnitude cut to full precision leaves what its number says. -/
theorem Fmt.truncate_leaves (f : Fmt) {m : Nat} (hm : m ≠ 0) (e : ℤ) {sticky : Bool} {a : ℝ}
    (spans : Spans m sticky (a / 2 ^ e)) (guard : sticky = true → 2 ^ f.precision ≤ m) :
    ∃ q k r w, f.truncate m e = (q, k, r, w) ∧ f.Normal q ∧ Leaves q r w sticky (a / 2 ^ k) := by
  obtain ⟨q, k, r, w, eq, normal, ⟨short, rfl, rfl, d, hq, rfl⟩ | ⟨hw, hr, rfl, rfl⟩⟩ := f.truncate_spec hm e
  · have notSticky : sticky = false := by
      by_contra h
      exact absurd (guard (by simpa using h)) (by omega)
    subst notSticky
    have whole : a / 2 ^ (e - d) = q := by
      rw [zpow_sub₀ two_ne_zero, div_div_eq_mul_div, mul_div_right_comm, show a / 2 ^ e = m from spans, hq]
      push_cast
      rw [zpow_natCast]
    exact ⟨q, _, 0, 0, eq, normal, whole ▸ Leaves.of_exact q⟩
  · refine ⟨q, _, r, w, eq, normal, Leaves.of_spans hw hr ?_⟩
    rw [zpow_add₀ two_ne_zero, zpow_natCast, div_mul_eq_div_div, div_mul_cancel₀ _ (by positivity)]
    exact spans

theorem abs_valueOf (neg : Bool) (m : Nat) (e : ℤ) :
    |((valueOf (.fin neg m e) : ℚ) : ℝ)| = m * (2 : ℝ) ^ e := by
  have : 0 ≤ m * (2 : ℝ) ^ e := by positivity
  cases neg <;> simp [valueOf, abs_of_nonneg, this]

theorem valueOf_eq_signed (neg : Bool) (m : Nat) (e : ℤ) :
    ((valueOf (.fin neg m e) : ℚ) : ℝ) = signed neg m * (2 : ℝ) ^ e := by
  cases neg <;> simp [valueOf, signed]

/-- The number of sign `neg`, significand `sig` and exponent `e` is the real number `x` rounded to full precision
with unbounded exponents: an integer multiple of the unit `2 ^ k` of `x`'s binade, which is not above the result's. -/
structure Rounded (f : Fmt) (rm : Rounding) (x : ℝ) (neg : Bool) (sig : Nat) (e : ℤ) : Prop where
  normal : f.Normal sig
  unit : ∃ k t : ℤ, k ≤ e ∧ (2 : ℝ) ^ f.fracBits * (2 : ℝ) ^ k ≤ |x| ∧
    |x| < (2 : ℝ) ^ (f.fracBits + 1) * (2 : ℝ) ^ k ∧ IntegerOf rm (x / (2 : ℝ) ^ k) t ∧
    ((valueOf (.fin neg sig e) : ℚ) : ℝ) = t * (2 : ℝ) ^ k

/-- What `roundMag` does before the tests of the exponent: it rounds, and tells whether that changed the number. -/
theorem Fmt.roundMag_eq_finish (f : Fmt) (env : FpEnv) {neg : Bool} {m : Nat} (hm : m ≠ 0) {e : ℤ} {sticky : Bool}
    {x : ℝ} (hneg : neg = true ↔ x < 0) (spans : Spans m sticky (|x| / 2 ^ e))
    (guard : sticky = true → 2 ^ f.precision ≤ m) :
    ∃ sig e' changed, f.roundMag env neg m e sticky = f.finish env neg sig e' (inexact changed) ∧
      Rounded f env.rounding x neg sig e' ∧
      (changed = false ↔ ((valueOf (.fin neg sig e') : ℚ) : ℝ) = x) := by
  obtain ⟨q, k, r, w, cut, normal, leaves⟩ := f.truncate_leaves hm e spans guard
  have pos : (0 : ℝ) < 2 ^ k := by positivity
  have scaled : |x| / 2 ^ k = |x / 2 ^ k| := by rw [abs_div, abs_of_pos pos]
  have sign : neg = true ↔ x / 2 ^ k < 0 := by rw [hneg, div_neg_iff]; simp [pos, pos.not_gt]
  obtain ⟨n, hn⟩ : ∃ n : ℕ, n = if env.rounding.away neg q r w sticky then 1 else 0 := ⟨_, rfl⟩
  obtain ⟨sig, e', step, normal', le, same⟩ := Fmt.stepBy_spec normal k (n := n) (by rw [hn]; split <;> omega)
  have value : ((valueOf (.fin neg sig e') : ℚ) : ℝ) = (signed neg (q + n) : ℤ) * (2 : ℝ) ^ k := by
    rw [valueOf_eq_signed]
    cases neg
    case false => exact same
    case true =>
      simp only [signed, if_true]
      push_cast at same ⊢
      linarith
  refine ⟨sig, e', r != 0 || sticky, ?_, ⟨normal', k, signed neg (q + n), le, ?_, ?_, ?_, value⟩, ?_⟩
  · rw [hn] at step
    push_cast at step
    rw [Fmt.roundMag, if_neg hm, cut]
    dsimp only
    rw [step]
  · have low : ((2 ^ f.fracBits : ℕ) : ℝ) ≤ |x| / 2 ^ k := (Nat.cast_le.mpr normal.1).trans leaves.le
    exact (le_div_iff₀ pos).mp (mod_cast low)
  · have high : |x| / 2 ^ k < ((2 ^ (f.fracBits + 1) : ℕ) : ℝ) := leaves.lt.trans_le (mod_cast normal.2)
    exact (div_lt_iff₀ pos).mp (mod_cast high)
  · rw [scaled] at leaves
    exact hn ▸ leaves.integerOf env.rounding sign
  · have kept := leaves.rounded_eq_iff env.rounding neg
    rw [← hn, scaled, ← sub_eq_zero, ← abs_eq_zero, ← abs_signed_sub sign, abs_eq_zero, sub_eq_zero] at kept
    rw [value, ← eq_div_iff pos.ne', kept]
    simp

/-! ### The tests for a tiny and for a too large number (49_fpu.md rules R806, R807, R809) -/

/-- The default results of the statements are the bit patterns of the format. -/
structure Describes (f : Fmt) (k : Encodings) : Prop where
  expBits : 1 < f.expBits
  inf : k.inf = f.infinity
  largest : k.largest = f.largest
  smallest : k.smallest = f.smallestNormal
  zero : k.zero = f.zero

theorem describes_of_mem_formats {p : Fmt × Encodings} (h : p ∈ formats) : Describes p.1 p.2 := by
  simp only [formats, List.mem_cons, List.not_mem_nil, or_false] at h
  rcases h with rfl | rfl
  all_goals exact ⟨by decide, by funext n; cases n <;> rfl, by funext n; cases n <;> rfl,
      by funext n; cases n <;> rfl, by funext n; cases n <;> rfl⟩

section Finish
variable {f : Fmt} {K : Encodings} {env : FpEnv} {neg : Bool} {sig : Nat} {e : ℤ} {c : Conds}

theorem Describes.overflow_eq (d : Describes f K) (rm : Rounding) (neg : Bool) :
    f.overflow rm neg = ⟨condO ||| condI, overflowDefault K rm neg⟩ := by
  cases rm <;> cases neg <;> simp [Fmt.overflow, overflowDefault, d.inf, d.largest]

theorem Describes.tiny_flush (d : Describes f K) (flush : env.flush = true) (neg : Bool) :
    f.tiny env neg = ⟨condU ||| condI, tinyDefault K env.rounding neg⟩ := by
  rw [Fmt.tiny, if_pos flush]
  cases env.rounding <;> cases neg <;> simp [tinyDefault, d.zero, d.smallest]

theorem Fmt.tiny_conds (noFlush : env.flush = false) : (f.tiny env neg).conds = condE := by
  simp [Fmt.tiny, noFlush]

/-- A significand of full precision whose exponent fits is packed into the pattern that stands for it. -/
theorem Fmt.Normal.finish_fits (normal : f.Normal sig) (c : Conds) (low : 1 ≤ e + f.fracBits + f.bias)
    (high : e + f.fracBits + f.bias < 2 ^ f.expBits - 1) :
    let o := f.finish env neg sig e c
    o.conds = c ∧ o.bits < 2 ^ (f.expBits + f.fracBits + 1) ∧ f.isDenormal o.bits = false ∧
      f.toNum o.bits = .fin neg sig e := by
  obtain ⟨lo, hi⟩ := normal
  obtain ⟨b, hb⟩ := Int.eq_ofNat_of_zero_le (by omega : 0 ≤ e + f.fracBits + f.bias)
  have two := f.two_pow_precision
  have frac : sig - 2 ^ f.fracBits < 2 ^ f.fracBits := by omega
  unfold Fmt.finish
  dsimp only
  rw [if_neg (by omega), if_neg (by omega), hb, Int.toNat_natCast]
  rw [hb] at low high
  have low' : 1 ≤ b := by omega
  have high' : b < 2 ^ f.expBits - 1 := by
    have : (b : ℤ) + 1 < (2 ^ f.expBits : ℕ) := by push_cast; omega
    omega
  refine ⟨rfl, Fmt.pack_lt (by omega) frac, Fmt.isDenormal_pack low' (by omega) frac, ?_⟩
  rw [Fmt.toNum_pack low' high' frac]
  congr 1 <;> omega

/-- The exponent decides whether a number is tiny, too large, or packed. -/
theorem Fmt.finish_tiny (tiny : e + f.fracBits + f.bias < 1) : f.finish env neg sig e c = f.tiny env neg :=
  if_pos tiny

theorem Describes.finish_overflow (d : Describes f K) (large : f.bias + 1 ≤ e + f.fracBits) :
    f.finish env neg sig e c = ⟨condO ||| condI, overflowDefault K env.rounding neg⟩ := by
  have top := Fmt.two_pow_expBits (f := f) (by have := d.expBits; omega)
  have := f.bias_nonneg
  unfold Fmt.finish
  dsimp only
  rw [if_neg (by omega), if_pos (by omega), d.overflow_eq]

theorem inexact_eq_zero_iff {b : Bool} : inexact b = 0 ↔ b = false := by cases b <;> decide

theorem Fmt.tiny_conds_cases : (f.tiny env neg).conds = condU ||| condI ∨ (f.tiny env neg).conds = condE := by
  cases flush : env.flush <;> simp [Fmt.tiny, flush]

theorem Fmt.overflow_conds (rm : Rounding) : (f.overflow rm neg).conds = condO ||| condI := rfl

/-- A result that signals nothing or only Inexact is the packed number. -/
theorem Fmt.Normal.toNum_finish (normal : f.Normal sig)
    (quiet : (f.finish env neg sig e c).conds = 0 ∨ (f.finish env neg sig e c).conds = condI) :
    f.toNum (f.finish env neg sig e c).bits = .fin neg sig e ∧ (f.finish env neg sig e c).conds = c := by
  have notTiny : ¬ e + f.fracBits + f.bias < 1 := fun tiny => by
    rw [Fmt.finish_tiny tiny] at quiet
    rcases Fmt.tiny_conds_cases (f := f) (env := env) (neg := neg) with h | h <;>
      simp [h, condE, condU, condI] at quiet
  have notLarge : ¬ (2 : ℤ) ^ f.expBits - 1 ≤ e + f.fracBits + f.bias := fun large => by
    rw [Fmt.finish, if_neg notTiny, if_pos large, Fmt.overflow_conds] at quiet
    simp [condO, condI] at quiet
  obtain ⟨conds, -, -, num⟩ :=
    normal.finish_fits (env := env) (neg := neg) c (not_lt.mp notTiny) (not_le.mp notLarge)
  exact ⟨num, conds⟩

/-- The tests after rounding give the rows of the table. -/
theorem Rounded.roundsByTable (d : Describes f K) {x : ℝ} (h : Rounded f env.rounding x neg sig e)
    (hneg : neg = true ↔ x < 0) {changed : Bool}
    (same : changed = false ↔ ((valueOf (.fin neg sig e) : ℚ) : ℝ) = x) :
    RoundsByTable f K env (f.finish env neg sig e (inexact changed)) x := by
  intro _
  obtain ⟨k, t, -, low, high, integer, value⟩ := h.unit
  refine ⟨_, neg, ⟨k, t, low, high, integer, value⟩, hneg, ?_⟩
  simp only [abs_valueOf, ← not_le (b := (sig : ℝ) * 2 ^ e), h.normal.two_pow_le_iff, not_le]
  refine ⟨fun tiny flush => ?_, fun tiny noFlush => ?_, fun large => ?_, fun notTiny notLarge => ?_⟩
  · rw [Fmt.finish_tiny (by omega), d.tiny_flush flush]
  · rw [Fmt.finish_tiny (by omega), Fmt.tiny_conds noFlush]
  · exact d.finish_overflow large
  · have top := Fmt.two_pow_expBits (f := f) (by have := d.expBits; omega)
    obtain ⟨conds, bound, normal, num⟩ := h.normal.finish_fits (env := env) (neg := neg) (inexact changed)
      (e := e) (by omega) (by omega)
    refine ⟨fun eq => ?_, fun ne => ?_, bound, _, ⟨normal, sig, e, num, rfl⟩, rfl⟩
    · rw [conds, same.mpr eq]
      rfl
    · rw [conds, Bool.eq_true_of_not_eq_false (mt same.mp ne)]
      rfl

end Finish

/-! ### How far rounding moves a number -/

/-- A rounded integer is less than one away, on the side of the mode, and to nearest at most a half. -/
theorem integerOf_near {rm : Rounding} {r : ℝ} {t : ℤ} (h : IntegerOf rm r t) :
    |(t : ℝ) - r| < 1 ∧ (rm = .nearest → 2 * |(t : ℝ) - r| ≤ 1) ∧ (rm = .zero → |(t : ℝ)| ≤ |r|) ∧
      (rm = .up → r ≤ t) ∧ (rm = .down → t ≤ r) := by
  have below := Int.floor_le r
  have above := Int.le_ceil r
  have floor := Int.lt_floor_add_one r
  have ceil := Int.ceil_lt_add_one r
  cases rm
  case nearest => exact ⟨by linarith [h.1], fun _ => h.1, nofun, nofun, nofun⟩
  case zero =>
    by_cases negative : r < 0
    · have t_eq : t = ⌈r⌉ := h.trans (if_pos negative)
      have : (⌈r⌉ : ℝ) ≤ 0 := mod_cast Int.ceil_le.mpr (mod_cast negative.le)
      rw [t_eq, abs_of_nonpos this, abs_of_neg negative]
      exact ⟨by rw [abs_lt]; constructor <;> linarith, nofun, fun _ => by linarith, nofun, nofun⟩
    · have t_eq : t = ⌊r⌋ := h.trans (if_neg negative)
      have : (0 : ℝ) ≤ ⌊r⌋ := mod_cast Int.floor_nonneg.mpr (not_lt.mp negative)
      rw [t_eq, abs_of_nonneg this, abs_of_nonneg (not_lt.mp negative)]
      exact ⟨by rw [abs_lt]; constructor <;> linarith, nofun, fun _ => below, nofun, nofun⟩
  case up =>
    rw [show t = ⌈r⌉ from h]
    exact ⟨by rw [abs_lt]; constructor <;> linarith, nofun, nofun, fun _ => above, nofun⟩
  case down =>
    rw [show t = ⌊r⌋ from h]
    exact ⟨by rw [abs_lt]; constructor <;> linarith, nofun, nofun, nofun, fun _ => below⟩

/-- So is the rounded number, in units of its last place. -/
theorem Rounded.near {f : Fmt} {rm : Rounding} {x : ℝ} {neg : Bool} {sig : Nat} {e : ℤ}
    (h : Rounded f rm x neg sig e) :
    let y : ℝ := (valueOf (.fin neg sig e) : ℚ)
    |y - x| < 2 ^ e ∧ (rm = .nearest → 2 * |y - x| ≤ 2 ^ e) ∧ (rm = .zero → |y| ≤ |x|) ∧
      (rm = .up → x ≤ y) ∧ (rm = .down → y ≤ x) := by
  obtain ⟨k, t, le, -, -, integer, value⟩ := h.unit
  have pos : (0 : ℝ) < 2 ^ k := by positivity
  have unit : (2 : ℝ) ^ k ≤ 2 ^ e := zpow_le_zpow_right₀ one_le_two le
  obtain ⟨r, rfl⟩ : ∃ r : ℝ, x = r * 2 ^ k := ⟨x / 2 ^ k, by field_simp⟩
  rw [mul_div_cancel_right₀ r pos.ne'] at integer
  obtain ⟨within, nearest, zero, up, down⟩ := integerOf_near integer
  dsimp only
  rw [value, ← sub_mul]
  simp only [abs_mul, abs_of_pos pos]
  refine ⟨?_, fun mode => ?_, fun mode => ?_, fun mode => ?_, fun mode => ?_⟩
  · calc |(t : ℝ) - r| * 2 ^ k < 1 * 2 ^ k := by gcongr
      _ ≤ 2 ^ e := by rwa [one_mul]
  · calc 2 * (|(t : ℝ) - r| * 2 ^ k) = 2 * |(t : ℝ) - r| * 2 ^ k := by ring
      _ ≤ 1 * 2 ^ k := by gcongr; exact nearest mode
      _ ≤ 2 ^ e := by rwa [one_mul]
  · exact mul_le_mul_of_nonneg_right (zero mode) pos.le
  · gcongr
    exact up mode
  · gcongr
    exact down mode

/-! ### Rounding an exact number -/

/-- The sign of a number that is not zero. -/
theorem valueOf_lt_zero_iff {neg : Bool} {m : Nat} (hm : m ≠ 0) (e : ℤ) :
    neg = true ↔ ((valueOf (.fin neg m e) : ℚ) : ℝ) < 0 := by
  have : 0 < (m : ℝ) * 2 ^ e := by positivity
  cases neg <;> simp [valueOf, this, this.le]

theorem valueOf_eq_zero_iff {neg : Bool} {m : Nat} {e : ℤ} : valueOf (.fin neg m e) = 0 ↔ m = 0 := by
  cases neg <;> simp [valueOf, zpow_ne_zero]

/-- An exact number, not zero, is rounded, and `finish` tests what that gives. -/
theorem Fmt.round_eq_finish (f : Fmt) (env : FpEnv) (neg : Bool) {m : Nat} (hm : m ≠ 0) (e : ℤ) :
    let x : ℝ := (valueOf (.fin neg m e) : ℚ)
    ∃ sig e' changed, f.round env (.fin neg m e) = f.finish env neg sig e' (inexact changed) ∧
      Rounded f env.rounding x neg sig e' ∧ (changed = false ↔ ((valueOf (.fin neg sig e') : ℚ) : ℝ) = x) := by
  have spans : Spans m false (|((valueOf (.fin neg m e) : ℚ) : ℝ)| / 2 ^ e) := by
    rw [abs_valueOf, mul_div_cancel_right₀ _ (by positivity)]
    rfl
  exact f.roundMag_eq_finish env hm (valueOf_lt_zero_iff hm e) spans nofun

theorem Fmt.round_zero (f : Fmt) (env : FpEnv) (neg : Bool) (e : ℤ) :
    f.round env (.fin neg 0 e) = ⟨0, f.zero neg⟩ := rfl

/-- Rounding follows the table. -/
theorem Describes.resultOf_round {f : Fmt} {K : Encodings} (d : Describes f K) (env : FpEnv) (neg : Bool) (m : Nat)
    (e : ℤ) :
    ResultOf f K env (f.round env (.fin neg m e)) neg ((valueOf (.fin neg m e) : ℚ) : ℝ) := by
  constructor
  · intro zero
    obtain rfl := valueOf_eq_zero_iff.mp (Rat.cast_eq_zero.mp zero)
    rw [f.round_zero, d.zero]
  · intro nonzero
    have hm : m ≠ 0 := mt valueOf_eq_zero_iff.mpr (mt Rat.cast_eq_zero.mpr nonzero)
    obtain ⟨sig, e', changed, eq, rounded, same⟩ := f.round_eq_finish env neg hm e
    rw [eq]
    exact rounded.roundsByTable d (valueOf_lt_zero_iff hm e) same nonzero

end Sys2Proof.Machine
end

section
/-!
PROOFS of 10_state.md: the rounding function (O44), and the invariant at reset (O59).
-/
namespace Sys2Proof.Machine

theorem State.invariant_iff (s : State) :
    s.invariant = true ↔ Memory.wf s.mem = true ∧ s.bufferBounded = true ∧ s.cp0.reservedClear = true ∧
      s.fcsrClear = true ∧ s.sequential = true := by
  simp only [State.invariant, Bool.and_eq_true, and_assoc]

end Sys2Proof.Machine

namespace Sys2Proof.Claims
open Sys2Proof.Machine

/-- Settles O44: `finish` gives the rows of the table for the rounded number, and a result that signals nothing or
only Inexact is that number, packed, as near as the rounding of its significand. -/
theorem roundedResultsAreExactOrWithinOneUnit : Obligations.RoundedResultsAreExactOrWithinOneUnit := by
  intro p hp env neg m e
  have d := describes_of_mem_formats hp
  refine ⟨d.resultOf_round env neg m e, ?_⟩
  by_cases hm : m = 0
  · subst hm
    rw [p.1.round_zero]
    refine ⟨fun _ => ⟨_, _, Fmt.toNum_zero d.expBits, ?_⟩, nofun⟩
    rw [valueOf_eq_zero_iff.mpr rfl, valueOf_eq_zero_iff.mpr rfl]
  · obtain ⟨sig, e', changed, eq, rounded, same⟩ := p.1.round_eq_finish env neg hm e
    dsimp only
    rw [eq]
    refine ⟨fun quiet => ?_, fun quiet => ?_⟩
    · obtain ⟨num, conds⟩ := rounded.normal.toNum_finish (.inl quiet)
      exact ⟨sig, e', num, Rat.cast_injective (same.mp (inexact_eq_zero_iff.mp (conds ▸ quiet)))⟩
    · obtain ⟨num, -⟩ := rounded.normal.toNum_finish (.inr quiet)
      refine ⟨sig, e', num, ?_⟩
      have near := rounded.near
      have unit : (2 : ℝ) ^ e' = ((2 ^ e' : ℚ) : ℝ) := by push_cast; rfl
      dsimp only at near
      rw [unit] at near
      exact_mod_cast near

/-- Settles O59: memory and store buffer are empty at reset, and the registers have their reset values. -/
theorem resetHasTheInvariant : Obligations.ResetHasTheInvariant := by
  unfold Obligations.ResetHasTheInvariant
  rw [State.invariant_iff]
  have reserved : Cp0.reset.reservedClear = true := by decide
  exact ⟨rfl, rfl, reserved, by decide, by decide⟩

end Sys2Proof.Claims
end

section
/-!
SUPPORT. The reserved and fixed bits of the CP0 registers and of FCSR: what keeps bits clear, and what the model's
updates of these registers leave of them (11_cp0_registers.md rule R177; 10_state.md rule R53).
-/
namespace Sys2Proof.Machine

/-! ### Clear bits -/

theorem clearIn_iff {w : Nat} {v r : BitVec w} : clearIn v r = true ↔ v &&& r = 0 := by
  simp only [clearIn, beq_iff_eq]

/-- A merge of other bits leaves the reserved ones clear. -/
theorem clearIn_mergeBits_of {w : Nat} {mask old v r : BitVec w} (apart : mask &&& r = 0)
    (h : clearIn old r = true) : clearIn (mergeBits mask old v) r = true := by
  have same := clearIn_mergeBits (old := old) (v := v) (k := 0#w) apart
  rw [BitVec.xor_zero, BitVec.xor_zero] at same
  exact same.trans h

theorem clearIn_or {w : Nat} {a b r : BitVec w} (ha : clearIn a r = true) (hb : clearIn b r = true) :
    clearIn (a ||| b) r = true := by
  rw [clearIn_iff] at ha hb ⊢
  rw [BitVec.and_comm, BitVec.and_or_distrib_left, BitVec.and_comm r, BitVec.and_comm r, ha, hb,
    BitVec.ofNat_eq_ofNat, BitVec.or_zero]

/-- A value cut to a mask is clear outside the mask. -/
theorem clearIn_and {w : Nat} {v mask r : BitVec w} (apart : mask &&& r = 0) : clearIn (v &&& mask) r = true := by
  rw [clearIn_iff, BitVec.and_assoc, apart, BitVec.ofNat_eq_ofNat, BitVec.and_zero]

/-- The fixed bits of a value joined with other bits. -/
theorem clearIn_or_xor {w : Nat} {v b k r : BitVec w} (hv : clearIn (v ^^^ k) r = true) (hb : clearIn b r = true) :
    clearIn ((v ||| b) ^^^ k) r = true := by
  rw [clearIn_iff] at hv hb ⊢
  ext i hi
  have bv := congrArg (fun x : BitVec w => x[i]) hv
  have bb := congrArg (fun x : BitVec w => x[i]) hb
  simp only [BitVec.getElem_and, BitVec.getElem_or, BitVec.getElem_xor, BitVec.ofNat_eq_ofNat, BitVec.getElem_zero]
    at bv bb ⊢
  cases hr : r[i] <;> simp_all

theorem clearIn_append {m n : Nat} {a ra : BitVec m} {b rb : BitVec n} (ha : clearIn a ra = true)
    (hb : clearIn b rb = true) : clearIn (a ++ b) (ra ++ rb) = true := by
  rw [clearIn_iff] at ha hb ⊢
  rw [BitVec.and_append, ha, hb]
  exact BitVec.zero_append_zero

theorem clearIn_zero {w : Nat} (v : BitVec w) : clearIn v 0 = true := clearIn_iff.2 BitVec.and_zero

/-- A field of `n` bits moved up to bit `lo` has no bit outside its place. -/
theorem clearIn_shiftLeft {n w lo : Nat} {r : BitVec w} (v : BitVec n) (apart : fieldMask w lo n &&& r = 0) :
    clearIn (v.setWidth w <<< lo) r = true := by
  have inside : v.setWidth w <<< lo = v.setWidth w <<< lo &&& fieldMask w lo n := by
    apply BitVec.eq_of_getLsbD_eq
    intro i hi
    simp only [fieldMask, BitVec.getLsbD_and, BitVec.getLsbD_shiftLeft, BitVec.getLsbD_setWidth, BitVec.getLsbD_ofNat,
      Nat.testBit_mul_two_pow, Nat.testBit_two_pow_sub_one]
    by_cases place : i - lo < n
    · by_cases above : lo ≤ i <;> simp [place, above, hi]
    · simp [BitVec.getLsbD_of_ge v (i - lo) (by omega)]
  rw [inside]
  exact clearIn_and apart

/-- A 6-bit number in a word (Random): the bits above are clear. -/
theorem clearIn_above_six_iff (v : Word) : clearIn v 0xFFFFFFC0#32 = true ↔ v.toNat < 64 := by
  have low : (v &&& 63#32).toNat = v.toNat % 64 := by
    rw [BitVec.toNat_and]
    exact Nat.and_two_pow_sub_one_eq_mod v.toNat 6
  rw [clearIn_iff]
  constructor
  · intro clear
    have whole : v = v &&& 63#32 := by
      calc v = v &&& BitVec.allOnes 32 := BitVec.and_allOnes.symm
        _ = v &&& (63#32 ||| 0xFFFFFFC0#32) := rfl
        _ = v &&& 63#32 := by rw [BitVec.and_or_distrib_left, clear, BitVec.ofNat_eq_ofNat, BitVec.or_zero]
    rw [whole, low]
    exact Nat.mod_lt _ (by decide)
  · intro small
    have whole : v &&& 63#32 = v := BitVec.eq_of_toNat_eq (by rw [low, Nat.mod_eq_of_lt small])
    rw [← whole, BitVec.and_assoc]
    exact BitVec.and_zero

/-! ### The CP0 registers (11_cp0_registers.md rule R177) -/

/-- `Cp0.reservedClear`, register by register. -/
structure Cp0.Reserved (c : Cp0) : Prop where
  index : clearIn c.index 0x7FFFFFC0#32 = true
  random : clearIn c.random 0xFFFFFFC0#32 = true
  entryLo0 : clearIn c.entryLo0 0xFFFFFC0000000000#64 = true
  entryLo1 : clearIn c.entryLo1 0xFFFFFC0000000000#64 = true
  context : clearIn c.context 0xF#64 = true
  xContext : clearIn c.xContext 0xF#64 = true
  pageMask : clearIn c.pageMask 0xFE001FFF#32 = true
  pageGrain : clearIn c.pageGrain 0xDFFFFFFF#32 = true
  wired : clearIn c.wired 0xFFFFFFC0#32 = true
  hwrEna : clearIn c.hwrEna 0xFFFFFFF0#32 = true
  entryHi : clearIn c.entryHi 0x3FFF000000001F00#64 = true
  status : clearIn c.status 0x0B270000#32 = true
  intCtl : clearIn (c.intCtl ^^^ 0xFC000000#32) 0xFFFFFC1F#32 = true
  cause : clearIn c.cause 0x077FFC83#32 = true
  ebase : clearIn (c.ebase ^^^ 0x80000000#32) 0xC0000C00#32 = true
  config : clearIn (c.config ^^^ 0x80034480#32) 0xFFFFFFF8#32 = true
  llAddr : clearIn c.llAddr 0xFFFF000000000FFF#64 = true
  diagnostic : clearIn c.diagnostic 0xFFFFFFFFFFFFFF0E#64 = true
  debug : clearIn (c.debug ^^^ 0x02018000#32) 0xEFFFFEFF#32 = true
  perfCtl0 : clearIn (c.perfCtl0 ^^^ 0xC0000000#32) 0xFFFFF800#32 = true
  perfCtl1 : clearIn (c.perfCtl1 ^^^ 0x40000000#32) 0xFFFFF800#32 = true
  errCtl : clearIn c.errCtl 0xFFFFFF00#32 = true
  cacheErr : clearIn c.cacheErr 0xFFFFFFC0#32 = true
  tagLo : clearIn c.tagLo 0x0000000F#32 = true
  tagHi : clearIn c.tagHi 0xFFFFFFF0#32 = true

theorem Cp0.reservedClear_iff (c : Cp0) : c.reservedClear = true ↔ c.Reserved := by
  simp only [Cp0.reservedClear, Bool.and_eq_true, and_assoc]
  constructor
  · rintro ⟨h1, h2, h3, h4, h5, h6, h7, h8, h9, h10, h11, h12, h13, h14, h15, h16, h17, h18, h19, h20, h21, h22, h23,
      h24, h25⟩
    constructor <;> assumption
  · intro h
    exact ⟨h.index, h.random, h.entryLo0, h.entryLo1, h.context, h.xContext, h.pageMask, h.pageGrain, h.wired, h.hwrEna,
      h.entryHi, h.status, h.intCtl, h.cause, h.ebase, h.config, h.llAddr, h.diagnostic, h.debug, h.perfCtl0,
      h.perfCtl1, h.errCtl, h.cacheErr, h.tagLo, h.tagHi⟩

/-- A CP0 move writes no reserved bit: each register takes the writable bits of its field table only
(11_cp0_registers.md rule R177, 45_cp0_priv.md rule R503). The registers without reserved bits and those a move
leaves alone come first. -/
theorem Cp0.Reserved.write {c d : Cp0} (h : c.Reserved) {rd : BitVec 5} {sel : BitVec 3} {v : Dword}
    (written : c.write rd sel v = some d) : d.Reserved := by
  unfold Cp0.write at written
  dsimp only at written
  split at written <;> cases written
  all_goals try exact { h with }
  · exact { h with index := clearIn_mergeBits_of rfl h.index }
  · exact { h with entryLo0 := clearIn_mergeBits_of rfl h.entryLo0 }
  · exact { h with entryLo1 := clearIn_mergeBits_of rfl h.entryLo1 }
  · exact { h with context := clearIn_mergeBits_of rfl h.context }
  · exact { h with pageMask := clearIn_mergeBits_of rfl h.pageMask }
  · exact { h with pageGrain := clearIn_mergeBits_of rfl h.pageGrain }
  · exact { h with wired := clearIn_mergeBits_of rfl h.wired, random := (by decide : clearIn 63#32 _ = true) }
  · exact { h with hwrEna := clearIn_mergeBits_of rfl h.hwrEna }
  · exact { h with entryHi := clearIn_mergeBits_of rfl h.entryHi }
  · exact { h with cause := clearIn_mergeBits_of rfl h.cause }
  · exact { h with status := clearIn_mergeBits_of rfl (clearIn_mergeBits_of rfl h.status) }
  · exact { h with intCtl := (clearIn_mergeBits rfl).trans h.intCtl }
  · exact { h with cause := clearIn_mergeBits_of rfl h.cause }
  · exact { h with ebase := (clearIn_mergeBits rfl).trans h.ebase }
  · exact { h with config := (clearIn_mergeBits rfl).trans h.config }
  · exact { h with xContext := clearIn_mergeBits_of rfl h.xContext }
  · exact { h with diagnostic := clearIn_mergeBits_of rfl h.diagnostic }
  · exact { h with debug := (clearIn_mergeBits rfl).trans h.debug }
  · exact { h with perfCtl0 := (clearIn_mergeBits rfl).trans h.perfCtl0 }
  · exact { h with perfCtl1 := (clearIn_mergeBits rfl).trans h.perfCtl1 }
  · exact { h with errCtl := clearIn_mergeBits_of rfl h.errCtl }
  · exact { h with tagLo := clearIn_mergeBits_of rfl h.tagLo }
  · exact { h with tagHi := clearIn_mergeBits_of rfl h.tagHi }

/-- The registers a TLB exception writes (60_exceptions.md rule R941). -/
theorem Cp0.Reserved.tlbFault {c : Cp0} (h : c.Reserved) (s : State) (va : Dword) : (s.tlbFault c va).Reserved :=
  { h with
    context := clearIn_mergeBits_of rfl h.context
    xContext := clearIn_mergeBits_of rfl (clearIn_mergeBits_of rfl h.xContext)
    entryHi := clearIn_mergeBits_of rfl (clearIn_mergeBits_of rfl h.entryHi)
    entryLo0 := clearIn_and rfl
    entryLo1 := clearIn_and rfl }

theorem Cp0.Reserved.excRegisters {c : Cp0} (h : c.Reserved) (s : State) (e : Exc) :
    (s.excRegisters c e).Reserved := by
  cases e with
  | mod va | tlbRefill _ va | tlbInvalid _ va => exact h.tlbFault s va
  | addressError _ va => exact { h with }
  | boundError => exact { h with }
  | int | ibe | dbe | sys | bp | ri | cpU | ov | tr | fpe => exact h

/-- Cause takes BD, CE and ExcCode (60_exceptions.md rules R960, R961). -/
theorem State.clearIn_excCause {s : State} (h : clearIn s.cp0.cause 0x077FFC83#32 = true) (e : Exc) :
    clearIn (s.excCause e) 0x077FFC83#32 = true := by
  refine clearIn_mergeBits_of rfl (clearIn_mergeBits_of rfl ?_)
  split
  · exact h
  · exact clearIn_mergeBits_of rfl h

theorem Cp0.Reserved.takeException {s : State} (h : s.cp0.Reserved) (e : Exc) : (s.takeException e).cp0.Reserved := by
  refine Cp0.Reserved.excRegisters ?_ s e
  exact { h with cause := State.clearIn_excCause h.cause e, status := clearIn_or h.status rfl }

/-- ERET clears ERL or EXL, and LLAddr (45_cp0_priv.md rule R509). -/
theorem Cp0.Reserved.returnFromException {s : State} (h : s.cp0.Reserved) : s.returnFromException.cp0.Reserved where
  __ := h
  llAddr := (by decide : clearIn 0#64 _ = true)
  status := by
    unfold State.returnFromException
    dsimp only
    split <;> exact clearIn_mergeBits_of rfl h.status

theorem clearIn_entryLoOf (pfn : BitVec 36) (c : BitVec 3) (d v g : Bool) (mask : BitVec 12) (open_ : Dword) :
    clearIn (entryLoOf pfn c d v g mask open_) 0xFFFFFC0000000000#64 = true := by
  have fields : clearIn (0#22 ++ pfn ++ c ++ BitVec.ofBool d ++ BitVec.ofBool v ++ BitVec.ofBool g)
      (0x3FFFFF#22 ++ 0#36 ++ 0#3 ++ 0#1 ++ 0#1 ++ 0#1) = true :=
    clearIn_append (clearIn_append (clearIn_append (clearIn_append (clearIn_append rfl (clearIn_zero _))
      (clearIn_zero _)) (clearIn_zero _)) (clearIn_zero _)) (clearIn_zero _)
  exact clearIn_mergeBits_of (clearIn_iff.1 (clearIn_shiftLeft mask rfl)) fields

/-- TLBR: the bits of an entry, and open bits under its mask (45_cp0_priv.md rule R505). -/
theorem Cp0.Reserved.readTlb {s : State} (h : s.cp0.Reserved) (e : TlbEntry) : (s.readTlb e).Reserved where
  __ := h
  pageMask := clearIn_shiftLeft e.mask rfl
  entryHi := by
    have fields : clearIn (e.r ++ 0#14 ++ e.vpn2 ++ 0#5 ++ e.asid)
        (0#2 ++ 0x3FFF#14 ++ 0#35 ++ 0x1F#5 ++ 0#8) = true :=
      clearIn_append (clearIn_append (clearIn_append (clearIn_append (clearIn_zero _) rfl) (clearIn_zero _)) rfl)
        (clearIn_zero _)
    exact clearIn_mergeBits_of (clearIn_iff.1 (clearIn_shiftLeft e.mask rfl)) fields
  entryLo0 := clearIn_entryLoOf _ _ _ _ _ _ _
  entryLo1 := clearIn_entryLoOf _ _ _ _ _ _ _

/-- TLBP leaves a number below 64, or P beside one (45_cp0_priv.md rule R504). -/
theorem State.clearIn_probe {s : State} {i : Word} (found : s.probe = .ok i) : clearIn i 0x7FFFFFC0#32 = true := by
  unfold State.probe at found
  split at found
  · cases found
    exact clearIn_or rfl (clearIn_and rfl)
  · next e n hits =>
    cases found
    have known : (e, n) ∈ s.tlb.toList.zipIdx := (List.mem_filter.1 (hits ▸ List.mem_singleton_self _)).1
    have small : n < 64 := by simpa using List.snd_lt_of_mem_zipIdx known
    have whole : BitVec.ofNat 32 n = (BitVec.ofNat 6 n).setWidth 32 <<< 0 := by
      apply BitVec.eq_of_toNat_eq
      simp only [BitVec.shiftLeft_zero, BitVec.toNat_ofNat, BitVec.toNat_setWidth]
      omega
    rw [whole]
    exact clearIn_shiftLeft _ rfl
  · cases found

theorem Cp0.Reserved.setIndex {c : Cp0} (h : c.Reserved) {i : Word} (clear : clearIn i 0x7FFFFFC0#32 = true) :
    Cp0.Reserved { c with index := i } := { h with index := clear }

/-- The registers a CACHE operation fills (45_cp0_priv.md rules R512, R514). -/
theorem Cp0.Reserved.cacheEffect {s : State} (h : s.cp0.Reserved) (op : BitVec 5) :
    (s.cacheEffect op).cp0.Reserved := by
  unfold State.cacheEffect
  split
  · exact { h with tagLo := clearIn_and rfl, tagHi := clearIn_and rfl, errCtl := clearIn_and rfl }
  · split
    · exact { h with errCtl := clearIn_and rfl }
    · exact h

/-- LL leaves the page of its address in LLAddr (20_memory.md rule R241). -/
theorem Cp0.Reserved.link {s : State} (h : s.cp0.Reserved) (pa : PhysAddr) (n : Nat) : (s.link pa n).cp0.Reserved :=
  { h with llAddr := clearIn_and rfl }

/-- Random stays below 64 (11_cp0_registers.md rule R93). -/
theorem clearIn_nextRandom {random : Word} (h : clearIn random 0xFFFFFFC0#32 = true) (wired : Word) :
    clearIn (nextRandom random wired) 0xFFFFFFC0#32 = true := by
  rw [clearIn_above_six_iff] at h ⊢
  rw [nextRandom_eq]
  split
  · decide
  · bv_omega

theorem Cp0.Reserved.tick {t : State} (h : t.cp0.Reserved) (s : State) : (t.tick s).cp0.Reserved where
  __ := h
  random := clearIn_nextRandom h.random _
  cause := by
    rw [State.tick_cause]
    exact clearIn_or h.cause (by split <;> rfl)

/-- After a cold reset reserved bits are 0 and fixed bits have their values (70_reset_and_hazards.md rule R1021,
92_eei_decisions.md D15). -/
theorem State.reserved_coldCp0 (s : State) : s.coldCp0.Reserved := by
  constructor
  case random | wired | status | intCtl | config | debug | perfCtl0 | perfCtl1 =>
    simp only [State.coldCp0]
    decide
  case ebase => exact clearIn_or_xor (clearIn_or_xor (by decide) (clearIn_and rfl)) (clearIn_and rfl)
  all_goals exact clearIn_and rfl

/-! ### FCSR (10_state.md rule R53) -/

theorem clearIn_setFcc {f : Word} (h : clearIn f 0x003C0000#32 = true) {i : Nat} (code : i ≤ 8) (b : Bool) :
    clearIn (setFcc f i b) 0x003C0000#32 = true := by
  have apart : ∀ i ≤ 8, fieldMask 32 (fccBit i) 1 &&& 0x003C0000#32 = 0 := by decide
  exact clearIn_mergeBits_of (apart i code) h

theorem clearIn_setFpCause {f : Word} (h : clearIn f 0x003C0000#32 = true) (c : BitVec 6) :
    clearIn (setFpCause f c) 0x003C0000#32 = true := clearIn_mergeBits_of rfl h

theorem clearIn_addFpFlags {f : Word} (h : clearIn f 0x003C0000#32 = true) (c : BitVec 5) :
    clearIn (addFpFlags f c) 0x003C0000#32 = true := clearIn_or h (clearIn_shiftLeft c rfl)

theorem clearIn_writeFccr {f : Word} (h : clearIn f 0x003C0000#32 = true) (v : Word) :
    clearIn (writeFccr f v) 0x003C0000#32 = true := clearIn_mergeBits_of rfl (clearIn_mergeBits_of rfl h)

/-- CTC1 leaves bits 21 to 18 clear through every view (49_fpu_move_mem.md rule R906). -/
theorem State.clearIn_writeFcr {s : State} (h : clearIn s.fcsr 0x003C0000#32 = true) {n : BitVec 5} {v f : Word}
    (written : s.writeFcr n v = .ok f) : clearIn f 0x003C0000#32 = true := by
  unfold State.writeFcr at written
  split at written
  · cases written; exact clearIn_writeFccr h v
  split at written
  · cases written; exact clearIn_mergeBits_of rfl h
  split at written
  · cases written; exact clearIn_mergeBits_of rfl (clearIn_mergeBits_of rfl h)
  split at written
  · split at written <;> cases written
    exact clearIn_and rfl
  · cases written

end Sys2Proof.Machine
end

section
/-!
SUPPORT. What the shared operations of the instructions keep: `State.Sound`, the invariant but for the flow, goes
through every update of the state, and every end of an instruction makes the flow sequential again.
-/
namespace Sys2Proof.Machine

/-! ### The invariant but for the flow -/

/-- The invariant without the flow of instructions: what an update of the state keeps, where the end of the
instruction makes `npc` anew. -/
structure State.Sound (s : State) : Prop where
  mem : Memory.wf s.mem = true
  buffer : bufferedBytes s.accel < 32
  cp0 : s.cp0.Reserved
  fcsr : clearIn s.fcsr 0x003C0000#32 = true

theorem State.invariant_iff_sound (s : State) :
    s.invariant = true ↔ s.Sound ∧ (s.inDelaySlot = true ∨ s.npc = s.pc + 4) := by
  rw [State.invariant_iff, Cp0.reservedClear_iff]
  simp only [State.bufferBounded, State.fcsrClear, State.sequential, decide_eq_true_eq, Bool.or_eq_true, beq_iff_eq]
  exact ⟨fun ⟨mem, buffer, cp0, fcsr, flow⟩ => ⟨⟨mem, buffer, cp0, fcsr⟩, flow⟩,
    fun ⟨⟨mem, buffer, cp0, fcsr⟩, flow⟩ => ⟨mem, buffer, cp0, fcsr, flow⟩⟩

/-- Every state the outcome goes on in has the invariant. -/
def InvariantNext (o : Out) : Prop := ∀ t, o = .next t → t.invariant = true

theorem invariantNext_next {t : State} (h : t.invariant = true) : InvariantNext (.next t) := by
  rintro _ ⟨⟩
  exact h

theorem invariantNext_fault (f : Fault) : InvariantNext (.fault f) := nofun

theorem invariantNext_refused (r : Refusal) : InvariantNext (.refused r) := nofun

/-- Where the part of an instruction gives a value, the value has the property. -/
def Res.Gives {α : Type} (r : Res α) (p : α → Prop) : Prop := ∀ a, r = .ok a → p a

theorem Res.Gives.bind {α β : Type} {r : Res α} {k : α → Res β} {p : α → Prop} {q : β → Prop} (hr : r.Gives p)
    (hk : ∀ a, p a → (k a).Gives q) : (r.bind k).Gives q := by
  intro b given
  obtain ⟨a, ha, hb⟩ := Res.bind_ok.1 given
  exact hk a (hr a ha) b hb

/-- A check that comes first. -/
theorem Res.gives_bind {α β : Type} {r : Res α} {k : α → Res β} {q : β → Prop} (hk : ∀ a, (k a).Gives q) :
    (r.bind k).Gives q :=
  Res.Gives.bind (p := fun _ => True) (fun _ _ => trivial) fun a _ => hk a

theorem Res.gives_ok {α : Type} {a : α} {p : α → Prop} (h : p a) : (Res.ok a).Gives p := by
  rintro _ ⟨⟩
  exact h

/-- A CACHE operation changes CP0 registers only. -/
theorem State.cacheEffect_fields (s : State) (op : BitVec 5) :
    s.cacheEffect op = s.setCp0 (s.cacheEffect op).cp0 := by
  unfold State.cacheEffect
  split
  · rfl
  · split <;> rfl

theorem InvariantNext.notInSlot {s : State} {k : Out} (hk : InvariantNext k) : InvariantNext (notInSlot s k) :=
  fun t next => hk t (notInSlot_cases next).2

theorem InvariantNext.needEven {s : State} {regs : List (BitVec 5)} {k : Out} (hk : InvariantNext k) :
    InvariantNext (needEven s regs k) := fun t next => hk t (needEven_cases next).2

namespace State.Sound
variable {s : State} (h : s.Sound)
include h

/-! ### Updates of the state -/

theorem writeGpr (i : BitVec 5) (v : Dword) : (s.writeGpr i v).Sound := by
  constructor
  · simpa using h.mem
  · simpa using h.buffer
  · simpa using h.cp0
  · simpa using h.fcsr

theorem writeFpr (i : BitVec 5) (v : Dword) : (s.writeFpr i v).Sound := ⟨h.mem, h.buffer, h.cp0, h.fcsr⟩

theorem writeHiLo (hi lo : Dword) : (s.writeHiLo hi lo).Sound := ⟨h.mem, h.buffer, h.cp0, h.fcsr⟩

theorem writeSingle (i : BitVec 5) (v : Word) : (s.writeSingle i v).Sound := ⟨h.mem, h.buffer, h.cp0, h.fcsr⟩

theorem writeDouble (i : BitVec 5) (v : Nat) : (s.writeDouble i v).Sound := h.writeFpr i _

theorem writeF32 (n : BitVec 5) (v : Word) : (s.writeF32 n v).Sound := by
  unfold State.writeF32
  split
  · exact h.writeSingle _ _
  · split <;> exact h.writeFpr _ _

theorem setFcsr {f : Word} (clear : clearIn f 0x003C0000#32 = true) : (s.setFcsr f).Sound :=
  ⟨h.mem, h.buffer, h.cp0, clear⟩

theorem setCp0 {c : Cp0} (reserved : c.Reserved) : (s.setCp0 c).Sound := ⟨h.mem, h.buffer, reserved, h.fcsr⟩

theorem setX86 (x : X86) : (s.setX86 x).Sound := ⟨h.mem, h.buffer, h.cp0, h.fcsr⟩

theorem setTlb (i : BitVec 6) (e : TlbEntry) : (s.setTlb i e).Sound := ⟨h.mem, h.buffer, h.cp0, h.fcsr⟩

theorem setLLbit (b : Bool) : (s.setLLbit b).Sound := ⟨h.mem, h.buffer, h.cp0, h.fcsr⟩

theorem drain : s.drain.Sound where
  mem := s.wf_drain h.mem
  buffer := by rw [State.drain_accel]; decide
  cp0 := by rw [State.drain_cp0]; exact h.cp0
  fcsr := by rw [State.drain_fcsr]; exact h.fcsr

theorem landStore (c : BitVec 3) (b : BufferedStore) : (s.landStore c b).Sound where
  mem := s.wf_landStore c b h.mem
  buffer := s.bounded_landStore c b h.buffer
  cp0 := by rw [State.landStore_cp0]; exact h.cp0
  fcsr := by rw [State.landStore_fcsr]; exact h.fcsr

theorem link (pa : PhysAddr) (n : Nat) : (s.link pa n).Sound := ⟨h.mem, h.buffer, h.cp0.link pa n, h.fcsr⟩

theorem cacheEffect (op : BitVec 5) : (s.cacheEffect op).Sound := by
  rw [State.cacheEffect_fields]
  exact h.setCp0 (h.cp0.cacheEffect op)

/-! ### Ends of an instruction (00_scope.md rule R14) -/

theorem invariant (flow : s.npc = s.pc + 4) : s.invariant = true := s.invariant_iff_sound.2 ⟨h, .inr flow⟩

theorem advance : InvariantNext (.next s.advance) := by
  rintro _ ⟨⟩
  exact State.Sound.invariant ⟨h.mem, h.buffer, h.cp0, h.fcsr⟩ rfl

theorem branchTo (target : Dword) : InvariantNext (.next (s.branchTo target)) := by
  rintro _ ⟨⟩
  exact (State.invariant_iff_sound _).2 ⟨⟨h.mem, h.buffer, h.cp0, h.fcsr⟩, .inl rfl⟩

theorem jumpTo (target : Dword) : InvariantNext (.next (s.jumpTo target)) := by
  rintro _ ⟨⟩
  exact (State.invariant_iff_sound _).2 ⟨⟨h.mem, h.buffer, h.cp0, h.fcsr⟩, .inl rfl⟩

theorem skipSlot : InvariantNext (.next s.skipSlot) := by
  rintro _ ⟨⟩
  have flow : s.npc + 8 = s.npc + 4 + 4 := by bv_omega
  exact State.Sound.invariant ⟨h.mem, h.buffer, h.cp0, h.fcsr⟩ flow

theorem takeException (e : Exc) : (s.takeException e).Sound := ⟨h.mem, h.buffer, h.cp0.takeException e, h.fcsr⟩

theorem raise (e : Exc) : InvariantNext (raise e s) := by
  rintro _ ⟨⟩
  exact (h.takeException e).invariant (s.takeException_npc e)

theorem returnFromException : InvariantNext (.next s.returnFromException) := by
  rintro _ ⟨⟩
  exact State.Sound.invariant ⟨h.mem, h.buffer, h.cp0.returnFromException, h.fcsr⟩ rfl

theorem putGpr (i : BitVec 5) (v : Dword) : InvariantNext (s.putGpr i v) := (h.writeGpr i v).advance

theorem finish {α : Type} {r : Res α} {k : α → Out} {p : α → Prop} (hr : r.Gives p)
    (hk : ∀ a, p a → InvariantNext (k a)) : InvariantNext (r.finish s k) := by
  intro t next
  rcases Res.finish_cases next with ⟨a, ok, ends⟩ | ⟨e, -, rfl⟩
  · exact hk a (hr a ok) t ends
  · exact h.raise e _ rfl

theorem finishLoad {α : Type} {rt : BitVec 5} {r : Res α} {k : α → Out} {p : α → Prop} (hr : r.Gives p)
    (hk : ∀ a, p a → InvariantNext (k a)) : InvariantNext (finishLoad rt r s k) := by
  intro t next
  rcases finishLoad_cases next with ⟨a, ok, ends⟩ | ⟨e, -, rfl⟩ | ⟨-, rfl⟩
  · exact hk a (hr a ok) t ends
  · exact h.raise e _ rfl
  · exact h.advance _ rfl

/-! ### Checks that open an instruction -/

theorem need64 {k : Out} (hk : InvariantNext k) : InvariantNext (need64 s k) := by
  intro t next
  rcases need64_cases next with ⟨-, runs⟩ | ⟨-, rfl⟩
  · exact hk t runs
  · exact h.raise .ri _ rfl

theorem needCop {n : BitVec 2} {k : Out} (hk : InvariantNext k) : InvariantNext (needCop n s k) := by
  intro t next
  rcases needCop_cases next with ⟨-, runs⟩ | ⟨-, rfl⟩
  · exact hk t runs
  · exact h.raise (.cpU n) _ rfl

/-- The gate of a floating-point instruction in format S, W or D (49_fpu.md rules R800, R803). -/
theorem fpGate {regs : List (BitVec 5)} {k : Out} (hk : InvariantNext k) : InvariantNext (fpGate s regs k) :=
  h.needCop hk.needEven

/-- The gate in format L or PS. -/
theorem fpGate64 {k : Out} (hk : InvariantNext k) : InvariantNext (fpGate64 s k) := by
  refine h.needCop ?_
  split
  · exact hk
  · exact invariantNext_fault _

theorem gate21 {k : Out} (hk : InvariantNext k) : InvariantNext (gate21 s k) := h.needCop (h.needCop hk)

/-- The gate of the multimedia instructions (48_custom_mmi.md rule R700). -/
theorem mmiGate {regs : List (BitVec 5)} {k : Out} (hk : InvariantNext k) : InvariantNext (mmiGate s regs k) := by
  refine h.needCop ?_
  split
  · exact h.raise _
  · exact hk.needEven

/-! ### Arithmetic and control (41_alu.md, 42_muldiv.md, 44_branch.md, 46_misc_trap_cmov.md) -/

theorem putTrapWord (rd : BitVec 5) (ok : Bool) (t : Int) : InvariantNext (s.putTrapWord rd ok t) := by
  unfold State.putTrapWord
  split
  · exact h.raise .ov
  · exact h.putGpr _ _

theorem putTrapDword (rd : BitVec 5) (t : Int) : InvariantNext (s.putTrapDword rd t) := by
  unfold State.putTrapDword
  split
  · exact h.raise .ov
  · exact h.putGpr _ _

theorem putHiLoWords (ok : Bool) (p : Dword) : InvariantNext (s.putHiLoWords ok p) := by
  unfold State.putHiLoWords
  split <;> exact (h.writeHiLo _ _).advance

theorem putDivision (ok : Bool) (r q : Dword) : InvariantNext (s.putDivision ok r q) := by
  unfold State.putDivision
  split <;> exact (h.writeHiLo _ _).advance

theorem branchIf (c : Bool) (target : Dword) : InvariantNext (s.branchIf c target) :=
  (h.branchTo _).notInSlot

theorem branchLikelyIf (c : Bool) (target : Dword) : InvariantNext (s.branchLikelyIf c target) := by
  refine InvariantNext.notInSlot ?_
  split
  · exact h.branchTo _
  · exact h.skipSlot

theorem branchAndLink (rs : BitVec 5) (c : Bool) (imm : BitVec 16) : InvariantNext (s.branchAndLink rs c imm) := by
  unfold State.branchAndLink notLinkRegister
  split
  · exact invariantNext_fault _
  · exact (h.writeGpr _ _).branchIf _ _

theorem branchAndLinkLikely (rs : BitVec 5) (c : Bool) (imm : BitVec 16) :
    InvariantNext (s.branchAndLinkLikely rs c imm) := by
  unfold State.branchAndLinkLikely notLinkRegister
  split
  · exact invariantNext_fault _
  · exact (h.writeGpr _ _).branchLikelyIf _ _

theorem jumpAndLinkRegister (rs rd : BitVec 5) : InvariantNext (s.jumpAndLinkRegister rs rd) := by
  unfold State.jumpAndLinkRegister
  split
  · exact invariantNext_fault _
  · exact ((h.writeGpr _ _).jumpTo _).notInSlot

/-- An instruction that goes on where `c` holds, and raises elsewhere. -/
theorem goOnOrRaise (c : Bool) (e : Exc) : InvariantNext (if c then .next s.advance else Machine.raise e s) := by
  split
  · exact h.advance
  · exact h.raise e

/-- An instruction that raises where `c` holds, and goes on elsewhere. -/
theorem raiseOrGoOn (c : Bool) (e : Exc) : InvariantNext (if c then Machine.raise e s else .next s.advance) := by
  split
  · exact h.raise e
  · exact h.advance

theorem moveIf (c : Bool) (rd rs : BitVec 5) : InvariantNext (s.moveIf c rd rs) := by
  unfold State.moveIf
  split
  · exact (h.writeGpr _ _).advance
  · exact h.advance

/-- SYNC (46_misc_trap_cmov.md rule R545). -/
theorem execSync (stype : BitVec 5) : InvariantNext (execSync stype s) := by
  have synced : s.synchronise.Sound := ⟨h.drain.mem, h.drain.buffer, h.drain.cp0, h.drain.fcsr⟩
  unfold Machine.execSync
  dsimp only
  split
  · split
    · exact synced.advance
    · exact h.raise _
  · split <;> exact h.raise _

/-! ### Loads and stores (40_loadstore.md, 47_custom_int.md) -/

/-- An access that reaches its address goes on in a state that remembers a page colour (20_memory.md rule R221). -/
theorem reach (va : Dword) (kind : AccessKind) : (s.reach va kind).Gives fun p => p.2.Sound := by
  rintro ⟨g, u⟩ reached
  rw [State.reach_fields reached]
  exact ⟨h.mem, h.buffer, h.cp0, h.fcsr⟩

theorem loadAt (g : Target) (n : Nat) : (s.loadAt g n).Gives fun p => p.2.Sound :=
  Res.gives_bind fun _ => Res.gives_ok h

theorem memWrite (g : Target) (n : Nat) (v : Dword) : (s.memWrite g n v).Gives State.Sound :=
  Res.gives_bind fun _ => Res.gives_ok (h.landStore _ _)

theorem loadVirt (va : Dword) (n : Nat) : (s.loadVirt va n).Gives fun p => p.2.Sound :=
  Res.gives_bind fun _ => (h.reach va .load).bind fun _ reached => reached.loadAt _ _

theorem loadAround (va : Dword) (n : Nat) : (s.loadAround va n).Gives fun p => p.2.Sound :=
  (h.reach va .load).bind fun _ reached => reached.loadAt _ _

theorem storeVirt (va : Dword) (n : Nat) (v : Dword) : (s.storeVirt va n v).Gives State.Sound :=
  Res.gives_bind fun _ => (h.reach va .store).bind fun _ reached => reached.memWrite _ _ _

theorem storeLeft (va : Dword) (n : Nat) (v : Dword) : (s.storeLeft va n v).Gives State.Sound :=
  (h.reach va .store).bind fun _ reached => reached.memWrite _ _ _

theorem storeRight (va : Dword) (n : Nat) (v : Dword) : (s.storeRight va n v).Gives State.Sound :=
  (h.reach va .store).bind fun _ reached => reached.memWrite _ _ _

theorem boundLoad (va : Dword) (n : Nat) (ok : Bool) : (s.boundLoad va n ok).Gives fun p => p.2.Sound :=
  Res.gives_bind fun _ => h.loadVirt va n

theorem boundStore (va : Dword) (n : Nat) (ok : Bool) (v : Dword) : (s.boundStore va n ok v).Gives State.Sound :=
  Res.gives_bind fun _ => h.storeVirt va n v

theorem loadQuad (va : Dword) : (s.loadQuad va).Gives fun p => p.2.Sound :=
  Res.gives_bind fun _ => (h.loadVirt va 8).bind fun _ first =>
    (first.loadVirt (va + 8) 8).bind fun _ second => Res.gives_ok second

theorem storeQuad (va : Dword) (lo hi : Dword) : (s.storeQuad va lo hi).Gives State.Sound :=
  Res.gives_bind fun _ => (h.reach va .store).bind fun _ first => (first.reach (va + 8) .store).bind fun _ second =>
    Res.gives_bind fun _ => Res.gives_bind fun _ => (second.memWrite _ 8 lo).bind fun _ half => half.memWrite _ 8 hi

theorem leftLoad (va : Dword) (n : Nat) (old : Dword) : (s.leftLoad va n old).Gives fun p => p.2.Sound :=
  (h.loadAround va n).bind fun _ reached => Res.gives_ok reached

theorem rightLoad (va : Dword) (n : Nat) (old : Dword) : (s.rightLoad va n old).Gives fun p => p.2.Sound :=
  (h.loadAround va n).bind fun _ reached => Res.gives_ok reached

/-- A load to a general register, however its value is made. -/
theorem finishLoadGpr {rt : BitVec 5} {r : Res (Dword × State)} (hr : r.Gives fun p => p.2.Sound)
    (value : Dword → Dword) : InvariantNext (Machine.finishLoad rt r s fun p => p.2.putGpr rt (value p.1)) :=
  h.finishLoad hr fun _ reached => reached.putGpr _ _

theorem storeDone {r : Res State} (hr : r.Gives State.Sound) : InvariantNext (s.storeDone r) :=
  h.finish hr fun _ stored => stored.advance

theorem loadTo (rt : BitVec 5) (va : Dword) (n : Nat) (ext : Dword → Dword) : InvariantNext (s.loadTo rt va n ext) :=
  h.finishLoadGpr (h.loadVirt va n) ext

theorem storeFrom (va : Dword) (n : Nat) (v : Dword) : InvariantNext (s.storeFrom va n v) :=
  h.storeDone (h.storeVirt va n v)

theorem loadBound (rt : BitVec 5) (va : Dword) (n : Nat) (ok : Bool) (ext : Dword → Dword) :
    InvariantNext (s.loadBound rt va n ok ext) := h.finishLoadGpr (h.boundLoad va n ok) ext

theorem storeBound (va : Dword) (n : Nat) (ok : Bool) (v : Dword) : InvariantNext (s.storeBound va n ok v) :=
  h.storeDone (h.boundStore va n ok v)

theorem loadLinked (rt : BitVec 5) (va : Dword) (n : Nat) (ext : Dword → Dword) :
    InvariantNext (s.loadLinked rt va n ext) :=
  h.finishLoadGpr (Res.gives_bind fun _ => (h.reach va .load).bind fun _ reached =>
    (reached.loadAt _ n).bind fun _ loaded => Res.gives_ok (loaded.link _ n)) ext

theorem storeConditional (rt : BitVec 5) (va : Dword) (n : Nat) : InvariantNext (s.storeConditional rt va n) := by
  refine h.finish (p := State.Sound) ?_ fun t stored => ?_
  · refine Res.gives_bind fun _ => (h.reach va .store).bind fun _ reached =>
      Res.gives_bind fun _ => Res.gives_bind fun _ => ?_
    split
    · exact reached.memWrite _ _ _
    · exact Res.gives_ok reached
  · exact (stored.setLLbit false).putGpr _ _

/-- GSLQ, whether or not its registers differ (47_custom_int.md rule R615). -/
theorem execGslq (base rt : BitVec 5) (off : BitVec 9) (rq : BitVec 5) :
    InvariantNext (execGslq base rt off rq s) := by
  refine h.needCop (h.need64 (h.finishLoad (h.loadQuad _) fun p reached => ?_))
  split
  · exact reached.putGpr _ _
  · exact (reached.writeGpr _ _).putGpr _ _

/-! ### Floating point and multimedia (48_custom_mmi.md, 49_fpu.md, 49_fpu_move_mem.md) -/

/-- The exception procedure (49_fpu.md rule R805). -/
theorem fpFinish (c : Conds) {write : State → State} (writes : ∀ t : State, t.Sound → (write t).Sound) :
    InvariantNext (s.fpFinish c write) := by
  have caused := clearIn_setFpCause h.fcsr (s.causeOf c)
  unfold State.fpFinish
  dsimp only
  split
  · exact (h.setFcsr caused).raise .fpe
  · exact (writes _ (h.setFcsr (clearIn_addFpFlags caused _))).advance

theorem setFcc {i : Nat} (code : i ≤ 8) (b : Bool) : (s.setFcsr (setFcc s.fcsr i b)).Sound :=
  h.setFcsr (clearIn_setFcc h.fcsr code b)

theorem fpCompare (f : Fmt) (cond : BitVec 4) (x y : Nat) (cc : BitVec 3) :
    InvariantNext (s.fpCompare f cond x y cc) :=
  h.fpFinish _ fun _ sound => sound.setFcc (Nat.le_of_lt cc.isLt) _

/-- The condition codes of a PS compare: one above `cc` is at most 8 (49_fpu.md rule R851). -/
theorem pairCodes (cc : BitVec 3) (lower upper : Bool) : (s.pairCodes cc lower upper).Sound := by
  unfold State.pairCodes
  split
  · exact h.setFcsr (clearIn_writeFccr h.fcsr _)
  · exact (h.setFcc (Nat.le_of_lt cc.isLt) lower).setFcc cc.isLt upper

theorem fpComparePaired (cond : BitVec 4) (ft fs : BitVec 5) (cc : BitVec 3) :
    InvariantNext (s.fpComparePaired cond ft fs cc) := h.fpFinish _ fun _ sound => sound.pairCodes cc _ _

theorem movSingle (c : Bool) (fs fd : BitVec 5) : InvariantNext (s.movSingle c fs fd) := by
  refine h.fpGate ?_
  split
  · exact (h.writeF32 _ _).advance
  · exact h.advance

theorem movDouble (c : Bool) (fs fd : BitVec 5) : InvariantNext (s.movDouble c fs fd) := by
  refine h.fpGate ?_
  split
  · exact (h.writeFpr _ _).advance
  · exact h.advance

theorem movPairOn (sense : Bool) (cc : BitVec 3) (fs fd : BitVec 5) : InvariantNext (s.movPairOn sense cc fs fd) := by
  unfold State.movPairOn
  split <;> exact h.fpGate64 (h.writeFpr _ _).advance

theorem execCfc1 (rt fs : BitVec 5) : InvariantNext (execCfc1 rt fs s) := by
  refine h.needCop ?_
  split
  · exact h.putGpr _ _
  · exact invariantNext_refused _

/-- CTC1 writes FCSR before it raises (49_fpu_move_mem.md rule R906). -/
theorem execCtc1 (rt fs : BitVec 5) : InvariantNext (execCtc1 rt fs s) := by
  refine h.needCop (h.finish (fun _ => State.clearIn_writeFcr h.fcsr) fun f clear => ?_)
  split
  · exact (h.setFcsr clear).raise .fpe
  · exact (h.setFcsr clear).advance

theorem loadF32 (n : BitVec 5) {r : Res (Dword × State)} (hr : r.Gives fun p => p.2.Sound) :
    InvariantNext (s.loadF32 n r) := h.finish hr fun _ reached => (reached.writeF32 _ _).advance

theorem loadF64 (n : BitVec 5) {r : Res (Dword × State)} (hr : r.Gives fun p => p.2.Sound) :
    InvariantNext (s.loadF64 n r) := (h.finish hr fun _ reached => (reached.writeFpr _ _).advance).needEven

/-- GSLQC1, whether or not its registers differ (49_fpu_move_mem.md rule R1123). -/
theorem execGslqc1 (base ft : BitVec 5) (off : BitVec 9) (rq : BitVec 5) :
    InvariantNext (execGslqc1 base ft off rq s) := by
  refine h.gate21 (InvariantNext.needEven (h.finish (h.loadQuad _) fun p reached => ?_))
  split
  · exact (reached.writeFpr _ _).advance
  · exact ((reached.writeFpr _ _).writeFpr _ _).advance

theorem mmiTrap (ft fs fd : BitVec 5) (w : Nat) (t : Int) : InvariantNext (s.mmiTrap ft fs fd w t) := by
  refine h.mmiGate ?_
  split
  · exact h.raise .ov
  · exact (h.writeFpr _ _).advance

/-! ### System instructions (45_cp0_priv.md) -/

theorem moveFromCp0 (rt rd : BitVec 5) (sel : BitVec 3) (ext : Dword → Dword) :
    InvariantNext (s.moveFromCp0 rt rd sel ext) := by
  unfold State.moveFromCp0
  split
  · exact h.putGpr _ _
  · exact invariantNext_refused _

theorem moveToCp0 (rd : BitVec 5) (sel : BitVec 3) (v : Dword) : InvariantNext (s.moveToCp0 rd sel v) := by
  unfold State.moveToCp0
  split
  · next c written => exact (h.setCp0 (h.cp0.write written)).advance
  · exact invariantNext_refused _

theorem writeTlb (i : BitVec 6) : InvariantNext (s.writeTlb i) := by
  unfold State.writeTlb
  split
  · exact (h.setTlb _ _).advance
  · exact invariantNext_fault _

theorem execTlbp : InvariantNext (execTlbp s) :=
  h.needCop (h.finish (fun _ => State.clearIn_probe) fun _ clear => (h.setCp0 (h.cp0.setIndex clear)).advance)

theorem execCache (base hint : BitVec 5) (imm : BitVec 16) : InvariantNext (execCache base hint imm s) := by
  have filled := (h.cacheEffect hint).advance
  refine h.needCop ?_
  split
  · split
    · exact h.finish (p := fun _ => True) (fun _ _ => trivial) fun _ _ => filled
    · exact filled
  · split
    · exact h.raise .ri
    · exact h.advance

theorem execRdhwr (rt rd : BitVec 5) : InvariantNext (execRdhwr rt rd s) := by
  unfold Machine.execRdhwr
  split
  · exact h.raise .ri
  · split
    · exact h.putGpr _ _
    · exact h.raise .ri

/-- SYNCI (46_misc_trap_cmov.md rule R546). -/
theorem execSynci (base : BitVec 5) (imm : BitVec 16) : InvariantNext (execSynci base imm s) := by
  unfold Machine.execSynci
  split
  · exact h.finish (p := fun _ => True) (fun _ _ => trivial) fun _ _ => h.advance
  · exact h.advance

end State.Sound
end Sys2Proof.Machine
end

section
/-!
PROOFS of 11_cp0_registers.md: every step keeps the invariant (O58).
-/
namespace Sys2Proof.Machine

/-- Every instruction that is run in a sound state goes on with the invariant. The instructions stand by the way
they end: each case names the checks that open it and the update it makes. -/
theorem State.Sound.exec {s : State} (h : s.Sound) (i : Instr) : InvariantNext (exec i s) := by
  cases i with
  -- 41_alu.md, 43_shift.md, 42_muldiv.md, 47_custom_int.md: one general register, or HI and LO
  | addiu | slti | sltiu | andi | ori | xori | lui | addu | subu | slt | sltu | and | or | xor | nor | clo | clz |
    wsbh | seb | seh | sll | srl | sra | sllv | srlv | srav | rotr | rotrv | ext | ins | mfhi | mflo | gsmult |
    gsmultu | gsdiv | gsdivu | gsmod | gsmodu | x86mfflag | mftop =>
    exact h.putGpr _ _
  | daddiu | daddu | dsubu | dclo | dclz | dshd | dsbh | dsll | dsrl | dsra | dsllv | dsrlv | dsrav | dsll32 |
    dsrl32 | dsra32 | drotr | drotr32 | drotrv | dextm | dextu | dext | dinsm | dinsu | dins | gsdmult | gsdmultu |
    gsddiv | gsddivu | gsdmod | gsdmodu =>
    exact h.need64 (h.putGpr _ _)
  | addi | add | sub => exact h.putTrapWord _ _ _
  | daddi | dadd | dsub => exact h.need64 (h.putTrapDword _ _)
  | mult | multu | madd | maddu | msub | msubu => exact h.putHiLoWords _ _
  | dmult | dmultu => exact h.need64 (h.writeHiLo _ _).advance
  | div | divu => exact h.putDivision _ _ _
  | ddiv | ddivu => exact h.need64 (h.putDivision _ _ _)
  | mul => exact ((h.writeGpr _ _).writeHiLo _ _).advance
  | mthi | mtlo => exact (h.writeHiLo _ _).advance
  -- 44_branch.md
  | j | jr | jrHb => exact (h.jumpTo _).notInSlot
  | jal => exact ((h.writeGpr _ _).jumpTo _).notInSlot
  | jalr | jalrHb => exact h.jumpAndLinkRegister _ _
  | beq | bne | blez | bgtz | bltz | bgez => exact h.branchIf _ _
  | beql | bnel | blezl | bgtzl | bltzl | bgezl => exact h.branchLikelyIf _ _
  | bltzal | bgezal => exact h.branchAndLink _ _ _
  | bltzall | bgezall => exact h.branchAndLinkLikely _ _ _
  -- 46_misc_trap_cmov.md
  | nop | ssnop | ehb | pref => exact h.advance
  | prefx => exact h.goOnOrRaise _ _
  | syscall | brk => exact h.raise _
  | sync => exact h.execSync _
  | synci => exact h.execSynci _ _
  | tge | tgeu | tlt | tltu | teq | tne | tgei | tgeiu | tlti | tltiu | teqi | tnei => exact h.raiseOrGoOn _ _
  | movn | movz => exact h.moveIf _ _ _
  | movf | movt => exact h.needCop (h.moveIf _ _ _)
  -- 40_loadstore.md, 47_custom_int.md: loads and stores
  | lb | lbu | lh | lhu | lw => exact h.loadTo _ _ _ _
  | lwu | ld => exact h.need64 (h.loadTo _ _ _ _)
  | lwl => exact h.finishLoadGpr (h.loadAround _ _) fun w => sextLow 32 (mergeLeft _ _ w _)
  | lwr => exact h.finishLoadGpr (h.loadAround _ _) fun w => s.lwrValue _ _ (mergeRight _ _ w _)
  | ldl => exact h.need64 (h.finishLoadGpr (h.loadAround _ _) fun w => mergeLeft _ _ w _)
  | ldr => exact h.need64 (h.finishLoadGpr (h.loadAround _ _) fun w => mergeRight _ _ w _)
  | ll => exact h.loadLinked _ _ _ _
  | lld => exact h.need64 (h.loadLinked _ _ _ _)
  | sb | sh | sw => exact h.storeFrom _ _ _
  | sd => exact h.need64 (h.storeFrom _ _ _)
  | swl => exact h.storeDone (h.storeLeft _ _ _)
  | swr => exact h.storeDone (h.storeRight _ _ _)
  | sdl => exact h.need64 (h.storeDone (h.storeLeft _ _ _))
  | sdr => exact h.need64 (h.storeDone (h.storeRight _ _ _))
  | sc => exact h.storeConditional _ _ _
  | scd => exact h.need64 (h.storeConditional _ _ _)
  | gsle => exact h.needCop (h.raiseOrGoOn _ _)
  | gsgt => exact h.needCop (h.goOnOrRaise _ _)
  | gslble | gslbgt | gslhle | gslhgt | gslwle | gslwgt => exact h.needCop (h.loadBound _ _ _ _ _)
  | gsldle | gsldgt => exact h.needCop (h.need64 (h.loadBound _ _ _ _ _))
  | gssble | gssbgt | gsshle | gsshgt | gsswle | gsswgt => exact h.needCop (h.storeBound _ _ _ _)
  | gssdle | gssdgt => exact h.needCop (h.need64 (h.storeBound _ _ _ _))
  | gslbx | gslhx | gslwx => exact h.needCop (h.loadTo _ _ _ _)
  | gsldx => exact h.needCop (h.need64 (h.loadTo _ _ _ _))
  | gssbx | gsshx | gsswx => exact h.needCop (h.storeFrom _ _ _)
  | gssdx => exact h.needCop (h.need64 (h.storeFrom _ _ _))
  | gslq => exact h.execGslq _ _ _ _
  | gssq => exact h.needCop (h.need64 (h.storeDone (h.storeQuad _ _ _)))
  -- 45_cp0_priv.md
  | mfc0 => exact h.needCop (h.moveFromCp0 _ _ _ _)
  | dmfc0 => exact h.needCop (h.need64 (h.moveFromCp0 _ _ _ _))
  | mtc0 => exact h.needCop (h.moveToCp0 _ _ _)
  | dmtc0 => exact h.needCop (h.need64 (h.moveToCp0 _ _ _))
  | rdpgpr | wrpgpr => exact h.needCop (h.putGpr _ _)
  | tlbp => exact h.execTlbp
  | tlbr => exact h.needCop (h.setCp0 (h.cp0.readTlb _)).advance
  | tlbwi | tlbwr => exact h.needCop (h.writeTlb _)
  | eret => exact h.needCop h.returnFromException.notInSlot
  | wait => exact h.needCop h.advance.notInSlot
  | deret | di | ei => exact h.needCop (invariantNext_refused _)
  | cache => exact h.execCache _ _ _
  | rdhwr => exact h.execRdhwr _ _
  -- 47_custom_int.md rules R640 to R690, and what the spec gives no meaning
  | x86and | x86or | x86xor | x86dadd | x86add | x86daddu | x86addu | x86dsub | x86sub | x86dsubu | x86subu |
    x86inc | x86dec | x86dsll | x86sll | x86dsll32 | x86dsllv | x86sllv | x86dsrl | x86srl | x86dsrl32 | x86dsrlv |
    x86srlv | x86dsra | x86sra | x86dsra32 | x86dsrav | x86srav | x86drotr | x86rotr | x86drotr32 | x86drotrv |
    x86rotrv | x86mtflag | settm | clrtm | inctop | dectop | mttop =>
    exact (h.setX86 _).advance
  | sdbbp | x86j | x86loop | settag | campv | campi | camwi | ramri | cvtDLd | cvtLdD | cvtUdD =>
    exact invariantNext_refused _
  -- 48_custom_mmi.md
  | paddsh | paddush | paddh | paddw | paddsb | paddusb | paddb | paddd | psubsh | psubush | psubh | psubw |
    psubsb | psubusb | psubb | psubd | pshufh | packsswh | packsshb | packushb | pandn | punpcklhw | punpckhhw |
    punpcklbh | punpckhbh | pinsrh0 | pinsrh1 | pinsrh2 | pinsrh3 | pavgh | pavgb | pmaxsh | pminsh | pmaxub |
    pminub | pcmpeqw | pcmpgtw | pcmpeqh | pcmpgth | pcmpeqb | pcmpgtb | psllw | psllh | pmullh | pmulhh | pmuluw |
    pmulhuh | psrlw | psrlh | psraw | psrah | punpcklwd | punpckhwd | pasubub | pextrh | pmaddhw | biadd |
    pmovmskb | gsxor | gsnor | gsand | gsaddu | gsor | gssubu | gssll | gsdsll | gssrl | gsdsrl | gssra | gsdsra =>
    exact h.mmiGate (h.writeFpr _ _).advance
  | gsadd | gsdadd | gssub | gsdsub => exact h.mmiTrap _ _ _ _ _
  | gssequ | gsseq | gssltu | gsslt | gssleu | gssle => exact h.mmiGate (h.setFcc (Nat.zero_le 8) _).advance
  -- 49_fpu.md
  | absS | addS | divS | maddS | msubS | mulS | negS | nmaddS | nmsubS | recipS | rsqrtS | sqrtS | subS | ceilWS |
    ceilWD | cvtSD | cvtSW | cvtWS | cvtWD | floorWS | floorWD | roundWS | roundWD | truncWS | truncWD =>
    exact h.fpGate (h.fpFinish _ fun _ sound => sound.writeSingle _ _)
  | absD | addD | divD | maddD | msubD | mulD | negD | nmaddD | nmsubD | recipD | rsqrtD | sqrtD | subD | cvtDS |
    cvtDW =>
    exact h.fpGate (h.fpFinish _ fun _ sound => sound.writeDouble _ _)
  | ceilLS | ceilLD | cvtDL | cvtLS | cvtLD | floorLS | floorLD | roundLS | roundLD | truncLS | truncLD =>
    exact h.fpGate64 (h.fpFinish _ fun _ sound => sound.writeDouble _ _)
  | cvtSL => exact h.fpGate64 (h.fpFinish _ fun _ sound => sound.writeSingle _ _)
  | absPs | addPs | maddPs | msubPs | mulPs | negPs | nmaddPs | nmsubPs | subPs =>
    exact h.fpGate64 (h.fpFinish _ fun _ sound => sound.writeFpr _ _)
  | cFS | cUnS | cEqS | cUeqS | cOltS | cUltS | cOleS | cUleS | cSfS | cNgleS | cSeqS | cNglS | cLtS | cNgeS |
    cLeS | cNgtS | cFD | cUnD | cEqD | cUeqD | cOltD | cUltD | cOleD | cUleD | cSfD | cNgleD | cSeqD | cNglD |
    cLtD | cNgeD | cLeD | cNgtD =>
    exact h.fpGate (h.fpCompare _ _ _ _ _)
  | cFPs | cUnPs | cEqPs | cUeqPs | cOltPs | cUltPs | cOlePs | cUlePs | cSfPs | cNglePs | cSeqPs | cNglPs | cLtPs |
    cNgePs | cLePs | cNgtPs =>
    exact h.fpGate64 (h.fpComparePaired _ _ _ _)
  | cvtPsS | pllPs | pluPs | pulPs | puuPs => exact h.fpGate64 (h.writeFpr _ _).advance
  | cvtSPl | cvtSPu => exact h.fpGate64 (h.writeSingle _ _).advance
  -- 49_fpu_move_mem.md
  | cfc1 => exact h.execCfc1 _ _
  | ctc1 => exact h.execCtc1 _ _
  | mfc1 => exact h.needCop (h.putGpr _ _)
  | mtc1 => exact h.needCop (h.writeF32 _ _).advance
  | mfhc1 => exact h.needCop (h.putGpr _ _).needEven
  | mthc1 => exact h.needCop (h.writeFpr _ _).advance.needEven
  | dmfc1 => exact h.needCop (h.need64 (h.putGpr _ _).needEven)
  | dmtc1 => exact h.needCop (h.need64 (h.writeFpr _ _).advance.needEven)
  | movS | movfS | movnS | movtS | movzS => exact h.movSingle _ _ _
  | movD | movfD | movnD | movtD | movzD => exact h.movDouble _ _ _
  | alnvPs | movPs | movnPs | movzPs => exact h.fpGate64 (h.writeFpr _ _).advance
  | movfPs | movtPs => exact h.movPairOn _ _ _ _
  | bc1f | bc1t => exact h.needCop (h.branchIf _ _)
  | bc1fl | bc1tl => exact h.needCop (h.branchLikelyIf _ _)
  | lwc1 | lwxc1 => exact h.needCop (h.loadF32 _ (h.loadVirt _ _))
  | ldc1 | ldxc1 | luxc1 => exact h.needCop (h.loadF64 _ (h.loadVirt _ _))
  | swc1 | swxc1 => exact h.needCop (h.storeDone (h.storeVirt _ _ _))
  | sdc1 | sdxc1 | suxc1 => exact h.needCop (h.storeDone (h.storeVirt _ _ _)).needEven
  | gslwxc1 => exact h.gate21 (h.loadF32 _ (h.loadVirt _ _))
  | gsldxc1 => exact h.gate21 (h.loadF64 _ (h.loadVirt _ _))
  | gslwlec1 | gslwgtc1 => exact h.gate21 (h.loadF32 _ (h.boundLoad _ _ _))
  | gsldlec1 | gsldgtc1 => exact h.gate21 (h.loadF64 _ (h.boundLoad _ _ _))
  | gslwlc1 => exact h.gate21 (h.loadF32 _ (h.leftLoad _ _ _))
  | gslwrc1 => exact h.gate21 (h.loadF32 _ (h.rightLoad _ _ _))
  | gsldlc1 => exact h.gate21 (h.loadF64 _ (h.leftLoad _ _ _))
  | gsldrc1 => exact h.gate21 (h.loadF64 _ (h.rightLoad _ _ _))
  | gslqc1 => exact h.execGslqc1 _ _ _ _
  | gsswxc1 => exact h.gate21 (h.storeDone (h.storeVirt _ _ _))
  | gssdxc1 => exact h.gate21 (h.storeDone (h.storeVirt _ _ _)).needEven
  | gsswlec1 | gsswgtc1 => exact h.gate21 (h.storeDone (h.boundStore _ _ _ _))
  | gssdlec1 | gssdgtc1 => exact h.gate21 (h.storeDone (h.boundStore _ _ _ _)).needEven
  | gsswlc1 => exact h.gate21 (h.storeDone (h.storeLeft _ _ _))
  | gsswrc1 => exact h.gate21 (h.storeDone (h.storeRight _ _ _))
  | gssdlc1 => exact h.gate21 (h.storeDone (h.storeLeft _ _ _)).needEven
  | gssdrc1 => exact h.gate21 (h.storeDone (h.storeRight _ _ _)).needEven
  | gssqc1 => exact h.gate21 (h.storeDone (h.storeQuad _ _ _)).needEven

namespace State.Sound
variable {s : State} (h : s.Sound)
include h

/-! ### What surrounds an instruction (00_scope.md rule R14) -/

theorem opened : s.opened.Sound := by
  have drained : s.drainOpen.Sound := by
    rcases s.drainOpen_cases with e | e <;> rw [e]
    · exact h
    · exact h.drain
  constructor
  · rw [State.opened_mem]; exact drained.mem
  · rw [State.opened_accel]; exact drained.buffer
  · rw [State.opened_cp0]; exact h.cp0
  · rw [State.opened_fcsr]; exact h.fcsr

theorem fetch : s.fetch.Gives fun p => p.2.Sound := by
  unfold State.fetch
  split
  · exact nofun
  · exact (h.reach _ _).bind fun _ reached => Res.gives_bind fun _ => Res.gives_ok reached

theorem unknownWord (w : Word) : InvariantNext (s.unknownWord w) := by
  have reserved :
      InvariantNext (if Config.unknownWordRaisesRI then Machine.raise .ri s else .refused .unknownWord) := by
    split
    · exact h.raise .ri
    · exact invariantNext_refused _
  unfold State.unknownWord
  dsimp only
  split
  · exact h.needCop reserved
  · exact reserved

theorem runInstruction : InvariantNext s.runInstruction := by
  refine h.finish h.fetch fun p fetched => ?_
  split
  · exact fetched.exec _
  · exact fetched.unknownWord _

/-- Entry of an interrupt is exception entry, or a stop (60_exceptions.md rule R978). -/
theorem takeInterrupt : InvariantNext s.takeInterrupt := by
  unfold State.takeInterrupt
  dsimp only
  split
  · split
    · exact invariantNext_fault _
    · split
      · exact invariantNext_fault _
      · exact h.raise .int
  · exact h.raise .int

theorem enterInterrupt : InvariantNext s.enterInterrupt := by
  unfold State.enterInterrupt
  split
  · next t entered =>
    rintro _ ⟨⟩
    exact h.takeInterrupt t entered
  · exact invariantNext_fault _
  · exact invariantNext_refused _

/-! ### The resets (70_reset_and_hazards.md rules R1021, R1023, R1024) -/

theorem takeNmi : s.takeNmi.invariant = true := by
  refine State.Sound.invariant ⟨h.mem, h.buffer, ?_, h.fcsr⟩ rfl
  exact { h.cp0 with status := clearIn_mergeBits_of rfl (clearIn_or h.cp0.status rfl) }

theorem takeSoftReset : s.takeSoftReset.invariant = true := by
  refine State.Sound.invariant ⟨h.mem, h.buffer, ?_, h.fcsr⟩ rfl
  exact { h.cp0 with status := clearIn_mergeBits_of rfl (clearIn_or h.cp0.status rfl) }

theorem takeColdReset : s.takeColdReset.invariant = true := by
  refine State.Sound.invariant ?_ rfl
  simp only [State.takeColdReset, State.toResetVector]
  exact ⟨h.mem, Nat.zero_lt_succ 31, s.reserved_coldCp0, (by decide : clearIn 0x00000F80#32 _ = true)⟩

end State.Sound

/-- The tick changes no reserved bit, and leaves memory, buffer, FCSR and flow alone (00_scope.md rule R14 step 8). -/
theorem State.invariant_tick {t : State} (h : t.invariant = true) (s : State) : (t.tick s).invariant = true := by
  rw [State.invariant_iff_sound] at h ⊢
  obtain ⟨sound, flow⟩ := h
  exact ⟨⟨sound.mem, sound.buffer, sound.cp0.tick s, sound.fcsr⟩, flow⟩

theorem InvariantNext.finishStep {o : Out} (h : InvariantNext o) (s : State) : InvariantNext (finishStep s o) := by
  cases o with
  | next t =>
    rintro _ ⟨⟩
    exact State.invariant_tick (h t rfl) s
  | fault f => exact invariantNext_fault f
  | refused r => exact invariantNext_refused r

/-- A step from a sound state: a reset, an NMI, a stop, an interrupt or an instruction. -/
theorem State.Sound.step {s : State} (h : s.Sound) : InvariantNext (step s) := by
  unfold Machine.step
  split
  · exact invariantNext_next h.takeColdReset
  split
  · exact invariantNext_next h.takeSoftReset
  split
  · exact invariantNext_next h.takeNmi
  split
  · exact invariantNext_refused _
  split
  · exact h.enterInterrupt
  · exact h.opened.runInstruction.finishStep _

end Sys2Proof.Machine

namespace Sys2Proof.Claims
open Sys2Proof.Machine

/-- Settles O58: a step never needs the flow before it, only the rest of the invariant. -/
theorem everyStepKeepsTheInvariant : Obligations.EveryStepKeepsTheInvariant := by
  intro s t before stepped
  have sound : s.Sound := (s.invariant_iff_sound.1 before).1
  exact sound.step t stepped

end Sys2Proof.Claims
end

section
/-!
PROOFS of 20_memory.md, first part: memory as bytes, and what this core sees after a store (O27).
-/
namespace Sys2Proof.Machine

/-! ### Two memories in canonical form (log 1) -/

theorem canonicalFrom_cons {lo : Nat} {c : Host.Cell} {rest : List Host.Cell} :
    canonicalFrom lo (c :: rest) = true ↔ lo ≤ c.1 ∧ c.2 ≠ unlistedByte ∧ canonicalFrom (c.1 + 1) rest = true := by
  simp only [canonicalFrom, Bool.and_eq_true, decide_eq_true_eq, bne_iff_ne, and_assoc]

theorem readByte_cons_self (c : Host.Cell) (rest : List Host.Cell) : readByte (c :: rest) c.1 = c.2 := if_pos rfl

theorem readByte_cons_other {c : Host.Cell} {a : Nat} (rest : List Host.Cell) (h : c.1 ≠ a) :
    readByte (c :: rest) a = readByte rest a := if_neg h

/-- No byte is listed below the lower bound. -/
theorem readByte_below {m : List Host.Cell} {lo a : Nat} (canonical : canonicalFrom lo m = true) (below : a < lo) :
    readByte m a = unlistedByte := by
  induction m generalizing lo with
  | nil => rfl
  | cons c rest ih =>
    obtain ⟨bound, -, tail⟩ := canonicalFrom_cons.1 canonical
    rw [readByte_cons_other rest (by omega)]
    exact ih tail (by omega)

/-- A byte that is not the unlisted one lies at the first cell or above. -/
theorem head_le_of_readByte_ne {c : Host.Cell} {rest : List Host.Cell} {lo a : Nat}
    (canonical : canonicalFrom lo (c :: rest) = true) (listed : readByte (c :: rest) a ≠ unlistedByte) : c.1 ≤ a := by
  obtain ⟨-, value, tail⟩ := canonicalFrom_cons.1 canonical
  by_contra above
  exact listed (readByte_below (canonicalFrom_cons.2 ⟨le_rfl, value, tail⟩) (by omega))

/-- The bytes determine a memory in canonical form: the first cells agree, for each is listed in the other memory,
and so the rests do. -/
theorem canonicalFrom_ext {m n : List Host.Cell} {lo : Nat} (hm : canonicalFrom lo m = true)
    (hn : canonicalFrom lo n = true) (same : ∀ a, readByte m a = readByte n a) : m = n := by
  induction m generalizing n lo with
  | nil =>
    cases n with
    | nil => rfl
    | cons d q =>
      obtain ⟨-, value, -⟩ := canonicalFrom_cons.1 hn
      exact absurd ((readByte_cons_self d q).symm.trans (same d.1).symm) value
  | cons c r ih =>
    obtain ⟨-, valueC, tailC⟩ := canonicalFrom_cons.1 hm
    cases n with
    | nil => exact absurd ((readByte_cons_self c r).symm.trans (same c.1)) valueC
    | cons d q =>
      obtain ⟨-, valueD, tailD⟩ := canonicalFrom_cons.1 hn
      have first : d.1 ≤ c.1 := head_le_of_readByte_ne hn (by rwa [← same, readByte_cons_self])
      have second : c.1 ≤ d.1 := head_le_of_readByte_ne hm (by rwa [same, readByte_cons_self])
      have address : c.1 = d.1 := by omega
      have value : c.2 = d.2 := by rw [← readByte_cons_self c r, same, address, readByte_cons_self]
      have rest : r = q := by
        refine ih tailC (address ▸ tailD) fun a => ?_
        by_cases at_ : c.1 = a
        · rw [readByte_below tailC (by omega), readByte_below tailD (by omega)]
        · rw [← readByte_cons_other r at_, same, readByte_cons_other q (by omega)]
      rw [Prod.ext address value, rest]

/-! ### What this core sees after a store (20_memory.md rules R230, R231) -/

/-- The last store of a list decides where it covers the byte. -/
theorem byteAfter_append_singleton (m : List Host.Cell) (l : List BufferedStore) (b : BufferedStore) (a : Nat) :
    byteAfter m (l ++ [b]) a =
      if b.addr ≤ a ∧ a < b.addr + b.size then (b.value >>> (8 * (a - b.addr))).setWidth 8 else byteAfter m l a := by
  simp only [byteAfter, List.foldl_append, List.foldl_cons, List.foldl_nil]

/-- Only the byte itself matters of the memory before. -/
theorem byteAfter_congr {m n : List Host.Cell} {a : Nat} (h : readByte m a = readByte n a) (l : List BufferedStore) :
    byteAfter m l a = byteAfter n l a := by
  simp only [byteAfter, h]

/-- A byte that no store of the list covers stays. -/
theorem byteAfter_uncovered {m : List Host.Cell} {l : List BufferedStore} {a : Nat}
    (h : ∀ c ∈ l, ¬ (c.addr ≤ a ∧ a < c.addr + c.size)) : byteAfter m l a = readByte m a := by
  induction l using List.reverseRecOn with
  | nil => rfl
  | append_singleton l c ih =>
    rw [byteAfter_append_singleton, if_neg (h c (by simp))]
    exact ih fun d hd => h d (by simp [hd])

/-- Stores that share no byte do not cover the same address. -/
theorem BufferedStore.not_covers_of_disjoint {b c : BufferedStore} {a : Nat} (h : c.overlaps b = false)
    (covered : b.addr ≤ a ∧ a < b.addr + b.size) : ¬ (c.addr ≤ a ∧ a < c.addr + c.size) := by
  simp only [BufferedStore.overlaps, Bool.and_eq_false_iff, decide_eq_false_iff_not] at h
  omega

/-- What this core sees of stores that have arrived and stores that wait. -/
theorem State.received.byteSeen {s t : State} {w : List BufferedStore × List BufferedStore} (h : s.received t w)
    (a : Nat) : t.byteSeen a = byteAfter t.mem w.2 a := by
  unfold State.byteSeen
  rw [h.2]

/-- Whether a store waits, follows the buffer or passes it by, this core sees it where it covers the byte. -/
theorem State.byteSeen_landStore (s : State) (cca : BitVec 3) (b : BufferedStore) (a : Nat) :
    (s.landStore cca b).byteSeen a =
      if b.addr ≤ a ∧ a < b.addr + b.size then (b.value >>> (8 * (a - b.addr))).setWidth 8 else s.byteSeen a := by
  have stored := s.received_landStore cca b
  have arrived := stored.1 a
  have lastDecides := byteAfter_append_singleton s.mem s.accel b a
  rw [stored.byteSeen]
  unfold arrivals at arrived ⊢
  by_cases waits : cca = 7
  · simp only [if_pos waits] at arrived ⊢
    split at arrived
    · rw [if_pos ‹_›]
      exact (byteAfter_congr arrived _).trans lastDecides
    · rw [if_neg ‹_›]
      exact arrived.trans lastDecides
  simp only [if_neg waits] at arrived ⊢
  by_cases follows : cca = 2 ∨ s.accel.any (fun c => c.overlaps b)
  · rw [if_pos follows] at arrived ⊢
    exact arrived.trans lastDecides
  rw [if_neg follows] at arrived ⊢
  have single := arrived.trans (byteAfter_append_singleton s.mem [] b a)
  by_cases covered : b.addr ≤ a ∧ a < b.addr + b.size
  · have disjoint : ∀ c ∈ s.accel, ¬ (c.addr ≤ a ∧ a < c.addr + c.size) := fun c buffered =>
      BufferedStore.not_covers_of_disjoint
        (Bool.not_eq_true _ ▸ fun shared => follows (.inr (List.any_eq_true.2 ⟨c, buffered, shared⟩))) covered
    rw [if_pos covered] at single ⊢
    exact (byteAfter_uncovered disjoint).trans single
  · rw [if_neg covered] at single ⊢
    exact byteAfter_congr single _

end Sys2Proof.Machine

namespace Sys2Proof.Claims
open Sys2Proof.Machine

/-- Settles O27: bytes and canonical form by the laws of memory, the view of this core by the three ways of a
store. -/
theorem memoryKeepsBytesInLittleEndianOrder : Obligations.MemoryKeepsBytesInLittleEndianOrder := by
  refine ⟨fun m a n v small => ⟨fun k inside => ?_, fun b outside => ?_, ?_, ?_⟩, fun m n hm hn same => ?_, ?_⟩
  · rw [readByte_writeLE, if_pos (by omega), Nat.add_sub_cancel_left]
    exact BitVec.setWidth_ushiftRight_eq_extractLsb.symm
  · exact readByte_writeLE_outside n m a b v outside
  · exact readLE_writeLE n m a v small
  · exact wf_writeLE n m a v
  · exact canonicalFrom_ext hm hn same
  · exact State.byteSeen_landStore

end Sys2Proof.Claims
end

section
/-!
SUPPORT. Where a load or a store takes an exception: off its boundary, where its translation raises, and where the
bus answers ERR.
-/
namespace Sys2Proof.Machine
open Sys2Proof.Claims

/-! ### The outcome of an exception (40_loadstore.md rule R301) -/

/-- A load whose access raises takes the exception; to register 0 it may only go on. -/
theorem loadTakes_of_finishLoad {α : Type} {i : Instr} {s : State} {rt : BitVec 5} {r : Res α} {k : α → Out}
    {e : Exc} (runs : exec i s = finishLoad rt r s k) (raises : r = .exc e) : LoadTakes i s rt e := by
  unfold LoadTakes Takes
  rw [runs, raises]
  by_cases silent : rt = 0 && !Config.loadToZeroRaises
  · exact .inr ⟨by simpa using (Bool.and_eq_true_iff.1 silent).1, if_pos silent⟩
  · exact .inl (if_neg silent)

theorem takes_of_finish {α : Type} {i : Instr} {s : State} {r : Res α} {k : α → Out} {e : Exc}
    (runs : exec i s = r.finish s k) (raises : r = .exc e) : Takes i s e := by
  unfold Takes
  rw [runs, raises]
  rfl

theorem accessFails_mono {s : State} {va : Dword} {kind : AccessKind} {at_ : Target → Nat} {n : Nat}
    {takes takes' : Exc → Prop} (h : AccessFails s va kind at_ n takes) (imp : ∀ e, takes e → takes' e) :
    AccessFails s va kind at_ n takes' :=
  ⟨fun e raises => imp e (h.1 e raises), fun g reaches err => imp .dbe (h.2 g reaches err)⟩

/-! ### Accesses that raise (20_memory.md rules R184, R216) -/

theorem aligned_of {va : Dword} {n : Nat} (store : Bool) (h : va.toNat % n = 0) : aligned va n store = .ok () :=
  if_pos h

theorem aligned_misaligned {va : Dword} {n : Nat} (store : Bool) (h : va.toNat % n ≠ 0) :
    aligned va n store = .exc (.addressError store va) := if_neg h

theorem State.reach_exc {s : State} {va : Dword} {kind : AccessKind} {e : Exc} (h : s.translate va kind = .exc e) :
    s.reach va kind = .exc e := by
  unfold State.reach
  rw [h]
  rfl

/-- What an access remembers changes nothing of the host's map. -/
theorem answersErr_remembered {s : State} {va : Dword} {g : Target} {a n : Nat} :
    AnswersErr (Remembered s va g) a n ↔ AnswersErr s a n := by
  simp only [AnswersErr, remembered_physAt]

theorem State.loadAt_err {s : State} {g : Target} {n : Nat} (h : AnswersErr s g.pa.toNat n) :
    s.loadAt g n = .exc .dbe := by
  unfold State.loadAt State.memRead
  rw [State.checkPhys_err false .dbe h]
  rfl

theorem State.memWrite_err {s : State} {g : Target} {n : Nat} (v : Dword) (h : AnswersErr s g.pa.toNat n) :
    s.memWrite g n v = .exc .dbe := by
  unfold State.memWrite
  rw [State.checkPhys_err true .dbe h]
  rfl

/-- An access that loads or stores where it reaches fails with its translation and with the bus. -/
theorem accessFails_of_reach {α : Type} {s : State} {va : Dword} {kind : AccessKind} {n : Nat} {at_ : Target → Nat}
    {access : Target × State → Res α}
    (bus : ∀ g, AnswersErr s (at_ g) n → access (g, Remembered s va g) = .exc .dbe) :
    AccessFails s va kind at_ n fun e => (s.reach va kind).bind access = .exc e := by
  refine ⟨fun e raises => ?_, fun g reaches err => ?_⟩
  · rw [State.reach_exc raises]
    rfl
  · rw [reach_of_reaches reaches]
    exact bus g err

theorem State.loadVirt_fails {s : State} {va : Dword} {n : Nat} (boundary : va.toNat % n = 0) :
    AccessFails s va .load here n fun e => s.loadVirt va n = .exc e := by
  unfold State.loadVirt
  rw [aligned_of false boundary]
  exact accessFails_of_reach fun g err => State.loadAt_err (answersErr_remembered.2 err)

theorem State.storeVirt_fails {s : State} {va : Dword} {n : Nat} (v : Dword) (boundary : va.toNat % n = 0) :
    AccessFails s va .store here n fun e => s.storeVirt va n v = .exc e := by
  unfold State.storeVirt
  rw [aligned_of true boundary]
  exact accessFails_of_reach fun g err => State.memWrite_err v (answersErr_remembered.2 err)

/-! ### The access of the load-linked and the store-conditional instructions (20_memory.md rules R241 to R244) -/

/-- The access of LL and LLD: the value, and the state with the link. -/
def State.linkedLoad (s : State) (va : Dword) (n : Nat) : Res (Dword × State) :=
  (aligned va n false).bind fun _ => (s.reach va .load).bind fun p =>
    (p.2.loadAt p.1 n).bind fun q => .ok (q.1, q.2.link p.1.pa n)

theorem State.loadLinked_eq (s : State) (rt : BitVec 5) (va : Dword) (n : Nat) (ext : Dword → Dword) :
    s.loadLinked rt va n ext = finishLoad rt (s.linkedLoad va n) s fun p => p.2.putGpr rt (ext p.1) := rfl

theorem State.linkedLoad_misaligned {s : State} {va : Dword} {n : Nat} (h : va.toNat % n ≠ 0) :
    s.linkedLoad va n = .exc (.addressError false va) := by
  unfold State.linkedLoad
  rw [aligned_misaligned false h]
  rfl

theorem State.linkedLoad_fails {s : State} {va : Dword} {n : Nat} (boundary : va.toNat % n = 0) :
    AccessFails s va .load here n fun e => s.linkedLoad va n = .exc e := by
  unfold State.linkedLoad
  rw [aligned_of false boundary]
  refine accessFails_of_reach fun g err => ?_
  rw [State.loadAt_err (answersErr_remembered.2 err)]
  rfl

/-- The access of SC and SCD of the register's value `v`: the state with the bytes stored, if it succeeds. -/
def State.conditionalStore (s : State) (va : Dword) (n : Nat) (v : Dword) : Res State :=
  (aligned va n true).bind fun _ => (s.reach va .store).bind fun p =>
    (s.fitsLink p.1 n).bind fun _ => (p.2.busAnswers p.1.pa n).bind fun _ =>
      if s.scSucceeds then p.2.memWrite p.1 n v else .ok p.2

theorem State.storeConditional_eq (s : State) (rt : BitVec 5) (va : Dword) (n : Nat) :
    s.storeConditional rt va n = (s.conditionalStore va n (s.readGpr rt)).finish s
      fun t => (t.setLLbit false).putGpr rt (boolDword s.scSucceeds) := rfl

theorem State.conditionalStore_misaligned {s : State} {va : Dword} {n : Nat} (v : Dword) (h : va.toNat % n ≠ 0) :
    s.conditionalStore va n v = .exc (.addressError true va) := by
  unfold State.conditionalStore
  rw [aligned_misaligned true h]
  rfl

theorem State.conditionalStore_exc {s : State} {va : Dword} {n : Nat} {e : Exc} (v : Dword)
    (boundary : va.toNat % n = 0) (raises : s.translate va .store = .exc e) : s.conditionalStore va n v = .exc e := by
  unfold State.conditionalStore
  rw [aligned_of true boundary, State.reach_exc raises]
  rfl

/-- At an address that is reached, a store-conditional is decided by the link, then the bus, then its luck. -/
theorem State.conditionalStore_of_reaches {s : State} {va : Dword} {n : Nat} {g : Target} (v : Dword)
    (boundary : va.toNat % n = 0) (reaches : Reaches s va .store g) :
    s.conditionalStore va n v = (s.fitsLink g n).bind fun _ => ((Remembered s va g).busAnswers g.pa n).bind fun _ =>
      if s.scSucceeds then (Remembered s va g).memWrite g n v else .ok (Remembered s va g) := by
  unfold State.conditionalStore
  rw [aligned_of true boundary, reach_of_reaches reaches]
  rfl

/-! ### The instructions as accesses (40_loadstore.md, 47_custom_int.md) -/

theorem exec_loads (s : State) : ∀ p ∈ loads, (p.wide = true → s.are64 = true) → ∀ base rt imm,
    exec (p.instr base rt imm) s = s.loadTo rt (s.readGpr base + imm.signExtend 64) p.size p.ext := by
  simp only [loads, List.forall_mem_cons]
  exact ⟨fun _ _ _ _ => rfl, fun _ _ _ _ => rfl, fun _ _ _ _ => rfl, fun _ _ _ _ => rfl, fun _ _ _ _ => rfl,
    fun wide _ _ _ => need64_on (wide trivial) _, fun wide _ _ _ => need64_on (wide trivial) _, nofun⟩

theorem exec_stores (s : State) : ∀ p ∈ stores, (p.wide = true → s.are64 = true) → ∀ base rt imm,
    exec (p.instr base rt imm) s = s.storeFrom (s.readGpr base + imm.signExtend 64) p.size (s.readGpr rt) := by
  simp only [stores, List.forall_mem_cons]
  exact ⟨fun _ _ _ _ => rfl, fun _ _ _ _ => rfl, fun _ _ _ _ => rfl, fun wide _ _ _ => need64_on (wide trivial) _,
    nofun⟩

theorem exec_ll (s : State) (base rt : BitVec 5) (imm : BitVec 16) :
    exec (.ll base rt imm) s = s.loadLinked rt (s.readGpr base + imm.signExtend 64) 4 (sx 32) := rfl

theorem exec_lld (s : State) (base rt : BitVec 5) (imm : BitVec 16) :
    exec (.lld base rt imm) s = need64 s (s.loadLinked rt (s.readGpr base + imm.signExtend 64) 8 id) := rfl

theorem exec_sc (s : State) (base rt : BitVec 5) (imm : BitVec 16) :
    exec (.sc base rt imm) s = s.storeConditional rt (s.readGpr base + imm.signExtend 64) 4 := rfl

theorem exec_scd (s : State) (base rt : BitVec 5) (imm : BitVec 16) :
    exec (.scd base rt imm) s = need64 s (s.storeConditional rt (s.readGpr base + imm.signExtend 64) 8) := rfl

/-! The custom forms come after the check of coprocessor 2 (47_custom_int.md rule R634). -/

theorem needCop2_on {s : State} (h : s.cu 2 = true) (k : Out) : needCop 2 s k = k := needCop_on (n := 2) h k

theorem needCop2_need64 {s : State} (h : s.cu 2 = true) (wide : s.are64 = true) (k : Out) :
    needCop 2 s (need64 s k) = k := by rw [needCop2_on h, need64_on wide]

section
variable {s : State} (usable : s.cu 2 = true)
include usable

theorem exec_indexedLoads : ∀ p ∈ indexedLoads, (p.wide = true → s.are64 = true) → ∀ base rt index off,
    exec (p.instr base rt index off) s =
      s.loadTo rt (s.readGpr base + s.readGpr index + off.signExtend 64) p.size p.ext := by
  simp only [indexedLoads, List.forall_mem_cons]
  exact ⟨fun _ _ _ _ _ => needCop2_on usable _, fun _ _ _ _ _ => needCop2_on usable _,
    fun _ _ _ _ _ => needCop2_on usable _, fun wide _ _ _ _ => needCop2_need64 usable (wide trivial) _, nofun⟩

theorem exec_indexedStores : ∀ p ∈ indexedStores, (p.wide = true → s.are64 = true) → ∀ base rt index off,
    exec (p.instr base rt index off) s =
      s.storeFrom (s.readGpr base + s.readGpr index + off.signExtend 64) p.size (s.readGpr rt) := by
  simp only [indexedStores, List.forall_mem_cons]
  exact ⟨fun _ _ _ _ _ => needCop2_on usable _, fun _ _ _ _ _ => needCop2_on usable _,
    fun _ _ _ _ _ => needCop2_on usable _, fun wide _ _ _ _ => needCop2_need64 usable (wide trivial) _, nofun⟩

theorem exec_upperLoads : ∀ p ∈ upperLoads, (p.wide = true → s.are64 = true) → ∀ base rt bound,
    exec (p.instr base rt bound) s =
      s.loadBound rt (s.readGpr base) p.size (boundLe (s.readGpr base) (s.readGpr bound)) p.ext := by
  simp only [upperLoads, List.forall_mem_cons]
  exact ⟨fun _ _ _ _ => needCop2_on usable _, fun _ _ _ _ => needCop2_on usable _,
    fun _ _ _ _ => needCop2_on usable _, fun wide _ _ _ => needCop2_need64 usable (wide trivial) _, nofun⟩

theorem exec_lowerLoads : ∀ p ∈ lowerLoads, (p.wide = true → s.are64 = true) → ∀ base rt bound,
    exec (p.instr base rt bound) s =
      s.loadBound rt (s.readGpr base) p.size (!boundLe (s.readGpr base) (s.readGpr bound)) p.ext := by
  simp only [lowerLoads, List.forall_mem_cons]
  exact ⟨fun _ _ _ _ => needCop2_on usable _, fun _ _ _ _ => needCop2_on usable _,
    fun _ _ _ _ => needCop2_on usable _, fun wide _ _ _ => needCop2_need64 usable (wide trivial) _, nofun⟩

theorem exec_upperStores : ∀ p ∈ upperStores, (p.wide = true → s.are64 = true) → ∀ base rt bound,
    exec (p.instr base rt bound) s =
      s.storeBound (s.readGpr base) p.size (boundLe (s.readGpr base) (s.readGpr bound)) (s.readGpr rt) := by
  simp only [upperStores, List.forall_mem_cons]
  exact ⟨fun _ _ _ _ => needCop2_on usable _, fun _ _ _ _ => needCop2_on usable _,
    fun _ _ _ _ => needCop2_on usable _, fun wide _ _ _ => needCop2_need64 usable (wide trivial) _, nofun⟩

theorem exec_lowerStores : ∀ p ∈ lowerStores, (p.wide = true → s.are64 = true) → ∀ base rt bound,
    exec (p.instr base rt bound) s =
      s.storeBound (s.readGpr base) p.size (!boundLe (s.readGpr base) (s.readGpr bound)) (s.readGpr rt) := by
  simp only [lowerStores, List.forall_mem_cons]
  exact ⟨fun _ _ _ _ => needCop2_on usable _, fun _ _ _ _ => needCop2_on usable _,
    fun _ _ _ _ => needCop2_on usable _, fun wide _ _ _ => needCop2_need64 usable (wide trivial) _, nofun⟩

end

end Sys2Proof.Machine
end

section
/-!
PROOFS of 20_memory.md, second part: accesses off their boundary, failed bound checks and bus errors (O26).
-/
namespace Sys2Proof.Claims
open Sys2Proof.Machine

/-- An instruction that is a load fails as its access does. -/
theorem loadFails_of_loadTo {F : Type} {p : LoadRow F} {i : Instr} {s : State} {rt : BitVec 5} {va : Dword}
    {ext : Dword → Dword} (runs : (p.wide = true → s.are64 = true) → exec i s = s.loadTo rt va p.size ext) :
    LoadFails p i s rt va :=
  fun wide => ⟨fun off => loadTakes_of_finishLoad (runs wide) (State.loadVirt_misaligned off),
    fun boundary => accessFails_mono (State.loadVirt_fails boundary) fun _ => loadTakes_of_finishLoad (runs wide)⟩

/-- An instruction that is a store fails as its access does. -/
theorem storeFails_of_storeFrom {F : Type} {p : StoreRow F} {i : Instr} {s : State} {va v : Dword}
    (runs : (p.wide = true → s.are64 = true) → exec i s = s.storeFrom va p.size v) : StoreFails p i s va :=
  fun wide => ⟨fun off => takes_of_finish (runs wide) (State.storeVirt_misaligned off),
    fun boundary => accessFails_mono (State.storeVirt_fails v boundary) fun _ => takes_of_finish (runs wide)⟩

/-- A load whose bound check passes is a load. -/
theorem loadFails_of_loadBound {F : Type} {p : LoadRow F} {i : Instr} {s : State} {rt : BitVec 5} {va : Dword}
    {ext : Dword → Dword} {ok : Bool}
    (runs : (p.wide = true → s.are64 = true) → exec i s = s.loadBound rt va p.size ok ext) (passes : ok = true) :
    LoadFails p i s rt va :=
  loadFails_of_loadTo fun wide => by rw [runs wide, passes]; rfl

theorem storeFails_of_storeBound {F : Type} {p : StoreRow F} {i : Instr} {s : State} {va v : Dword} {ok : Bool}
    (runs : (p.wide = true → s.are64 = true) → exec i s = s.storeBound va p.size ok v) (passes : ok = true) :
    StoreFails p i s va :=
  storeFails_of_storeFrom fun wide => by rw [runs wide, passes]; rfl

/-- A failed bound check comes before everything else of the access (47_custom_int.md rule R633; log 58). -/
theorem loadTakes_of_loadBound {i : Instr} {s : State} {rt : BitVec 5} {va : Dword} {n : Nat} {ext : Dword → Dword}
    {ok : Bool} (runs : exec i s = s.loadBound rt va n ok ext) (fails : ok = false) :
    LoadTakes i s rt (.boundError false) :=
  loadTakes_of_finishLoad runs (by rw [fails]; rfl)

theorem takes_of_storeBound {i : Instr} {s : State} {va v : Dword} {n : Nat} {ok : Bool}
    (runs : exec i s = s.storeBound va n ok v) (fails : ok = false) : Takes i s (.boundError true) :=
  takes_of_finish runs (by rw [fails]; rfl)

theorem loads_fail (s : State) (base rt : BitVec 5) (imm : BitVec 16) :
    ∀ p ∈ loads, LoadFails p (p.instr base rt imm) s rt (s.readGpr base + imm.signExtend 64) :=
  fun p row => loadFails_of_loadTo fun wide => exec_loads s p row wide base rt imm

theorem stores_fail (s : State) (base rt : BitVec 5) (imm : BitVec 16) :
    ∀ p ∈ stores, StoreFails p (p.instr base rt imm) s (s.readGpr base + imm.signExtend 64) :=
  fun p row => storeFails_of_storeFrom fun wide => exec_stores s p row wide base rt imm

/-- The loads that have a boundary take Address Error off it, LL and LLD among them. -/
theorem alignedLoads_take {s : State} {base rt : BitVec 5} {imm : BitVec 16} :
    ∀ p ∈ alignedLoads, (p.wide = true → s.are64 = true) → (s.readGpr base + imm.signExtend 64).toNat % p.size ≠ 0 →
      LoadTakes (p.instr base rt imm) s rt (.addressError false (s.readGpr base + imm.signExtend 64)) := by
  simp only [alignedLoads, List.forall_mem_append, List.forall_mem_cons]
  refine ⟨fun p row wide => (loads_fail s base rt imm p (List.mem_of_mem_tail (List.mem_of_mem_tail row)) wide).1,
    fun _ off => ?_, fun wide off => ?_, nofun⟩
  · exact loadTakes_of_finishLoad (exec_ll s base rt imm) (State.linkedLoad_misaligned off)
  · exact loadTakes_of_finishLoad ((exec_lld s base rt imm).trans (need64_on (wide trivial) _))
      (State.linkedLoad_misaligned off)

/-- The stores that have a boundary take Address Error off it, SC and SCD among them. -/
theorem alignedStores_take {s : State} {base rt : BitVec 5} {imm : BitVec 16} :
    ∀ p ∈ alignedStores, (p.wide = true → s.are64 = true) → (s.readGpr base + imm.signExtend 64).toNat % p.size ≠ 0 →
      Takes (p.instr base rt imm) s (.addressError true (s.readGpr base + imm.signExtend 64)) := by
  simp only [alignedStores, List.forall_mem_append, List.forall_mem_cons]
  refine ⟨fun p row wide => (stores_fail s base rt imm p (List.mem_of_mem_tail row) wide).1,
    fun _ off => ?_, fun wide off => ?_, nofun⟩
  · exact takes_of_finish (exec_sc s base rt imm) (State.conditionalStore_misaligned _ off)
  · exact takes_of_finish ((exec_scd s base rt imm).trans (need64_on (wide trivial) _))
      (State.conditionalStore_misaligned _ off)

/-- Settles O26: every row is an access, and an access fails at its bound check, its boundary, its translation or
the bus, in this order. -/
theorem misalignedAccessesTakeAddressError : Obligations.MisalignedAccessesTakeAddressError := by
  intro s base rt imm
  refine ⟨fun store => ⟨rfl, fun _ => rfl, fun _ => rfl⟩, alignedLoads_take, alignedStores_take,
    loads_fail s base rt imm, stores_fail s base rt imm, fun usable index bound off => ?_⟩
  refine ⟨fun p row => ?_, fun p row => ?_, fun p row => ?_, fun p row => ?_, fun p row => ?_, fun p row => ?_⟩
  · exact loadFails_of_loadTo fun wide => exec_indexedLoads usable p row wide base rt index off
  · exact storeFails_of_storeFrom fun wide => exec_indexedStores usable p row wide base rt index off
  · have runs wide := exec_upperLoads usable p row wide base rt bound
    exact ⟨loadFails_of_loadBound runs, fun above wide => loadTakes_of_loadBound (runs wide) above⟩
  · have runs wide := exec_lowerLoads usable p row wide base rt bound
    exact ⟨fun above => loadFails_of_loadBound runs (by rw [above]; rfl),
      fun below wide => loadTakes_of_loadBound (runs wide) (by rw [below]; rfl)⟩
  · have runs wide := exec_upperStores usable p row wide base rt bound
    exact ⟨storeFails_of_storeBound runs, fun above wide => takes_of_storeBound (runs wide) above⟩
  · have runs wide := exec_lowerStores usable p row wide base rt bound
    exact ⟨fun above => storeFails_of_storeBound runs (by rw [above]; rfl),
      fun below wide => takes_of_storeBound (runs wide) (by rw [below]; rfl)⟩

end Sys2Proof.Claims
end

section
/-!
PROOFS of 20_memory.md, third part: the link and the store-conditional instructions (O24).
-/
namespace Sys2Proof.Machine
open Sys2Proof.Claims

/-! ### LL and LLD (20_memory.md rule R241) -/

/-- What LLAddr keeps of a physical address: the page number in place. -/
theorem linkAddress_eq (pa : PhysAddr) :
    pa.setWidth 64 &&& 0x0000FFFFFFFFF000#64 = (0#16 ++ pa.extractLsb' 12 36 ++ 0#12 : BitVec 64) := by
  have mask : ∀ i < 64, (0x0000FFFFFFFFF000#64).getLsbD i = decide (12 ≤ i ∧ i < 48) := by decide
  apply BitVec.eq_of_getLsbD_eq
  intro i hi
  rw [BitVec.getLsbD_and, mask i hi, BitVec.getLsbD_setWidth]
  simp only [BitVec.getLsbD_append, BitVec.getLsbD_extractLsb', BitVec.getLsbD_zero]
  by_cases low : i < 12
  · simp [low]
  · by_cases high : i < 48
    · have offset : 12 + (i - 12) = i := by omega
      have field : i - 12 < 36 := by omega
      simp [low, high, hi, offset, field, Nat.le_of_not_lt low]
    · simp [low, high, show ¬ i - 12 < 36 by omega]

/-- Remembering a colour changes nothing that a load sees. -/
theorem remembered_seenLE (s : State) (va : Dword) (g : Target) (a n : Nat) :
    (Remembered s va g).seenLE a n = s.seenLE a n := by rw [remembered_fields]; rfl

theorem State.linkedLoad_of_readable {s : State} {va : Dword} {n : Nat} {g : Target} (h : Readable s va n g) :
    s.linkedLoad va n = .ok (s.seenLE g.pa.toNat n, (Remembered s va g).link g.pa n) := by
  obtain ⟨reaches, boundary, mapped⟩ := h
  have read : (Remembered s va g).memRead g.pa n = .ok (s.seenLE g.pa.toNat n) :=
    State.memRead_ok.2 ⟨by simpa only [InMemory, remembered_physAt] using mapped, remembered_seenLE s va g _ n⟩
  unfold State.linkedLoad State.loadAt
  rw [aligned_of false boundary, reach_of_reaches reaches]
  simp only [Res.bind, read]

/-- A linked load that reads its bytes writes the register and the link. -/
theorem links_of_readable {i : Instr} {s : State} {va : Dword} {rt : BitVec 5} {g : Target} {n : Nat}
    {ext : Dword → Dword} (runs : exec i s = s.loadLinked rt va n ext) (readable : Readable s va n g) :
    Links i s va rt g n (ext (s.seenLE g.pa.toNat n)) := by
  have ends := runs.trans (s.loadLinked_eq rt va n ext)
  rw [State.linkedLoad_of_readable readable] at ends
  refine ⟨_, ends, ?_⟩
  rw [remembered_fields]
  refine ⟨⟨by simp, by simp, rfl⟩, fun a => by simp, fun r => ?_, by simp, by simp, ?_, ?_⟩
  · simp only [State.advance_readGpr, State.readGpr_writeGpr, State.link_readGpr]
    rfl
  · rw [← linkAddress_eq]
    simp
    rfl
  · unfold State.sameButFlow State.writeGpr
    split <;> rfl

theorem loadLinkedCases_of_loadLinked {i : Instr} {s : State} {va : Dword} {rt : BitVec 5} {n : Nat}
    {ext : Dword → Dword} (runs : exec i s = s.loadLinked rt va n ext) : LoadLinkedCases i s va rt n ext :=
  fun boundary => ⟨fun _ readable => links_of_readable runs readable,
    accessFails_mono (State.linkedLoad_fails boundary) fun _ => loadTakes_of_finishLoad runs⟩

/-! ### SC and SCD (20_memory.md rules R242 to R244) -/

theorem fitsLink_iff {s : State} {g : Target} {n : Nat} : s.fitsLink g n = .ok () ↔ FitsLink s g n := by
  rw [State.fitsLink_ok]
  unfold FitsLink
  refine and_congr_right fun _ => forall_congr' fun ⟨pa, size⟩ => ?_
  simp only [Option.mem_def, Link.mk.injEq]

theorem State.fitsLink_refused {s : State} {g : Target} {n : Nat} (h : ¬ FitsLink s g n) :
    s.fitsLink g n = .refused .mismatchedStoreConditional := by
  rw [← fitsLink_iff] at h
  unfold State.fitsLink at h ⊢
  split
  · rename_i fits
    exact absurd (if_pos fits) h
  · rfl

/-- The bus answers a store to bytes that are all RAM. -/
theorem State.busAnswers_of_inRam {s : State} {pa : PhysAddr} {n : Nat} (h : InRam s pa.toNat n) :
    s.busAnswers pa n = .ok () := by
  rcases s.busAnswers_cases pa n with ⟨⟨i, inside, err⟩, -⟩ | ⟨-, answers⟩
  · rw [h i inside] at err
    cases err
  · exact answers

theorem State.busAnswers_err {s : State} {pa : PhysAddr} {n : Nat} (h : AnswersErr s pa.toNat n) :
    s.busAnswers pa n = .exc .dbe := if_pos (State.physKinds_contains.2 h)

theorem remembered_accel (s : State) (va : Dword) (g : Target) : (Remembered s va g).accel = s.accel := by
  rw [remembered_fields]

/-- The end of a store-conditional, from a state `u` that differs from `s` in the colours, memory and the buffer. -/
theorem State.endsConditionally {s u : State} {va : Dword} {g : Target} {w : List BufferedStore × List BufferedStore}
    (stored : u = { Remembered s va g with mem := u.mem, stale := u.stale, accel := u.accel })
    (received : (Remembered s va g).received u w) (rt : BitVec 5) (v : Dword) :
    let t := ((u.setLLbit false).writeGpr rt v).advance
    t.llbit = false ∧ s.wentOn t ∧ State.sameButFlow { Remembered s va g with
      gpr := t.gpr, llbit := false, mem := t.mem, stale := t.stale, accel := t.accel } t ∧
    s.gprsBut t rt v ∧ s.received t w := by
  rw [remembered_fields] at stored received ⊢
  refine ⟨by simp, ?_, ?_, ?_, fun a => ?_, ?_⟩
  · rw [stored]
    exact ⟨by simp, by simp, rfl⟩
  · rw [stored]
    unfold State.sameButFlow State.writeGpr
    split <;> rfl
  · intro r
    simp only [State.advance_readGpr, State.readGpr_writeGpr, State.setLLbit_readGpr]
    rw [stored]
    rfl
  · simpa using received.1 a
  · simpa using received.2

/-- A store-conditional that fits the link and whose bytes are RAM completes, with the store or without. -/
theorem storesConditionally_of_fits {i : Instr} {s : State} {va : Dword} {rt : BitVec 5} {g : Target} {n : Nat}
    (runs : exec i s = s.storeConditional rt va n) (boundary : va.toNat % n = 0) (reaches : Reaches s va .store g)
    (fits : FitsLink s g n) (ram : InRam s g.pa.toNat n) : StoresConditionally i s va rt g n := by
  have ram' : InRam (Remembered s va g) g.pa.toNat n := by simpa only [InRam, remembered_physAt] using ram
  have ends := runs.trans (s.storeConditional_eq rt va n)
  rw [State.conditionalStore_of_reaches _ boundary reaches, fitsLink_iff.2 fits] at ends
  simp only [Res.bind, State.busAnswers_of_inRam ram'] at ends
  cases luck : s.scSucceeds with
  | true =>
    have linked : s.llbit = true := (Bool.and_eq_true_iff.1 luck).1
    have arrived := (Remembered s va g).received_landStore g.cca ⟨g.pa.toNat, n, s.readGpr rt⟩
    rw [luck, if_pos rfl, State.memWrite_ok.2 ⟨ram', rfl⟩] at ends
    obtain ⟨cleared, went, fields, gprs, received⟩ :=
      State.endsConditionally (State.landStore_fields _ _ _) arrived rt 1
    exact ⟨_, ends, cleared, went, fields, .inl ⟨linked, gprs, remembered_accel s va g ▸ received⟩⟩
  | false =>
    have arrived : (Remembered s va g).received (Remembered s va g) ([], s.accel) :=
      ⟨fun _ => rfl, remembered_accel s va g⟩
    rw [luck, if_neg nofun] at ends
    obtain ⟨cleared, went, fields, gprs, received⟩ := State.endsConditionally rfl arrived rt 0
    exact ⟨_, ends, cleared, went, fields, .inr ⟨gprs, received⟩⟩

theorem storeConditionalCases_of_storeConditional {i : Instr} {s : State} {va : Dword} {rt : BitVec 5} {n : Nat}
    (runs : exec i s = s.storeConditional rt va n) : StoreConditionalCases i s va rt n := by
  intro boundary
  have ends := runs.trans (s.storeConditional_eq rt va n)
  refine ⟨fun e raises => takes_of_finish ends (State.conditionalStore_exc _ boundary raises), fun g reaches =>
    ⟨fun misfit => ?_, fun fits err => takes_of_finish ends ?_, storesConditionally_of_fits runs boundary reaches⟩⟩
  · rw [ends, State.conditionalStore_of_reaches _ boundary reaches, State.fitsLink_refused misfit]
    rfl
  · rw [State.conditionalStore_of_reaches _ boundary reaches, fitsLink_iff.2 fits]
    simp only [Res.bind, State.busAnswers_err (answersErr_remembered.2 err)]

end Sys2Proof.Machine

namespace Sys2Proof.Claims
open Sys2Proof.Machine

/-- Settles O24: both widths are the one load-linked and the one store-conditional access. -/
theorem loadLinkedAndStoreConditional : Obligations.LoadLinkedAndStoreConditional := by
  intro s base rt imm
  refine ⟨loadLinkedCases_of_loadLinked (exec_ll s base rt imm),
    storeConditionalCases_of_storeConditional (exec_sc s base rt imm), fun on => ⟨?_, ?_⟩, fun off => ⟨?_, ?_⟩⟩
  · exact loadLinkedCases_of_loadLinked ((exec_lld s base rt imm).trans (need64_on on _))
  · exact storeConditionalCases_of_storeConditional ((exec_scd s base rt imm).trans (need64_on on _))
  · exact (exec_lld s base rt imm).trans (need64_off off _)
  · exact (exec_scd s base rt imm).trans (need64_off off _)

end Sys2Proof.Claims
end

section
/-!
SUPPORT. Segments as ranges of addresses, and what translation gives in each of them.
-/
namespace Sys2Proof.Machine
open Sys2Proof.Claims

/-! ### The segments by address (20_memory.md rules R191 to R194) -/

/-- A field of an address as a number. -/
theorem extractLsb'_eq_iff (v : Dword) (lo n : Nat) (k : BitVec n) :
    v.extractLsb' lo n = k ↔ v.toNat / 2 ^ lo % 2 ^ n = k.toNat := by
  rw [← BitVec.toNat_inj, BitVec.extractLsb'_toNat, Nat.shiftRight_eq_div_pow]

/-- The map of kernel mode, from the lowest address up. -/
theorem kernelSegment_eq (va : Dword) :
    kernelSegment va =
      if va.toNat < 2 ^ 48 then .mapped true
      else if va.toNat < 2 ^ 62 then .error
      else if va.toNat < 2 ^ 62 + 2 ^ 48 then .mapped false
      else if va.toNat < 2 ^ 63 then .error
      else if va.toNat < 0xC000000000000000 then .xkphy
      else if va.toNat < 0xC00000FF80000000 then .mapped false
      else if va.toNat < 0xC000FFFF80000000 then .doubtful
      else if va.toNat < 0xFFFFFFFF80000000 then .error
      else if va.toNat < 0xFFFFFFFFA0000000 then .ckseg0
      else if va.toNat < 0xFFFFFFFFC0000000 then .ckseg1
      else .mapped false := by
  have small := va.isLt
  unfold kernelSegment
  simp only [extractLsb'_eq_iff, BitVec.le_def, BitVec.toNat_ofNat, -Nat.reducePow, -Nat.reduceAdd]
  generalize va.toNat = a at small ⊢
  by_cases xkuseg : a < 2 ^ 48
  · rw [if_pos xkuseg, if_pos (by omega), if_pos (by omega)]
  rw [if_neg xkuseg]
  by_cases gap : a < 2 ^ 62
  · rw [if_pos gap, if_pos (by omega), if_neg (by omega)]
  rw [if_neg gap, if_neg (c := a / 2 ^ 62 % 2 ^ 2 = 0) (by omega)]
  by_cases xksseg : a < 2 ^ 62 + 2 ^ 48
  · rw [if_pos xksseg, if_pos (by omega), if_pos (by omega)]
  rw [if_neg xksseg]
  by_cases gap' : a < 2 ^ 63
  · rw [if_pos gap', if_pos (by omega), if_neg (by omega)]
  rw [if_neg gap', if_neg (c := a / 2 ^ 62 % 2 ^ 2 = 1) (by omega)]
  by_cases xkphy : a < 0xC000000000000000
  · rw [if_pos xkphy, if_pos (by omega)]
  rw [if_neg xkphy, if_neg (c := a / 2 ^ 62 % 2 ^ 2 = 2) (by omega)]
  by_cases compat : a < 0xFFFFFFFF80000000
  · rw [if_neg (c := a / 2 ^ 31 % 2 ^ 33 = 0x1FFFFFFFF) (by omega)]
    by_cases xkseg : a < 0xC00000FF80000000
    · rw [if_pos xkseg, if_pos (by omega)]
    rw [if_neg xkseg, if_neg (c := a ≤ _) (by omega)]
    by_cases doubtful : a < 0xC000FFFF80000000
    · rw [if_pos doubtful, if_pos (by omega)]
    · rw [if_neg doubtful, if_neg (by omega), if_pos compat]
  · rw [if_pos (c := a / 2 ^ 31 % 2 ^ 33 = 0x1FFFFFFFF) (by omega),
      if_neg (c := a < 0xC00000FF80000000) (by omega), if_neg (c := a < 0xC000FFFF80000000) (by omega), if_neg compat]
    by_cases ckseg0 : a < 0xFFFFFFFFA0000000
    · rw [if_pos ckseg0, if_pos (by omega)]
    rw [if_neg ckseg0, if_neg (c := a / 2 ^ 29 % 2 ^ 2 = 0) (by omega)]
    by_cases ckseg1 : a < 0xFFFFFFFFC0000000
    · rw [if_pos ckseg1, if_pos (by omega)]
    · rw [if_neg ckseg1, if_neg (by omega)]

/-- The map of supervisor mode. -/
theorem supervisorSegment_eq (va : Dword) :
    supervisorSegment va =
      if va.toNat < 2 ^ 48 then .mapped true
      else if 2 ^ 62 ≤ va.toNat ∧ va.toNat < 2 ^ 62 + 2 ^ 48 then .mapped false
      else if 0xFFFFFFFFC0000000 ≤ va.toNat ∧ va.toNat < 0xFFFFFFFFE0000000 then .mapped false
      else .error := by
  have small := va.isLt
  have xsuseg : va.toNat / 2 ^ 48 % 2 ^ 16 = 0 ↔ va.toNat < 2 ^ 48 := by omega
  have xsseg : va.toNat / 2 ^ 48 % 2 ^ 16 = 0x4000 ↔ 2 ^ 62 ≤ va.toNat ∧ va.toNat < 2 ^ 62 + 2 ^ 48 := by omega
  have csseg : va.toNat / 2 ^ 29 % 2 ^ 35 = 0x7FFFFFFFE ↔
      0xFFFFFFFFC0000000 ≤ va.toNat ∧ va.toNat < 0xFFFFFFFFE0000000 := by omega
  unfold supervisorSegment
  simp only [extractLsb'_eq_iff, BitVec.toNat_ofNat, xsuseg, xsseg, csseg]

/-- The map of user mode. -/
theorem userSegment_eq (va : Dword) : userSegment va = if va.toNat < 2 ^ 48 then .mapped true else .error := by
  have small := va.isLt
  have xuseg : va.toNat / 2 ^ 48 % 2 ^ 16 = 0 ↔ va.toNat < 2 ^ 48 := by omega
  unfold userSegment
  simp only [extractLsb'_eq_iff, BitVec.toNat_ofNat, xuseg]

/-! ### Addresses that are legal without the 64-bit enables (20_memory.md rule R197) -/

theorem isCompat_iff (va : Dword) : isCompat va = true ↔ IsWord va := by
  unfold isCompat isWordValue sextLow IsWord
  rw [beq_iff_eq, eq_comm]

/-- The compatibility segments hold sign-extended words. -/
theorem isWord_of_high {va : Dword} (h : 0xFFFFFFFF80000000 ≤ va.toNat) : IsWord va := by
  have small := va.isLt
  have negative : (va.setWidth 32).msb = true := by
    rw [BitVec.msb_eq_decide, BitVec.toNat_setWidth, decide_eq_true_eq]
    omega
  apply BitVec.eq_of_toNat_eq
  rw [BitVec.toNat_signExtend, if_pos negative, BitVec.toNat_setWidth, BitVec.toNat_setWidth]
  omega

/-! ### Modes (60_exceptions.md rule R931) -/

/-- One of the three modes. -/
def State.HasMode (s : State) : Prop := s.isKernel = true ∨ s.isSupervisor = true ∨ s.isUser = true

theorem State.not_undefinedMode {s : State} (h : s.HasMode) : ¬ (s.ksu = 3 && !s.exl && !s.erl) = true := by
  unfold State.HasMode State.isKernel State.isSupervisor State.isUser at h
  intro undefined
  simp only [Bool.and_eq_true, decide_eq_true_eq, Bool.not_eq_true'] at undefined
  obtain ⟨⟨ksu, exl⟩, erl⟩ := undefined
  simp [ksu, exl, erl] at h

theorem State.isSupervisor_iff {s : State} :
    s.isSupervisor = true ↔ s.ksu = 1 ∧ s.exl = false ∧ s.erl = false := by
  simp only [State.isSupervisor, Bool.and_eq_true, beq_iff_eq, Bool.not_eq_true', and_assoc]

theorem State.isUser_iff {s : State} : s.isUser = true ↔ s.ksu = 2 ∧ s.exl = false ∧ s.erl = false := by
  simp only [State.isUser, Bool.and_eq_true, beq_iff_eq, Bool.not_eq_true', and_assoc]

theorem State.segment_kernel {s : State} {va : Dword} (kernel : s.isKernel = true)
    (legal : s.kx = true ∨ IsWord va) : s.segment va = kernelSegment va := by
  rw [← isCompat_iff, ← Bool.or_eq_true] at legal
  unfold State.segment
  rw [if_pos kernel, if_pos legal]

theorem State.segment_supervisor {s : State} {va : Dword} (supervisor : s.isSupervisor = true)
    (legal : s.sx = true ∨ IsWord va) : s.segment va = supervisorSegment va := by
  obtain ⟨ksu, exl, erl⟩ := State.isSupervisor_iff.1 supervisor
  rw [← isCompat_iff, ← Bool.or_eq_true] at legal
  unfold State.segment
  rw [if_neg (by simp [State.isKernel, ksu, exl, erl]), if_pos supervisor, if_pos legal]

theorem State.segment_user {s : State} {va : Dword} (user : s.isUser = true) (legal : s.ux = true ∨ IsWord va) :
    s.segment va = userSegment va := by
  obtain ⟨ksu, exl, erl⟩ := State.isUser_iff.1 user
  rw [← isCompat_iff, ← Bool.or_eq_true] at legal
  unfold State.segment
  rw [if_neg (by simp [State.isKernel, ksu, exl, erl]), if_neg (by simp [State.isSupervisor, ksu]), if_pos legal]

/-- With the enable of its mode at 0, an address that is no sign-extended word is in no segment. -/
theorem State.segment_disabled {s : State} {va : Dword}
    (disabled : (s.isKernel = true ∧ s.kx = false) ∨ (s.isSupervisor = true ∧ s.sx = false) ∨
      (s.isUser = true ∧ s.ux = false)) (long : ¬ IsWord va) : s.segment va = .error := by
  rw [← isCompat_iff] at long
  unfold State.segment
  rcases disabled with ⟨kernel, kx⟩ | ⟨supervisor, sx⟩ | ⟨user, ux⟩
  · simp [kernel, kx, long]
  · obtain ⟨ksu, exl, erl⟩ := State.isSupervisor_iff.1 supervisor
    simp [State.isKernel, ksu, exl, erl, supervisor, sx, long]
  · obtain ⟨ksu, exl, erl⟩ := State.isUser_iff.1 user
    simp [State.isKernel, State.isSupervisor, ksu, exl, erl, ux, long]

/-! ### What translation gives in a segment (20_memory.md rules R195 to R199, R215, R226) -/

section
variable {s : State} {va : Dword} (mode : s.HasMode)
include mode

theorem State.translate_error (segment : s.segment va = .error) (kind : AccessKind) :
    s.translate va kind = .exc (.addressError (kind == .store) va) := by
  unfold State.translate
  rw [if_neg (State.not_undefinedMode mode), segment]
  rfl

theorem State.translate_doubtful (segment : s.segment va = .doubtful) (kind : AccessKind) :
    s.translate va kind = .refused .doubtfulKernelSegment := by
  unfold State.translate
  rw [if_neg (State.not_undefinedMode mode), segment]

theorem State.translate_ckseg0 (segment : s.segment va = .ckseg0) (kind : AccessKind) :
    s.translate va kind = s.checkTarget ⟨(va.extractLsb' 0 29).setWidth 48, s.cp0.config.extractLsb' 0 3⟩ := by
  unfold State.translate
  rw [if_neg (State.not_undefinedMode mode), segment]

theorem State.translate_ckseg1 (segment : s.segment va = .ckseg1) (kind : AccessKind) :
    s.translate va kind = s.checkTarget ⟨(va.extractLsb' 0 29).setWidth 48, 2⟩ := by
  unfold State.translate
  rw [if_neg (State.not_undefinedMode mode), segment]

theorem State.translate_xkphy (segment : s.segment va = .xkphy) (kind : AccessKind) :
    s.translate va kind =
      if va.extractLsb' 48 11 = 0#11 then s.checkTarget ⟨va.setWidth 48, va.extractLsb' 59 3⟩
      else .exc (.addressError (kind == .store) va) := by
  unfold State.translate
  rw [if_neg (State.not_undefinedMode mode), segment]
  rfl

theorem State.translate_userSegmentErl (segment : s.segment va = .mapped true) (erl : s.erl = true)
    (kind : AccessKind) : s.translate va kind = .refused .userSegmentErl := by
  unfold State.translate
  rw [if_neg (State.not_undefinedMode mode), segment]
  exact if_pos erl

theorem State.translate_mapped {user : Bool} (segment : s.segment va = .mapped user)
    (allowed : user = true → s.erl = false) (kind : AccessKind) :
    s.translate va kind = s.translateMapped va kind := by
  unfold State.translate
  rw [if_neg (State.not_undefinedMode mode), segment]
  refine if_neg fun both => ?_
  obtain ⟨isUser, erl⟩ := Bool.and_eq_true_iff.1 both
  rw [allowed isUser] at erl
  cases erl

end

/-- A target with a defined cache algorithm and within reach passes the check. -/
theorem State.checkTarget_of_reachable {s : State} {pa : PhysAddr} {cca : BitVec 3} (h : Reachable s pa cca) :
    s.checkTarget ⟨pa, cca⟩ = .ok ⟨pa, cca⟩ := by
  obtain ⟨usable, reach⟩ := h
  have known : ¬ (!(cca == 2 || cca == 3 || cca == 7)) = true := by
    rcases usable with rfl | rfl | rfl <;> decide
  have inReach : ¬ (!s.cp0.pageGrain.getLsbD 29 && pa.extractLsb' 40 8 != 0) = true := by
    rcases reach with elpa | low
    · simp [elpa]
    · have short : pa.extractLsb' 40 8 = 0 := by
        apply BitVec.eq_of_toNat_eq
        rw [BitVec.extractLsb'_toNat, Nat.shiftRight_eq_div_pow, Nat.div_eq_of_lt low]
        rfl
      simp [short]
  unfold State.checkTarget
  rw [if_neg known, if_neg inReach]

end Sys2Proof.Machine
end

section
/-!
PROOFS of 20_memory.md, fourth part: unmapped segments, forbidden addresses and page colours (O28).
-/
namespace Sys2Proof.Machine
open Sys2Proof.Claims

/-! ### The compatibility segments (20_memory.md rule R195) -/

/-- The physical address of CKSEG0 and CKSEG1: the offset in the segment. -/
theorem segmentOffset_eq {va : Dword} {first : Nat} (start : first % 2 ^ 29 = 0) (above : first ≤ va.toNat)
    (below : va.toNat < first + 2 ^ 29) : (va.extractLsb' 0 29).setWidth 48 = BitVec.ofNat 48 (va.toNat - first) := by
  apply BitVec.eq_of_toNat_eq
  rw [BitVec.toNat_setWidth, BitVec.extractLsb'_toNat, BitVec.toNat_ofNat, Nat.shiftRight_zero]
  omega

/-- An address of CKSEG1 translates whatever the enables are. -/
theorem State.translate_of_ckseg1 {s : State} {va : Dword} (kernel : s.isKernel = true)
    (above : 0xFFFFFFFFA0000000 ≤ va.toNat) (below : va.toNat < 0xFFFFFFFFC0000000) (kind : AccessKind) :
    s.translate va kind = .ok ⟨BitVec.ofNat 48 (va.toNat - 0xFFFFFFFFA0000000), 2⟩ := by
  have segment : s.segment va = .ckseg1 := by
    rw [State.segment_kernel kernel (.inr (isWord_of_high (by omega)))]
    grind [kernelSegment_eq]
  rw [State.translate_ckseg1 (.inl kernel) segment, segmentOffset_eq (by decide) above (by omega)]
  refine State.checkTarget_of_reachable ⟨.inl rfl, .inr ?_⟩
  rw [BitVec.toNat_ofNat]
  omega

theorem State.translate_of_ckseg0 {s : State} {va : Dword} (kernel : s.isKernel = true)
    (above : 0xFFFFFFFF80000000 ≤ va.toNat) (below : va.toNat < 0xFFFFFFFFA0000000)
    (reachable : Reachable s (BitVec.ofNat 48 (va.toNat - 0xFFFFFFFF80000000)) (s.cp0.config.setWidth 3))
    (kind : AccessKind) :
    s.translate va kind = .ok ⟨BitVec.ofNat 48 (va.toNat - 0xFFFFFFFF80000000), s.cp0.config.setWidth 3⟩ := by
  have segment : s.segment va = .ckseg0 := by
    rw [State.segment_kernel kernel (.inr (isWord_of_high above))]
    grind [kernelSegment_eq]
  rw [State.translate_ckseg0 (.inl kernel) segment, segmentOffset_eq (by decide) above (by omega),
    ← BitVec.setWidth_eq_extractLsb' (by decide)]
  exact State.checkTarget_of_reachable reachable

/-! ### Page colours (20_memory.md rule R221) -/

/-- A cached page whose remembered colours all differ is refused. -/
theorem State.reach_pageColour {s : State} {va : Dword} {kind : AccessKind} {g : Target}
    (translates : s.translate va kind = .ok g) (cached : g.cca = 3)
    (seen : ∃ c ∈ s.coloured, c.page = g.pa.extractLsb' 12 36)
    (clash : ∀ c ∈ s.coloured, c.page = g.pa.extractLsb' 12 36 → c.colour ≠ va.extractLsb' 12 2) :
    s.reach va kind = .refused .pageColour := by
  have refused : s.noteCached g va = .refused .pageColour := by
    unfold State.noteCached
    simp only [cached, bne_self_eq_false, Bool.false_eq_true, if_false]
    cases found : s.coloured.find? (fun c => c.page == g.pa.extractLsb' 12 36) with
    | none =>
      obtain ⟨c, known, page⟩ := seen
      exact absurd (beq_iff_eq.2 page) (List.find?_eq_none.1 found c known)
    | some c =>
      have page : c.page = g.pa.extractLsb' 12 36 := by simpa using List.find?_some found
      exact if_neg (clash c (List.mem_of_find?_eq_some found) page)
  unfold State.reach
  rw [translates]
  simp only [Res.bind, refused]

end Sys2Proof.Machine

namespace Sys2Proof.Claims
open Sys2Proof.Machine

/-- Settles O28: each address is placed in its segment by the maps of the modes, and translation answers by
segment. -/
theorem unmappedSegmentsAndForbiddenAddresses : Obligations.UnmappedSegmentsAndForbiddenAddresses := by
  intro s va kind
  refine ⟨fun kernel => ?_, fun disabled long => ?_, fun g => reach_of_reaches,
    fun g translates cached => State.reach_pageColour translates cached, fun user high => ?_,
    fun supervisor high notXsseg notCsseg => ?_⟩
  · have mode : s.HasMode := .inl kernel
    refine ⟨fun above below => State.translate_of_ckseg1 kernel above below kind,
      fun above below reachable => State.translate_of_ckseg0 kernel above below reachable kind,
      fun kx top => ?_, fun kx gap => ?_, fun kx above below => ?_, fun kx long => ?_, fun erl low legal => ?_⟩
    · have segment : s.segment va = .xkphy := by
        have range : 2 ^ 63 ≤ va.toNat ∧ va.toNat < 0xC000000000000000 := by
          have small := va.isLt
          rw [extractLsb'_eq_iff, BitVec.toNat_ofNat] at top
          omega
        rw [State.segment_kernel kernel (.inl kx)]
        grind [kernelSegment_eq]
      rw [State.translate_xkphy mode segment]
      exact ⟨fun wide => if_neg wide,
        fun narrow reachable => (if_pos narrow).trans (State.checkTarget_of_reachable reachable)⟩
    · refine State.translate_error mode ?_ kind
      rw [State.segment_kernel kernel (.inl kx)]
      grind [kernelSegment_eq]
    · refine State.translate_doubtful mode ?_ kind
      rw [State.segment_kernel kernel (.inl kx)]
      grind [kernelSegment_eq]
    · exact State.translate_error mode (State.segment_disabled (.inl ⟨kernel, kx⟩) long) kind
    · refine State.translate_userSegmentErl mode ?_ erl kind
      rw [State.segment_kernel kernel legal, kernelSegment_eq, if_pos low]
  · refine State.translate_error (.inr ?_) (State.segment_disabled (.inr disabled) long) kind
    exact disabled.imp And.left And.left
  · refine State.translate_error (.inr (.inr user)) ?_ kind
    by_cases legal : s.ux = true ∨ IsWord va
    · rw [State.segment_user user legal, userSegment_eq, if_neg (by omega)]
    · rw [not_or, Bool.not_eq_true] at legal
      exact State.segment_disabled (.inr (.inr ⟨user, legal.1⟩)) legal.2
  · refine State.translate_error (.inr (.inl supervisor)) ?_ kind
    by_cases legal : s.sx = true ∨ IsWord va
    · rw [State.segment_supervisor supervisor legal, supervisorSegment_eq, if_neg (by omega), if_neg notXsseg,
        if_neg notCsseg]
    · rw [not_or, Bool.not_eq_true] at legal
      exact State.segment_disabled (.inr (.inl ⟨supervisor, legal.1⟩)) legal.2

end Sys2Proof.Claims
end

section
/-!
PROOFS of 20_memory.md, fifth part: the lookup of a mapped address in the TLB (O29).
-/
namespace Sys2Proof.Machine
open Sys2Proof.Claims

/-! ### Mapped addresses (20_memory.md rules R191 to R194, R197, R198) -/

/-- The segment of a mapped address of kernel mode; the user segment is mapped with ERL = 0. -/
theorem State.segment_kernel_mapped {s : State} {va : Dword} (kernel : s.isKernel = true)
    (mapped : (s.erl = false ∧ Low48 s.kx va) ∨ SupervisorLow s.kx va ∨
      (s.kx = true ∧ 0xC000000000000000 ≤ va.toNat ∧ va.toNat < 0xC00000FF80000000) ∨
      0xFFFFFFFFC0000000 ≤ va.toNat) :
    ∃ user, s.segment va = .mapped user ∧ (user = true → s.erl = false) := by
  rcases mapped with ⟨erl, low, legal⟩ | ⟨kx, above, below⟩ | ⟨kx, above, below⟩ | above
  · refine ⟨true, ?_, fun _ => erl⟩
    rw [State.segment_kernel kernel legal, kernelSegment_eq, if_pos low]
  · refine ⟨false, ?_, nofun⟩
    rw [State.segment_kernel kernel (.inl kx)]
    grind [kernelSegment_eq]
  · refine ⟨false, ?_, nofun⟩
    rw [State.segment_kernel kernel (.inl kx)]
    grind [kernelSegment_eq]
  · refine ⟨false, ?_, nofun⟩
    rw [State.segment_kernel kernel (.inr (isWord_of_high (by omega)))]
    grind [kernelSegment_eq]

theorem State.segment_supervisor_mapped {s : State} {va : Dword} (supervisor : s.isSupervisor = true)
    (mapped : Low48 s.sx va ∨ SupervisorLow s.sx va ∨
      (0xFFFFFFFFC0000000 ≤ va.toNat ∧ va.toNat < 0xFFFFFFFFE0000000)) :
    ∃ user, s.segment va = .mapped user := by
  rcases mapped with ⟨low, legal⟩ | ⟨sx, above, below⟩ | ⟨above, below⟩
  · exact ⟨true, by rw [State.segment_supervisor supervisor legal, supervisorSegment_eq, if_pos low]⟩
  · refine ⟨false, ?_⟩
    rw [State.segment_supervisor supervisor (.inl sx), supervisorSegment_eq, if_neg (by omega), if_pos ⟨above, below⟩]
  · refine ⟨false, ?_⟩
    rw [State.segment_supervisor supervisor (.inr (isWord_of_high (by omega))), supervisorSegment_eq,
      if_neg (by omega), if_neg (by omega), if_pos ⟨above, below⟩]

/-- A mapped address goes through the TLB. -/
theorem State.translate_of_isMapped {s : State} {va : Dword} (mapped : IsMapped s va) (kind : AccessKind) :
    s.translate va kind = s.translateMapped va kind := by
  rcases mapped with ⟨kernel, mapped⟩ | ⟨supervisor, mapped⟩ | ⟨user, low, legal⟩
  · obtain ⟨_, segment, allowed⟩ := State.segment_kernel_mapped kernel mapped
    exact State.translate_mapped (.inl kernel) segment allowed kind
  · obtain ⟨_, segment⟩ := State.segment_supervisor_mapped supervisor mapped
    obtain ⟨-, -, erl⟩ := State.isSupervisor_iff.1 supervisor
    exact State.translate_mapped (.inr (.inl supervisor)) segment (fun _ => erl) kind
  · obtain ⟨-, -, erl⟩ := State.isUser_iff.1 user
    have segment : s.segment va = .mapped true := by rw [State.segment_user user legal, userSegment_eq, if_pos low]
    exact State.translate_mapped (.inr (.inr user)) segment (fun _ => erl) kind

/-! ### The entries that match (20_memory.md rule R205) -/

/-- Page numbers are equal outside the mask if each bit is masked or equal. -/
theorem and_not_mask_eq_iff {w n : Nat} (mask : BitVec w) (x y : BitVec n) :
    x &&& ~~~(mask.setWidth n) = y &&& ~~~(mask.setWidth n) ↔
      ∀ b < n, mask.getLsbD b = true ∨ x.getLsbD b = y.getLsbD b := by
  constructor
  · intro same b inside
    have bit := congrArg (fun v : BitVec n => v.getLsbD b) same
    simp only [BitVec.getLsbD_and, BitVec.getLsbD_not, BitVec.getLsbD_setWidth, inside, decide_true,
      Bool.true_and] at bit
    cases masked : mask.getLsbD b with
    | true => exact .inl rfl
    | false => exact .inr (by simpa [masked] using bit)
  · intro same
    apply BitVec.eq_of_getLsbD_eq
    intro b inside
    simp only [BitVec.getLsbD_and, BitVec.getLsbD_not, BitVec.getLsbD_setWidth, inside, decide_true, Bool.true_and]
    rcases same b inside with masked | equal
    · simp [masked]
    · rw [equal]

theorem TlbEntry.hits_iff (s : State) (va : Dword) (e : TlbEntry) :
    e.hits s.asid (va.extractLsb' 62 2) (va.extractLsb' 13 35) = true ↔ Matches s va e := by
  unfold TlbEntry.hits Matches
  simp only [Bool.and_eq_true, beq_iff_eq, Bool.or_eq_true, and_assoc]
  refine and_congr_right fun _ => and_congr ?_ Iff.rfl
  rw [and_not_mask_eq_iff]
  refine forall_congr' fun b => imp_congr_right fun inside => ?_
  have addressBit : (va.extractLsb' 13 35).getLsbD b = va.getLsbD (13 + b) := by
    simp [inside]
  have maskBit : e.mask.getLsbD b = true ↔ b < 12 ∧ e.mask.getLsbD b = true :=
    ⟨fun h => ⟨BitVec.lt_of_getLsbD h, h⟩, And.right⟩
  rw [addressBit, ← maskBit]

/-- The entries of the TLB that match an address, with their numbers. -/
def State.matching (s : State) (va : Dword) : List (TlbEntry × Nat) :=
  s.tlbHits (va.extractLsb' 62 2) (va.extractLsb' 13 35)

theorem State.mem_matching {s : State} {va : Dword} {p : TlbEntry × Nat} :
    p ∈ s.matching va ↔ ∃ i : Fin 64, p = (s.tlb[i], i.val) ∧ Matches s va s.tlb[i] := by
  unfold State.matching State.tlbHits
  rw [List.mem_filter, TlbEntry.hits_iff, List.mem_zipIdx_iff_getElem?, Vector.getElem?_toList,
    Vector.getElem?_eq_some_iff]
  constructor
  · rintro ⟨⟨inside, entry⟩, hit⟩
    exact ⟨⟨p.2, inside⟩, Prod.ext entry.symm rfl, entry ▸ hit⟩
  · rintro ⟨i, rfl, hit⟩
    exact ⟨⟨i.isLt, rfl⟩, hit⟩

theorem State.nodup_matching (s : State) (va : Dword) : (s.matching va).Nodup := by
  have numbers : (s.tlb.toList.zipIdx.map Prod.snd).Nodup := by
    rw [List.zipIdx_map_snd]
    exact List.nodup_range'
  exact (List.Nodup.of_map _ numbers).filter _

/-! ### The three outcomes of a lookup (20_memory.md rules R207 to R209, R215) -/

theorem State.matching_eq_nil {s : State} {va : Dword} (none : ∀ i : Fin 64, ¬ Matches s va s.tlb[i]) :
    s.matching va = [] := by
  rw [List.eq_nil_iff_forall_not_mem]
  intro p found
  obtain ⟨i, -, hit⟩ := State.mem_matching.1 found
  exact none i hit

theorem State.matching_eq_singleton {s : State} {va : Dword} {i : Fin 64} (hit : Matches s va s.tlb[i])
    (only : ∀ j : Fin 64, Matches s va s.tlb[j] → j = i) : s.matching va = [(s.tlb[i], i.val)] := by
  have distinct := List.perm_ext_iff_of_nodup (s.nodup_matching va) (List.nodup_singleton (s.tlb[i], i.val))
  refine List.perm_singleton.1 (distinct.2 fun p => ?_)
  rw [State.mem_matching, List.mem_singleton]
  constructor
  · rintro ⟨j, rfl, hit'⟩
    rw [only j hit']
  · rintro rfl
    exact ⟨i, rfl, hit⟩

/-- Two entries that match are two elements of the list. -/
theorem State.exists_matching_eq_cons_cons {s : State} {va : Dword} {i j : Fin 64} (distinct : i ≠ j)
    (hit : Matches s va s.tlb[i]) (hit' : Matches s va s.tlb[j]) : ∃ p q l, s.matching va = p :: q :: l := by
  have first : (s.tlb[i], i.val) ∈ s.matching va := State.mem_matching.2 ⟨i, rfl, hit⟩
  have second : (s.tlb[j], j.val) ∈ s.matching va := State.mem_matching.2 ⟨j, rfl, hit'⟩
  cases list : s.matching va with
  | nil => rw [list] at first; cases first
  | cons p rest =>
    cases rest with
    | nil =>
      rw [list, List.mem_singleton] at first second
      exact absurd (Fin.ext (congrArg Prod.snd (first.trans second.symm))) distinct
    | cons q l => exact ⟨p, q, l, rfl⟩

theorem State.translateMapped_nil {s : State} {va : Dword} (h : s.matching va = []) (kind : AccessKind) :
    s.translateMapped va kind = .exc (.tlbRefill (kind == .store) va) := by
  unfold State.translateMapped
  rw [← State.matching, h]
  rfl

theorem State.translateMapped_singleton {s : State} {va : Dword} {e : TlbEntry} {i : Nat}
    (h : s.matching va = [(e, i)]) (kind : AccessKind) :
    s.translateMapped va kind =
      if !(e.page va).v then .exc (.tlbInvalid (kind == .store) va)
      else if kind == .store && !(e.page va).d then .exc (.mod va)
      else s.checkTarget ⟨e.physical (e.page va) va, (e.page va).c⟩ := by
  unfold State.translateMapped
  rw [← State.matching, h]
  rfl

theorem State.translateMapped_cons_cons {s : State} {va : Dword} {p q : TlbEntry × Nat} {l : List (TlbEntry × Nat)}
    (h : s.matching va = p :: q :: l) (kind : AccessKind) : s.translateMapped va kind = .fault .tlbMultipleMatch := by
  unfold State.translateMapped
  rw [← State.matching, h]

/-! ### The physical address (20_memory.md rule R208) -/

theorem TlbEntry.page_eq (e : TlbEntry) (va : Dword) :
    e.page va = ⟨if OddPage e va then e.pfn1 else e.pfn0, if OddPage e va then e.c1 else e.c0,
      if OddPage e va then e.d1 else e.d0, if OddPage e va then e.v1 else e.v0⟩ := by
  show (if OddPage e va then _ else _) = _
  cases OddPage e va <;> rfl

/-- A page has at most 2^24 bytes. -/
theorem TlbEntry.pageBits_le (e : TlbEntry) : e.pageBits ≤ 24 := by
  have small : e.mask.toNat + 1 < 2 ^ 13 := by omega
  have : Nat.log2 (e.mask.toNat + 1) < 13 := (Nat.log2_lt (by omega)).2 small
  unfold TlbEntry.pageBits
  omega

/-- The low bits of an address are its remainder. -/
theorem and_fieldMask_zero (va : Dword) {n : Nat} (h : n ≤ 64) :
    (va &&& fieldMask 64 0 n).setWidth 48 = BitVec.ofNat 48 (va.toNat % 2 ^ n) := by
  have ones : (fieldMask 64 0 n).toNat = 2 ^ n - 1 := by
    have bound : 2 ^ n ≤ 2 ^ 64 := Nat.pow_le_pow_right (by decide) h
    unfold fieldMask
    rw [BitVec.toNat_ofNat, Nat.pow_zero, Nat.mul_one, Nat.mod_eq_of_lt (by omega)]
  apply BitVec.eq_of_toNat_eq
  rw [BitVec.toNat_setWidth, BitVec.toNat_and, ones, Nat.and_two_pow_sub_one_eq_mod, BitVec.toNat_ofNat]

/-- A page number in its place. -/
theorem setWidth_shiftLeft_eq_append (pfn : BitVec 36) : pfn.setWidth 48 <<< 12 = (pfn ++ 0#12 : BitVec 48) := by
  apply BitVec.eq_of_getLsbD_eq
  intro i hi
  rw [BitVec.getLsbD_append, BitVec.getLsbD_shiftLeft, BitVec.getLsbD_setWidth]
  by_cases low : i < 12
  · simp [low]
  · simp [low, hi, show i - 12 < 48 by omega]

theorem TlbEntry.physical_eq (e : TlbEntry) (p : Page) (va : Dword) :
    e.physical p va = ((p.pfn &&& ~~~(e.mask.setWidth 36)) ++ 0#12 : BitVec 48) |||
      BitVec.ofNat 48 (va.toNat % 2 ^ (12 + Nat.log2 (e.mask.toNat + 1))) := by
  have bits := e.pageBits_le
  unfold TlbEntry.physical
  rw [setWidth_shiftLeft_eq_append, and_fieldMask_zero va (by omega)]
  rfl

end Sys2Proof.Machine

namespace Sys2Proof.Claims
open Sys2Proof.Machine

/-- Settles O29: a mapped address goes through the TLB, and the list of matching entries is empty, has the one entry,
or has two. -/
theorem tlbLookupOrderAndPhysicalAddress : Obligations.TlbLookupOrderAndPhysicalAddress := by
  intro s va kind mapped
  rw [State.translate_of_isMapped mapped]
  refine ⟨fun none => State.translateMapped_nil (State.matching_eq_nil none) kind, fun i hit only => ?_,
    fun i j distinct hit hit' => ?_⟩
  · have found := State.matching_eq_singleton hit only
    generalize s.tlb[i] = e at found ⊢
    rw [State.translateMapped_singleton found, TlbEntry.page_eq, TlbEntry.physical_eq]
    refine ⟨fun invalid => ?_, fun valid store clean => ?_, fun valid writable reachable => ?_⟩
    · rw [if_pos (by simp [invalid])]
    · rw [if_neg (by simp [valid]), if_pos (by simp [store, clean])]
    · rw [if_neg (by simp [valid]), if_neg (by simpa using writable)]
      exact State.checkTarget_of_reachable reachable
  · obtain ⟨p, q, l, list⟩ := State.exists_matching_eq_cons_cons distinct hit hit'
    exact State.translateMapped_cons_cons list kind

end Sys2Proof.Claims
end

section
/-!
PROOFS of 30_encoding.md: the decoder inverts the encoder (O57), and the words of the spec's examples (O56).
-/
namespace Sys2Proof

/-! ### The word of a format goes to the decoder of its major opcode (30_encoding.md rules R261, R270)

Fields that a format does not name can hold anything: an encoded instruction is decoded whatever they hold. -/

section
variable {a b c d z : BitVec 5} {f : BitVec 6} {imm : BitVec 16} {i : Instr}

/-- The opcodes with one immediate instruction each. -/
theorem decode_encI_of {op : BitVec 6} {mk : BitVec 5 → BitVec 5 → BitVec 16 → Instr}
    (row : ∀ w, fieldOp w = op → decode w = some (mk (fieldA w) (fieldB w) (fieldImm w))) :
    decode (encI op a b imm) = some (mk a b imm) := by
  simp [row]

theorem decode_encR_special (row : ∀ code tcode, decodeSpecial a b c d f code tcode = some i) :
    decode (encR 0#6 a b c d f) = some i := by
  simp [decode_op0, row]

theorem decode_encCode_special {code : BitVec 20}
    (row : ∀ a b c d tcode, decodeSpecial a b c d f code tcode = some i) :
    decode (encCode 0#6 code f) = some i := by
  simp [decode_op0, row]

theorem decode_encTrap_special {tcode : BitVec 10}
    (row : ∀ c d code, decodeSpecial a b c d f code tcode = some i) :
    decode (encTrap 0#6 a b tcode f) = some i := by
  simp [decode_op0, row]

theorem decode_encI_regImm (row : decodeRegImm a b imm = some i) : decode (encI 1#6 a b imm) = some i := by
  simp [decode_op1, row]

theorem decode_encR_cop0 (row : ∀ wcode, decodeCop0 a b c d f (a.extractLsb' 4 1) wcode = some i) :
    decode (encR 16#6 a b c d f) = some i := by
  simp [decode_op16, row]

theorem decode_encWait_cop0 {co : BitVec 1} {wcode : BitVec 19}
    (row : ∀ a b c d, decodeCop0 a b c d f co wcode = some i) : decode (encWait 16#6 co wcode f) = some i := by
  simp [decode_op16, row]

/-- The moves to and from a CP0 register, whose select is the low half of the function field. -/
theorem decode_encR_cop0_sel {sel : BitVec 3} {mk : BitVec 3 → Instr}
    (row : ∀ d f wcode, decodeCop0 a b c d f (a.extractLsb' 4 1) wcode =
      if d = 0#5 ∧ f.extractLsb' 3 3 = 0#3 then some (mk (f.extractLsb' 0 3)) else none) :
    decode (encR 16#6 a b c 0#5 (0#3 ++ sel)) = some (mk sel) := by
  simp [decode_op16, row]

theorem decode_encR_cop1 (row : ∀ imm, decodeCop1 a b c d f imm = some i) :
    decode (encR 17#6 a b c d f) = some i := by
  simp [decode_op17, row]

theorem decode_encI_cop1 (row : ∀ c d f, decodeCop1 a b c d f imm = some i) :
    decode (encI 17#6 a b imm) = some i := by
  simp [decode_op17, row]

/-- The compares, whose condition code stands above two zeros in field D. -/
theorem decode_encR_cop1_compare {cc : BitVec 3} {mk : BitVec 3 → Instr}
    (row : ∀ d imm, decodeCop1 a b c d f imm =
      if d.extractLsb' 0 2 = 0#2 then some (mk (d.extractLsb' 2 3)) else none) :
    decode (encR 17#6 a b c (cc ++ 0#2) f) = some (mk cc) := by
  simp [decode_op17, row]

theorem decode_encR_cop2 (row : decodeCop2 a b c d f = some i) : decode (encR 18#6 a b c d f) = some i := by
  simp [decode_op18, row]

theorem decode_encR_cop1x (row : decodeCop1x a b c d f = some i) : decode (encR 19#6 a b c d f) = some i := by
  simp [decode_op19, row]

theorem decode_encR_special2 (row : ∀ code, decodeSpecial2 a b c d f code = some i) :
    decode (encR 28#6 a b c d f) = some i := by
  simp [decode_op28, row]

theorem decode_encCode_special2 {code : BitVec 20} (row : ∀ a b c d, decodeSpecial2 a b c d f code = some i) :
    decode (encCode 28#6 code f) = some i := by
  simp [decode_op28, row]

theorem decode_encR_special3 (row : decodeSpecial3 a b c d f = some i) :
    decode (encR 31#6 a b c d f) = some i := by
  simp [decode_op31, row]

theorem decode_encR_lwc2 (row : ∀ pad offl h offq z,
      decodeLwc2 a b c d f pad offl h offq (f.extractLsb' 5 1) z = some i) :
    decode (encR 50#6 a b c d f) = some i := by
  simp [decode_op50, row]

theorem decode_encL_lwc2 {pad : BitVec 2} {offl : BitVec 8} (row : ∀ c d h offq z,
      decodeLwc2 a b c d f pad offl h offq (f.extractLsb' 5 1) z = some i) :
    decode (encL 50#6 a b pad offl f) = some i := by
  simp [decode_op50, row]

theorem decode_encQ_lwc2 {h : BitVec 1} {offq : BitVec 9} {five : BitVec 1} (row : ∀ c d f pad offl,
      decodeLwc2 a b c d f pad offl h offq five z = some i) :
    decode (encQ 50#6 a b h offq five z) = some i := by
  simp [decode_op50, row]

theorem decode_encX_ldc2 {off8 : BitVec 8} {sel : BitVec 3} (row : decodeLdc2 a b c off8 sel = some i) :
    decode (encX 54#6 a b c off8 sel) = some i := by
  simp [decode_op54, row]

theorem decode_encR_swc2 (row : ∀ pad offl h offq z,
      decodeSwc2 a b c d f pad offl h offq (f.extractLsb' 5 1) z = some i) :
    decode (encR 58#6 a b c d f) = some i := by
  simp [decode_op58, row]

theorem decode_encL_swc2 {pad : BitVec 2} {offl : BitVec 8} (row : ∀ c d h offq z,
      decodeSwc2 a b c d f pad offl h offq (f.extractLsb' 5 1) z = some i) :
    decode (encL 58#6 a b pad offl f) = some i := by
  simp [decode_op58, row]

theorem decode_encQ_swc2 {h : BitVec 1} {offq : BitVec 9} {five : BitVec 1} (row : ∀ c d f pad offl,
      decodeSwc2 a b c d f pad offl h offq five z = some i) :
    decode (encQ 58#6 a b h offq five z) = some i := by
  simp [decode_op58, row]

theorem decode_encX_sdc2 {off8 : BitVec 8} {sel : BitVec 3} (row : decodeSdc2 a b c off8 sel = some i) :
    decode (encX 62#6 a b c off8 sel) = some i := by
  simp [decode_op62, row]

end

/-- SLL keeps its own name off the three words that are spelled NOP, SSNOP and EHB (30_encoding.md rule R286). -/
theorem decodeSll_of_wellFormed {rt rd sa : BitVec 5} (h : Instr.wellFormed (.sll rt rd sa) = true) :
    decodeSll rt rd sa = some (.sll rt rd sa) := by
  unfold decodeSll
  rw [if_neg, if_neg, if_neg] <;> rintro ⟨rfl, rfl, rfl⟩ <;> cases h

/-- Every well-formed instruction is decoded from its own word, each constructor by its row of the opcode maps. -/
theorem decode_encode {i : Instr} (h : Instr.wellFormed i = true) :
    ∃ w, encode i = some w ∧ decode w = some i := by
  cases i with
  | add | dadd | addu | daddu | sub | dsub | subu | dsubu | slt | sltu | and | or | xor | nor | mult | dmult
  | multu | dmultu | div | ddiv | divu | ddivu | mfhi | mthi | mflo | mtlo | srl | sra | sllv | srlv | srav
  | rotr | rotrv | dsll | dsrl | dsra | dsllv | dsrlv | dsrav | dsll32 | dsrl32 | dsra32 | drotr | drotr32
  | drotrv | jr | jrHb | jalr | jalrHb | sync | nop | ssnop | ehb | movn | movz =>
    exact ⟨_, rfl, decode_encR_special fun _ _ => rfl⟩
  | sll => exact ⟨_, rfl, decode_encR_special fun _ _ => decodeSll_of_wellFormed h⟩
  | syscall | brk => exact ⟨_, rfl, decode_encCode_special fun _ _ _ _ _ => rfl⟩
  | tge | tgeu | tlt | tltu | teq | tne => exact ⟨_, rfl, decode_encTrap_special fun _ _ _ => rfl⟩
  | movf | movt => exact ⟨_, rfl, decode_encR_special fun _ _ => by simp [decodeSpecial]⟩
  | bltz | bgez | bltzal | bgezal | bltzl | bgezl | bltzall | bgezall | synci | tgei | tgeiu | tlti | tltiu
  | teqi | tnei => exact ⟨_, rfl, decode_encI_regImm rfl⟩
  | j => exact ⟨_, rfl, by simp [decode_op2]⟩
  | jal => exact ⟨_, rfl, by simp [decode_op3]⟩
  | rdpgpr | wrpgpr | di | ei => exact ⟨_, rfl, decode_encR_cop0 fun _ => rfl⟩
  | mfc0 | dmfc0 | mtc0 | dmtc0 => exact ⟨_, rfl, decode_encR_cop0_sel fun _ _ _ => rfl⟩
  | tlbp | tlbr | tlbwi | tlbwr | eret | deret | wait => exact ⟨_, rfl, decode_encWait_cop0 fun _ _ _ _ => rfl⟩
  | absS | absD | absPs | addS | addD | addPs | divS | divD | mulS | mulD | mulPs | negS | negD | negPs | recipS
  | recipD | rsqrtS | rsqrtD | sqrtS | sqrtD | subS | subD | subPs | ceilLS | ceilLD | ceilWS | ceilWD | cvtDS
  | cvtDW | cvtDL | cvtLS | cvtLD | cvtSD | cvtSW | cvtSL | cvtWS | cvtWD | floorLS | floorLD | floorWS
  | floorWD | roundLS | roundLD | roundWS | roundWD | truncLS | truncLD | truncWS | truncWD | cvtPsS | cvtSPl
  | cvtSPu | pllPs | pluPs | pulPs | puuPs | cfc1 | ctc1 | dmfc1 | dmtc1 | mfc1 | mfhc1 | mtc1 | mthc1 | movS
  | movD | movPs | movnS | movnD | movnPs | movzS | movzD | movzPs => exact ⟨_, rfl, decode_encR_cop1 fun _ => rfl⟩
  | cFS | cUnS | cEqS | cUeqS | cOltS | cUltS | cOleS | cUleS | cSfS | cNgleS | cSeqS | cNglS | cLtS | cNgeS
  | cLeS | cNgtS | cFD | cUnD | cEqD | cUeqD | cOltD | cUltD | cOleD | cUleD | cSfD | cNgleD | cSeqD | cNglD
  | cLtD | cNgeD | cLeD | cNgtD | cFPs | cUnPs | cEqPs | cUeqPs | cOltPs | cUltPs | cOlePs | cUlePs | cSfPs
  | cNglePs | cSeqPs | cNglPs | cLtPs | cNgePs | cLePs | cNgtPs =>
    exact ⟨_, rfl, decode_encR_cop1_compare fun _ _ => rfl⟩
  | movfS | movfD | movfPs | movtS | movtD | movtPs =>
    exact ⟨_, rfl, decode_encR_cop1 fun _ => by simp [decodeCop1]⟩
  | bc1f | bc1fl | bc1t | bc1tl => exact ⟨_, rfl, decode_encI_cop1 fun _ _ _ => by simp [decodeCop1]⟩
  | paddsh | paddush | paddh | paddw | paddsb | paddusb | paddb | paddd | psubsh | psubush | psubh | psubw
  | psubsb | psubusb | psubb | psubd | pshufh | packsswh | packsshb | packushb | pandn | punpcklhw | punpckhhw
  | punpcklbh | punpckhbh | pinsrh0 | pinsrh1 | pinsrh2 | pinsrh3 | pavgh | pavgb | pmaxsh | pminsh | pmaxub
  | pminub | pcmpeqw | pcmpgtw | pcmpeqh | pcmpgth | pcmpeqb | pcmpgtb | psllw | psllh | pmullh | pmulhh
  | pmuluw | pmulhuh | psrlw | psrlh | psraw | psrah | punpcklwd | punpckhwd | pasubub | pextrh | pmaddhw
  | biadd | pmovmskb | gsxor | gsnor | gsand | gsaddu | gsor | gsadd | gsdadd | gssequ | gsseq | gssubu | gssub
  | gsdsub | gssltu | gsslt | gssll | gsdsll | gssrl | gsdsrl | gssra | gsdsra | gssleu | gssle =>
    exact ⟨_, rfl, decode_encR_cop2 rfl⟩
  | prefx | maddS | maddD | maddPs | msubS | msubD | msubPs | nmaddS | nmaddD | nmaddPs | nmsubS | nmsubD
  | nmsubPs | alnvPs | ldxc1 | luxc1 | lwxc1 | sdxc1 | suxc1 | swxc1 => exact ⟨_, rfl, decode_encR_cop1x rfl⟩
  | clo | dclo | clz | dclz | mul | madd | maddu | msub | msubu | gsmult | gsdmult | gsmultu | gsdmultu | gsdiv
  | gsddiv | gsdivu | gsddivu | gsmod | gsdmod | gsmodu | gsdmodu | gsle | gsgt =>
    exact ⟨_, rfl, decode_encR_special2 fun _ => rfl⟩
  | sdbbp => exact ⟨_, rfl, decode_encCode_special2 fun _ _ _ _ => rfl⟩
  | wsbh | dshd | dsbh | seb | seh | ext | dextm | dextu | dext | ins | dinsm | dinsu | dins | rdhwr =>
    exact ⟨_, rfl, decode_encR_special3 rfl⟩
  | gslble | gslbgt | gslhle | gslhgt | gslwle | gslwgt | gsldle | gsldgt | gslwlec1 | gslwgtc1 | gsldlec1
  | gsldgtc1 => exact ⟨_, rfl, decode_encR_lwc2 fun _ _ _ _ _ => rfl⟩
  | gslwlc1 | gslwrc1 | gsldlc1 | gsldrc1 => exact ⟨_, rfl, decode_encL_lwc2 fun _ _ _ _ _ => rfl⟩
  | gslq | gslqc1 => exact ⟨_, rfl, decode_encQ_lwc2 fun _ _ _ _ _ => rfl⟩
  | gslbx | gslhx | gslwx | gsldx | gslwxc1 | gsldxc1 => exact ⟨_, rfl, decode_encX_ldc2 rfl⟩
  | gssble | gssbgt | gsshle | gsshgt | gsswle | gsswgt | gssdle | gssdgt | gsswlec1 | gsswgtc1 | gssdlec1
  | gssdgtc1 => exact ⟨_, rfl, decode_encR_swc2 fun _ _ _ _ _ => rfl⟩
  | gsswlc1 | gsswrc1 | gssdlc1 | gssdrc1 => exact ⟨_, rfl, decode_encL_swc2 fun _ _ _ _ _ => rfl⟩
  | gssq | gssqc1 => exact ⟨_, rfl, decode_encQ_swc2 fun _ _ _ _ _ => rfl⟩
  | gssbx | gsshx | gsswx | gssdx | gsswxc1 | gssdxc1 => exact ⟨_, rfl, decode_encX_sdc2 rfl⟩
  | beq => exact ⟨_, rfl, decode_encI_of decode_op4⟩
  | bne => exact ⟨_, rfl, decode_encI_of decode_op5⟩
  | addi => exact ⟨_, rfl, decode_encI_of decode_op8⟩
  | addiu => exact ⟨_, rfl, decode_encI_of decode_op9⟩
  | slti => exact ⟨_, rfl, decode_encI_of decode_op10⟩
  | sltiu => exact ⟨_, rfl, decode_encI_of decode_op11⟩
  | andi => exact ⟨_, rfl, decode_encI_of decode_op12⟩
  | ori => exact ⟨_, rfl, decode_encI_of decode_op13⟩
  | xori => exact ⟨_, rfl, decode_encI_of decode_op14⟩
  | beql => exact ⟨_, rfl, decode_encI_of decode_op20⟩
  | bnel => exact ⟨_, rfl, decode_encI_of decode_op21⟩
  | daddi => exact ⟨_, rfl, decode_encI_of decode_op24⟩
  | daddiu => exact ⟨_, rfl, decode_encI_of decode_op25⟩
  | ldl => exact ⟨_, rfl, decode_encI_of decode_op26⟩
  | ldr => exact ⟨_, rfl, decode_encI_of decode_op27⟩
  | lb => exact ⟨_, rfl, decode_encI_of decode_op32⟩
  | lh => exact ⟨_, rfl, decode_encI_of decode_op33⟩
  | lwl => exact ⟨_, rfl, decode_encI_of decode_op34⟩
  | lw => exact ⟨_, rfl, decode_encI_of decode_op35⟩
  | lbu => exact ⟨_, rfl, decode_encI_of decode_op36⟩
  | lhu => exact ⟨_, rfl, decode_encI_of decode_op37⟩
  | lwr => exact ⟨_, rfl, decode_encI_of decode_op38⟩
  | lwu => exact ⟨_, rfl, decode_encI_of decode_op39⟩
  | sb => exact ⟨_, rfl, decode_encI_of decode_op40⟩
  | sh => exact ⟨_, rfl, decode_encI_of decode_op41⟩
  | swl => exact ⟨_, rfl, decode_encI_of decode_op42⟩
  | sw => exact ⟨_, rfl, decode_encI_of decode_op43⟩
  | sdl => exact ⟨_, rfl, decode_encI_of decode_op44⟩
  | sdr => exact ⟨_, rfl, decode_encI_of decode_op45⟩
  | swr => exact ⟨_, rfl, decode_encI_of decode_op46⟩
  | cache => exact ⟨_, rfl, decode_encI_of decode_op47⟩
  | ll => exact ⟨_, rfl, decode_encI_of decode_op48⟩
  | lwc1 => exact ⟨_, rfl, decode_encI_of decode_op49⟩
  | pref => exact ⟨_, rfl, decode_encI_of decode_op51⟩
  | lld => exact ⟨_, rfl, decode_encI_of decode_op52⟩
  | ldc1 => exact ⟨_, rfl, decode_encI_of decode_op53⟩
  | ld => exact ⟨_, rfl, decode_encI_of decode_op55⟩
  | sc => exact ⟨_, rfl, decode_encI_of decode_op56⟩
  | swc1 => exact ⟨_, rfl, decode_encI_of decode_op57⟩
  | scd => exact ⟨_, rfl, decode_encI_of decode_op60⟩
  | sdc1 => exact ⟨_, rfl, decode_encI_of decode_op61⟩
  | sd => exact ⟨_, rfl, decode_encI_of decode_op63⟩
  | lui => exact ⟨_, rfl, by simp [decode_op15]⟩
  | blez => exact ⟨_, rfl, by simp [decode_op6]⟩
  | bgtz => exact ⟨_, rfl, by simp [decode_op7]⟩
  | blezl => exact ⟨_, rfl, by simp [decode_op22]⟩
  | bgtzl => exact ⟨_, rfl, by simp [decode_op23]⟩
  | x86and | x86or | x86xor | x86dadd | x86add | x86daddu | x86addu | x86dsub | x86sub | x86dsubu | x86subu
  | x86inc | x86dec | x86dsll | x86sll | x86dsll32 | x86dsllv | x86sllv | x86dsrl | x86srl | x86dsrl32
  | x86dsrlv | x86srlv | x86dsra | x86sra | x86dsra32 | x86dsrav | x86srav | x86drotr | x86rotr | x86drotr32
  | x86drotrv | x86rotrv | x86mfflag | x86mtflag | x86j | x86loop | settm | clrtm | inctop | dectop | mttop
  | mftop | settag | campv | campi | camwi | ramri | cvtDLd | cvtLdD | cvtUdD => cases h

end Sys2Proof

namespace Sys2Proof.Claims

/-- Settles O57: each row decodes to its own instruction, and only the word of an instruction decodes to it. -/
theorem decodeInvertsEncode : Obligations.DecodeInvertsEncode :=
  ⟨fun _ => decode_encode, fun _ _ => encode_of_decode⟩

/-- Settles O56: every word is closed, and the decoder is evaluated on it. -/
theorem sampleWordsDecodeAsTheSpecWritesThem : Obligations.SampleWordsDecodeAsTheSpecWritesThem := by
  and_intros <;> rfl

end Sys2Proof.Claims
end

section
/-!
SUPPORT. Loads and stores of whole registers: when they complete, and where the doubleword forms are reserved.
-/
namespace Sys2Proof.Machine
open Sys2Proof.Claims

/-! ### Accesses that complete (20_memory.md rule R216) -/

theorem State.loadVirt_of_readable {s : State} {va : Dword} {n : Nat} {g : Target} (h : Readable s va n g) :
    s.loadVirt va n = .ok (s.seenLE g.pa.toNat n, Remembered s va g) := by
  obtain ⟨reaches, boundary, mapped⟩ := h
  exact State.loadVirt_ok.2 ⟨boundary, g, reach_of_reaches reaches,
    by simpa only [InMemory, remembered_physAt] using mapped, remembered_seenLE s va g _ n⟩

theorem State.storeVirt_of_writable {s : State} {va : Dword} {n : Nat} {g : Target} (v : Dword)
    (h : Writable s va n g) :
    s.storeVirt va n v = .ok ((Remembered s va g).landStore g.cca ⟨g.pa.toNat, n, v⟩) := by
  obtain ⟨reaches, boundary, ram⟩ := h
  exact State.storeVirt_ok.2 ⟨boundary, g, _, reach_of_reaches reaches,
    by simpa only [InRam, remembered_physAt] using ram, rfl⟩

theorem putsGprFrom_of_readable {i : Instr} {s : State} {rt : BitVec 5} {va : Dword} {n : Nat} {g : Target}
    {ext : Dword → Dword} (runs : exec i s = s.loadTo rt va n ext) (readable : Readable s va n g) :
    PutsGprFrom i s (Remembered s va g) rt (ext (s.seenLE g.pa.toNat n)) := by
  unfold State.loadTo at runs
  rw [State.loadVirt_of_readable readable] at runs
  exact ⟨_, runs, State.writesGpr_advance _ rt _⟩

theorem stores_of_writable {i : Instr} {s : State} {va v : Dword} {n : Nat} {g : Target}
    (runs : exec i s = s.storeFrom va n v) (writable : Writable s va n g) : Stores i s va g n v := by
  unfold State.storeFrom at runs
  rw [State.storeVirt_of_writable v writable] at runs
  exact ⟨_, runs, State.storesTo_advance _ g n v⟩

/-! ### The doubleword forms with 64-bit operations off (60_exceptions.md rule R934) -/

theorem needCop2_need64_off {s : State} (usable : s.cu 2 = true) (off : s.are64 = false) (k : Out) :
    needCop 2 s (need64 s k) = .next (s.takeException .ri) := by rw [needCop2_on usable, need64_off off]

section
variable {s : State} (off : s.are64 = false)
include off

theorem loads_reserved : ∀ p ∈ loads, p.wide = true → ∀ base rt imm, Takes (p.instr base rt imm) s .ri := by
  simp only [loads, List.forall_mem_cons]
  exact ⟨nofun, nofun, nofun, nofun, nofun, fun _ _ _ _ => need64_off off _, fun _ _ _ _ => need64_off off _, nofun⟩

theorem stores_reserved : ∀ p ∈ stores, p.wide = true → ∀ base rt imm, Takes (p.instr base rt imm) s .ri := by
  simp only [stores, List.forall_mem_cons]
  exact ⟨nofun, nofun, nofun, fun _ _ _ _ => need64_off off _, nofun⟩

variable (usable : s.cu 2 = true)
include usable

theorem indexedLoads_reserved : ∀ p ∈ indexedLoads, p.wide = true → ∀ base rt index disp,
    Takes (p.instr base rt index disp) s .ri := by
  simp only [indexedLoads, List.forall_mem_cons]
  exact ⟨nofun, nofun, nofun, fun _ _ _ _ _ => needCop2_need64_off usable off _, nofun⟩

theorem indexedStores_reserved : ∀ p ∈ indexedStores, p.wide = true → ∀ base rt index disp,
    Takes (p.instr base rt index disp) s .ri := by
  simp only [indexedStores, List.forall_mem_cons]
  exact ⟨nofun, nofun, nofun, fun _ _ _ _ _ => needCop2_need64_off usable off _, nofun⟩

theorem boundLoads_reserved : ∀ p ∈ upperLoads ++ lowerLoads, p.wide = true → ∀ base rt bound,
    Takes (p.instr base rt bound) s .ri := by
  simp only [upperLoads, lowerLoads, List.cons_append, List.nil_append, List.forall_mem_cons]
  exact ⟨nofun, nofun, nofun, fun _ _ _ _ => needCop2_need64_off usable off _,
    nofun, nofun, nofun, fun _ _ _ _ => needCop2_need64_off usable off _, nofun⟩

theorem boundStores_reserved : ∀ p ∈ upperStores ++ lowerStores, p.wide = true → ∀ base rt bound,
    Takes (p.instr base rt bound) s .ri := by
  simp only [upperStores, lowerStores, List.cons_append, List.nil_append, List.forall_mem_cons]
  exact ⟨nofun, nofun, nofun, fun _ _ _ _ => needCop2_need64_off usable off _,
    nofun, nofun, nofun, fun _ _ _ _ => needCop2_need64_off usable off _, nofun⟩

end

end Sys2Proof.Machine
end

section
/-!
PROOFS of 40_loadstore.md, first part: the loads and stores of whole registers (O21, O22).
-/
namespace Sys2Proof.Claims
open Sys2Proof.Machine

/-- An instruction that is a load of its row completes as its access does. -/
theorem loadCompletes_of_loadTo {F : Type} {p : LoadRow F} {i : Instr} {s : State} {rt : BitVec 5} {va : Dword}
    (runs : (p.wide = true → s.are64 = true) → exec i s = s.loadTo rt va p.size p.ext)
    (reserved : s.are64 = false → p.wide = true → Takes i s .ri) : LoadCompletes p i s rt va :=
  ⟨fun enabled _ readable => putsGprFrom_of_readable (runs enabled) readable, fun wide off => reserved off wide⟩

/-- A load whose bound check passes is a load. -/
theorem loadCompletes_of_loadBound {F : Type} {p : LoadRow F} {i : Instr} {s : State} {rt : BitVec 5} {va : Dword}
    {ok : Bool} (runs : (p.wide = true → s.are64 = true) → exec i s = s.loadBound rt va p.size ok p.ext)
    (passes : ok = true) (reserved : s.are64 = false → p.wide = true → Takes i s .ri) : LoadCompletes p i s rt va :=
  loadCompletes_of_loadTo (fun enabled => by rw [runs enabled, passes]; rfl) reserved

/-- An instruction that is a store of its row completes as its access does. -/
theorem storeCompletes_of_storeFrom {F : Type} {p : StoreRow F} {i : Instr} {s : State} {rt : BitVec 5} {va : Dword}
    (runs : (p.wide = true → s.are64 = true) → exec i s = s.storeFrom va p.size (s.readGpr rt))
    (reserved : s.are64 = false → p.wide = true → Takes i s .ri) : StoreCompletes p i s rt va :=
  ⟨fun enabled _ writable => stores_of_writable (runs enabled) writable, fun wide off => reserved off wide⟩

/-- A store whose bound check passes is a store. -/
theorem storeCompletes_of_storeBound {F : Type} {p : StoreRow F} {i : Instr} {s : State} {rt : BitVec 5} {va : Dword}
    {ok : Bool} (runs : (p.wide = true → s.are64 = true) → exec i s = s.storeBound va p.size ok (s.readGpr rt))
    (passes : ok = true) (reserved : s.are64 = false → p.wide = true → Takes i s .ri) : StoreCompletes p i s rt va :=
  storeCompletes_of_storeFrom (fun enabled => by rw [runs enabled, passes]; rfl) reserved

/-- Settles O21: every row is a load, behind its coprocessor, 64-bit and bound checks. -/
theorem loadsExtendTheBytesTheyRead : Obligations.LoadsExtendTheBytesTheyRead := by
  intro s
  refine ⟨fun p row base rt imm => ?_, fun usable => ⟨fun p row base rt index disp => ?_,
    fun p row base rt bound => ?_, fun p row base rt bound => ?_⟩⟩
  · exact loadCompletes_of_loadTo (fun enabled => exec_loads s p row enabled base rt imm)
      fun off wide => loads_reserved off p row wide base rt imm
  · exact loadCompletes_of_loadTo (fun enabled => exec_indexedLoads usable p row enabled base rt index disp)
      fun off wide => indexedLoads_reserved off usable p row wide base rt index disp
  · have reserved off wide := boundLoads_reserved off usable p (List.mem_append_left _ row) wide base rt bound
    exact ⟨fun below => loadCompletes_of_loadBound
      (fun enabled => exec_upperLoads usable p row enabled base rt bound) below reserved,
      fun wide off => reserved off wide⟩
  · have reserved off wide := boundLoads_reserved off usable p (List.mem_append_right _ row) wide base rt bound
    exact ⟨fun above => loadCompletes_of_loadBound
      (fun enabled => exec_lowerLoads usable p row enabled base rt bound) (by rw [above]; rfl) reserved,
      fun wide off => reserved off wide⟩

/-- Settles O22: every row is a store, behind its coprocessor, 64-bit and bound checks. -/
theorem storesWriteExactlyTheirBytes : Obligations.StoresWriteExactlyTheirBytes := by
  intro s
  refine ⟨fun p row base rt imm => ?_, fun usable => ⟨fun p row base rt index disp => ?_,
    fun p row base rt bound => ?_, fun p row base rt bound => ?_⟩⟩
  · exact storeCompletes_of_storeFrom (fun enabled => exec_stores s p row enabled base rt imm)
      fun off wide => stores_reserved off p row wide base rt imm
  · exact storeCompletes_of_storeFrom (fun enabled => exec_indexedStores usable p row enabled base rt index disp)
      fun off wide => indexedStores_reserved off usable p row wide base rt index disp
  · have reserved off wide := boundStores_reserved off usable p (List.mem_append_left _ row) wide base rt bound
    exact ⟨fun below => storeCompletes_of_storeBound
      (fun enabled => exec_upperStores usable p row enabled base rt bound) below reserved,
      fun wide off => reserved off wide⟩
  · have reserved off wide := boundStores_reserved off usable p (List.mem_append_right _ row) wide base rt bound
    exact ⟨fun above => storeCompletes_of_storeBound
      (fun enabled => exec_lowerStores usable p row enabled base rt bound) (by rw [above]; rfl) reserved,
      fun wide off => reserved off wide⟩

end Sys2Proof.Claims
end

section
/-!
PROOFS of 40_loadstore.md, second part: what SWL puts into the store buffer (O23).
-/
namespace Sys2Proof.Machine
open Sys2Proof.Claims

/-! ### The left part of a word (40_loadstore.md rule R318) -/

theorem exec_swl (s : State) (base rt : BitVec 5) (imm : BitVec 16) :
    exec (.swl base rt imm) s = (s.storeLeft (s.readGpr base + imm.signExtend 64) 4
      (zextLow 32 (s.readGpr rt))).finish s fun t => .next t.advance := rfl

/-- The store of a left part lands at the block's address, where the bytes are RAM. -/
theorem State.storeLeft_of_reaches {s : State} {va : Dword} {g : Target} {n : Nat} (v : Dword)
    (reaches : Reaches s va .store g) (ram : InRam s (blockOf g n) (va.toNat % n + 1)) :
    s.storeLeft va n v = .ok ((Remembered s va g).landStore g.cca
      ⟨blockOf g n, va.toNat % n + 1, v >>> (8 * (n - 1 - va.toNat % n))⟩) := by
  unfold State.storeLeft
  rw [reach_of_reaches reaches]
  have ram' : InRam (Remembered s va g) (blockOf g n) (va.toNat % n + 1) := by
    simpa only [InRam, remembered_physAt] using ram
  exact State.memWrite_ok.2 ⟨ram', rfl⟩

/-- With attribute 7 a store waits in a buffer that has room for it (20_memory.md rule R225). -/
theorem arrivals_waits {accel : List BufferedStore} {b : BufferedStore} (room : bufferedBytes accel + b.size < 32) :
    arrivals accel 7 b = ([], accel ++ [b]) := by
  unfold arrivals
  rw [if_pos rfl, if_pos room]

/-- A buffered SWL waits as bytes of the low word of the register, with zeros above them. -/
theorem swl_buffers {s : State} {base rt : BitVec 5} {imm : BitVec 16} {va : Dword} {pa : PhysAddr}
    (address : s.readGpr base + imm.signExtend 64 = va) (reaches : Reaches s va .store ⟨pa, 7⟩)
    (ram : InRam s (blockOf ⟨pa, 7⟩ 4) (va.toNat % 4 + 1))
    (room : bufferedBytes s.accel + (va.toNat % 4 + 1) < 32) :
    ∃ t, exec (.swl base rt imm) s = .next t ∧ t.accel = s.accel ++
      [⟨blockOf ⟨pa, 7⟩ 4, va.toNat % 4 + 1, zextLow 32 (s.readGpr rt) >>> (8 * (4 - 1 - va.toNat % 4))⟩] := by
  have runs := exec_swl s base rt imm
  rw [address, State.storeLeft_of_reaches _ reaches ram] at runs
  refine ⟨_, runs, ?_⟩
  rw [State.advance_accel, (State.received_landStore _ _ _).2, remembered_accel, arrivals_waits room]

end Sys2Proof.Machine

namespace Sys2Proof.Claims
open Sys2Proof.Machine

/-- Where the stored part of the register has bits above the low word, the store that SWL buffers is not the one
that `StoresLeft` names: the same bytes at the same address, under a value with other bits above them. -/
theorem not_storesLeft_swl {s : State} {base rt : BitVec 5} {imm : BitVec 16} {va : Dword} {pa : PhysAddr}
    (address : s.readGpr base + imm.signExtend 64 = va) (reaches : Reaches s va .store ⟨pa, 7⟩)
    (ram : InRam s (blockOf ⟨pa, 7⟩ 4) (va.toNat % 4 + 1))
    (room : bufferedBytes s.accel + (va.toNat % 4 + 1) < 32)
    (high : zextLow 32 (s.readGpr rt) >>> (8 * (4 - 1 - va.toNat % 4)) ≠
      s.readGpr rt >>> (8 * (4 - 1 - va.toNat % 4))) :
    ¬ StoresLeft (.swl base rt imm) s va ⟨pa, 7⟩ 4 (s.readGpr rt) := by
  intro claim
  obtain ⟨t, runs, -, ⟨-, claimed⟩, -⟩ := claim ram
  obtain ⟨t', runs', buffered⟩ := swl_buffers (rt := rt) address reaches ram room
  cases runs.symm.trans runs'
  rw [remembered_accel] at claimed
  have same := buffered.symm.trans (claimed.trans (congrArg Prod.snd (arrivals_waits room)))
  rw [List.append_cancel_left_eq, List.cons.injEq, BufferedStore.mk.injEq] at same
  obtain ⟨⟨-, -, value⟩, -⟩ := same
  exact high value

/-- After power-up, register 1 holds the address of the last byte of a word, uncached accelerated in XKPHY. -/
def acceleratedAddress : State := State.reset.writeGpr 1 0xB800000000002003

theorem acceleratedAddress_readGpr : acceleratedAddress.readGpr 1 = 0xB800000000002003 :=
  State.readGpr_writeGpr _ _ _ _

theorem acceleratedAddress_address :
    acceleratedAddress.readGpr 1 + (0 : BitVec 16).signExtend 64 = 0xB800000000002003 := by
  rw [acceleratedAddress_readGpr]
  rfl

theorem acceleratedAddress_reaches :
    Reaches acceleratedAddress 0xB800000000002003 .store ⟨0x2003, 7⟩ := by
  refine ⟨?_, nofun⟩
  have segment : acceleratedAddress.segment 0xB800000000002003 = .xkphy := by decide
  rw [State.translate_xkphy (.inl (by decide)) segment]
  have reachable : Reachable acceleratedAddress 0x2003 7 := ⟨.inr (.inr rfl), .inr (by decide)⟩
  exact State.checkTarget_of_reachable reachable

theorem acceleratedAddress_inRam : InRam acceleratedAddress 0x2000 4 := by
  unfold InRam
  decide

/-- Refutes O23: with attribute 7 SWL buffers the low word of rt, where the statement buffers all of rt. Register 1
holds 0xB800000000002003, its own address: the buffered value is 0x2003. -/
theorem not_leftAndRightAccessesMovePartOfABlock : ¬ Obligations.LeftAndRightAccessesMovePartOfABlock := by
  intro h
  obtain ⟨-, -, stores, -⟩ := h acceleratedAddress 1 1 0 ⟨0x2003, 7⟩
  rw [acceleratedAddress_address] at stores
  refine not_storesLeft_swl acceleratedAddress_address acceleratedAddress_reaches acceleratedAddress_inRam
    (by decide) ?_ (stores acceleratedAddress_reaches).1
  rw [acceleratedAddress_readGpr]
  decide

end Sys2Proof.Claims
end

section
/-!
SUPPORT. How integer instructions end: a general register written, behind the check for 64-bit operations or not;
a value that is stated only where the operands are sign-extended words.
-/
namespace Sys2Proof.Machine
open Sys2Proof.Claims

/-! ### Sign-extended words (41_alu.md rule R340) -/

theorem isWordValue_iff (v : Dword) : isWordValue v = true ↔ IsWord v := isCompat_iff v

theorem State.wordValues_iff (s : State) (i j : BitVec 5) :
    s.wordValues i j = true ↔ IsWord (s.readGpr i) ∧ IsWord (s.readGpr j) := by
  simp only [State.wordValues, Bool.and_eq_true, isWordValue_iff]

/-- A register that holds a sign-extended word has the value of its low word. -/
theorem State.toInt_gprWord {s : State} {i : BitVec 5} (word : IsWord (s.readGpr i)) :
    (s.gprWord i).toInt = (s.readGpr i).toInt := by
  have wide : ((s.gprWord i).signExtend 64).toInt = (s.gprWord i).toInt := BitVec.toInt_signExtend_of_le (by decide)
  rw [← wide]
  exact (congrArg BitVec.toInt word).symm

theorem lowWord_signExtend (w : Word) : lowWord (w.signExtend 64) = w := by
  unfold lowWord
  apply BitVec.eq_of_getLsbD_eq
  intro i hi
  rw [BitVec.getLsbD_setWidth, BitVec.getLsbD_signExtend]
  simp [hi, show i < 64 by omega]

theorem lowWord_ofInt (r : Int) : lowWord (BitVec.ofInt 64 r) = BitVec.ofInt 32 r := by
  apply BitVec.eq_of_toNat_eq
  rw [lowWord, BitVec.toNat_setWidth, BitVec.toNat_ofInt, BitVec.toNat_ofInt]
  omega

theorem isWord_signExtend (w : Word) : IsWord (w.signExtend 64) :=
  (congrArg (BitVec.signExtend 64) (lowWord_signExtend w)).symm

theorem toInt_simm (imm : BitVec 16) : (simm imm).toInt = imm.toInt := BitVec.toInt_signExtend_of_le (by decide)

/-! ### What an instruction writes -/

section
variable {i : Instr} {s : State} {rd : BitVec 5}

theorem putsGpr_of_putGpr {v : Dword} (runs : exec i s = s.putGpr rd v) : PutsGpr i s rd v :=
  ⟨_, runs, State.writesGpr_advance s rd v⟩

/-- A doubleword instruction writes its result, or is reserved (60_exceptions.md rule R934). -/
theorem putsGpr_of_need64 {v : Dword} (runs : exec i s = need64 s (s.putGpr rd v)) :
    (s.are64 = true → PutsGpr i s rd v) ∧ (s.are64 = false → Takes i s .ri) :=
  ⟨fun on => putsGpr_of_putGpr (runs.trans (need64_on on _)), fun off => runs.trans (need64_off off _)⟩

/-- A word instruction completes; its value is stated where its operands are sign-extended words (log 5). -/
theorem putsGpr_of_wordResult {ok : Bool} {w : Word} (runs : exec i s = s.putGpr rd (s.wordResult ok w)) :
    ∃ v, PutsGpr i s rd v ∧ (ok = true → v = w.signExtend 64) :=
  ⟨_, putsGpr_of_putGpr runs, fun words => if_pos words⟩

/-- A word instruction whose one operand is register `r`. -/
theorem putsGpr_of_wordValue {r : BitVec 5} {w : Word}
    (runs : exec i s = s.putGpr rd (s.wordResult (isWordValue (s.readGpr r)) w)) :
    ∃ v, PutsGpr i s rd v ∧ (IsWord (s.readGpr r) → v = w.signExtend 64) := by
  simpa only [isWordValue_iff] using putsGpr_of_wordResult runs

/-- A word instruction whose operands are registers `r` and `q`. -/
theorem putsGpr_of_wordValues {r q : BitVec 5} {w : Word}
    (runs : exec i s = s.putGpr rd (s.wordResult (s.wordValues r q) w)) :
    ∃ v, PutsGpr i s rd v ∧ (IsWord (s.readGpr r) → IsWord (s.readGpr q) → v = w.signExtend 64) := by
  simpa only [State.wordValues_iff, and_imp] using putsGpr_of_wordResult runs

end

end Sys2Proof.Machine
end

section
/-!
PROOFS of 41_alu.md, first part: logic, compares, and the arithmetic that does not trap (O1, O2, O3).
-/
namespace Sys2Proof.Machine

/-! ### Instructions whose results the rules write otherwise than the model -/

theorem boolDword_slt (a b : Dword) : boolDword (a.slt b) = if a.toInt < b.toInt then 1 else 0 := by
  simp only [boolDword, BitVec.slt_iff_toInt_lt]

theorem boolDword_ult (a b : Dword) : boolDword (a.ult b) = if a.toNat < b.toNat then 1 else 0 := by
  simp only [boolDword, BitVec.ult_iff_toNat_lt]

theorem lui_word (imm : BitVec 16) : lowWord (zimm imm) <<< 16 = (imm ++ 0#16 : BitVec 32) := by
  unfold lowWord zimm
  apply BitVec.eq_of_getLsbD_eq
  intro i hi
  rw [BitVec.getLsbD_append, BitVec.getLsbD_shiftLeft, BitVec.getLsbD_setWidth, BitVec.getLsbD_setWidth]
  by_cases low : i < 16
  · simp [low]
  · simp [low, hi, show i - 16 < 32 by omega, show i - 16 < 64 by omega]

section
variable (s : State) (rs rt rd : BitVec 5) (imm : BitVec 16)

theorem exec_slt : exec (.slt rs rt rd) s =
    s.putGpr rd (if (s.readGpr rs).toInt < (s.readGpr rt).toInt then 1 else 0) := by
  rw [← boolDword_slt]
  rfl

theorem exec_sltu : exec (.sltu rs rt rd) s =
    s.putGpr rd (if (s.readGpr rs).toNat < (s.readGpr rt).toNat then 1 else 0) := by
  rw [← boolDword_ult]
  rfl

theorem exec_slti : exec (.slti rs rt imm) s =
    s.putGpr rt (if (s.readGpr rs).toInt < imm.toInt then 1 else 0) := by
  rw [← toInt_simm, ← boolDword_slt]
  rfl

theorem exec_sltiu : exec (.sltiu rs rt imm) s =
    s.putGpr rt (if (s.readGpr rs).toNat < (imm.signExtend 64).toNat then 1 else 0) := by
  rw [← boolDword_ult]
  rfl

theorem exec_lui : exec (.lui rt imm) s = s.putGpr rt ((imm ++ 0#16 : BitVec 32).signExtend 64) := by
  rw [← lui_word]
  rfl

/-- The low word of a sum is the sum of the low words. -/
theorem exec_addiu : exec (.addiu rs rt imm) s = s.putGpr rt
    (s.wordResult (isWordValue (s.readGpr rs)) ((s.readGpr rs + imm.signExtend 64).setWidth 32)) := by
  rw [BitVec.setWidth_add _ _ (by decide)]
  rfl

/-- The low word of the signed product of two words. -/
theorem exec_gsmult : exec (.gsmult rs rt rd) s = s.putGpr rd
    (s.wordResult (s.wordValues rs rt) (BitVec.ofInt 32 ((s.gprWord rs).toInt * (s.gprWord rt).toInt))) := by
  rw [← lowWord_ofInt]
  rfl

/-- The low word of the unsigned product of two words. -/
theorem exec_gsmultu : exec (.gsmultu rs rt rd) s = s.putGpr rd
    (s.wordResult (s.wordValues rs rt) (BitVec.ofNat 32 ((s.gprWord rs).toNat * (s.gprWord rt).toNat))) := by
  rw [← BitVec.setWidth_ofNat_of_le (show 32 ≤ 64 by decide)]
  rfl

theorem exec_gsdmultu : exec (.gsdmultu rs rt rd) s =
    need64 s (s.putGpr rd (BitVec.ofNat 64 ((s.readGpr rs).toNat * (s.readGpr rt).toNat))) := by
  rw [BitVec.ofNat_mul, BitVec.ofNat_toNat, BitVec.ofNat_toNat, BitVec.setWidth_eq, BitVec.setWidth_eq]
  rfl

end

end Sys2Proof.Machine

namespace Sys2Proof.Claims
open Sys2Proof.Machine

/-- Settles O1: each of the twelve writes the result of its rule and goes on. -/
theorem logicAndCompareWriteTheirResults : Obligations.LogicAndCompareWriteTheirResults := by
  intro s
  refine ⟨?registers, ?immediates, fun rt imm => putsGpr_of_putGpr (exec_lui s rt imm)⟩
  case registers =>
    simp only [logicOps, List.forall_mem_cons]
    exact ⟨fun rs rt rd => putsGpr_of_putGpr (exec_slt s rs rt rd),
      fun rs rt rd => putsGpr_of_putGpr (exec_sltu s rs rt rd),
      fun _ _ _ => putsGpr_of_putGpr rfl, fun _ _ _ => putsGpr_of_putGpr rfl, fun _ _ _ => putsGpr_of_putGpr rfl,
      fun _ _ _ => putsGpr_of_putGpr rfl, nofun⟩
  case immediates =>
    simp only [logicImmOps, List.forall_mem_cons]
    exact ⟨fun rs rt imm => putsGpr_of_putGpr (exec_slti s rs rt imm),
      fun rs rt imm => putsGpr_of_putGpr (exec_sltiu s rs rt imm),
      fun _ _ _ => putsGpr_of_putGpr rfl, fun _ _ _ => putsGpr_of_putGpr rfl, fun _ _ _ => putsGpr_of_putGpr rfl,
      nofun⟩

/-- Settles O2: each of the five ends in `State.wordResult`. -/
theorem wordArithmeticSignExtendsItsResult : Obligations.WordArithmeticSignExtendsItsResult := by
  intro s
  refine ⟨?_, fun rs rt imm => putsGpr_of_wordValue (exec_addiu s rs rt imm)⟩
  simp only [wordOps, List.forall_mem_cons]
  exact ⟨fun _ _ _ => putsGpr_of_wordValues rfl, fun _ _ _ => putsGpr_of_wordValues rfl,
    fun rs rt rd => putsGpr_of_wordValues (exec_gsmult s rs rt rd),
    fun rs rt rd => putsGpr_of_wordValues (exec_gsmultu s rs rt rd), nofun⟩

/-- Settles O3: each of the five is a register write behind the check for 64-bit operations. -/
theorem doublewordArithmeticNeedsSixtyFourBits : Obligations.DoublewordArithmeticNeedsSixtyFourBits := by
  intro s
  refine ⟨?_, fun _ _ _ => putsGpr_of_need64 rfl⟩
  simp only [dwordOps, List.forall_mem_cons]
  exact ⟨fun _ _ _ => putsGpr_of_need64 rfl, fun _ _ _ => putsGpr_of_need64 rfl, fun _ _ _ => putsGpr_of_need64 rfl,
    fun rs rt rd => putsGpr_of_need64 (exec_gsdmultu s rs rt rd), nofun⟩

end Sys2Proof.Claims
end

section
/-!
PROOFS of 41_alu.md, second part: the arithmetic that traps (O4).
-/
namespace Sys2Proof.Machine
open Sys2Proof.Claims

/-! ### Integer Overflow (60_exceptions.md rules R936, R960) -/

/-- A field reads what was put into it. -/
theorem extractLsb'_putField {w lo len : Nat} (x v : BitVec w) (inside : lo + len ≤ w) :
    (putField x lo len v).extractLsb' lo len = v.setWidth len := by
  apply BitVec.eq_of_getLsbD_eq
  intro i hi
  simp only [putField, mergeBits, fieldMask, BitVec.getLsbD_extractLsb', BitVec.getLsbD_or, BitVec.getLsbD_and,
    BitVec.getLsbD_not, BitVec.getLsbD_shiftLeft, BitVec.getLsbD_setWidth, BitVec.getLsbD_ofNat,
    Nat.testBit_mul_two_pow, Nat.testBit_two_pow_sub_one]
  simp [hi, show lo + i < w by omega]

/-- Exception entry writes Cause.ExcCode. -/
theorem State.takeException_excCode (s : State) (e : Exc) :
    (s.takeException e).cp0.cause.extractLsb' 2 5 = e.code := by
  have cause : (s.takeException e).cp0.cause = s.excCause e := by cases e <;> rfl
  rw [cause, State.excCause, extractLsb'_putField _ _ (by decide)]
  exact BitVec.setWidth_setWidth_of_le _ (by decide)

/-- Integer Overflow goes to the general vector, whatever Status.EXL is. -/
theorem State.takeException_ov_pc (s : State) : (s.takeException .ov).pc = s.vectorBase + 0x180 :=
  congrArg (s.vectorBase + ·) (ite_self _)

/-! ### The exact result, or the trap -/

theorem overflows_iff (w : Nat) (r : Int) : overflows w r = true ↔ ¬ Fits w r := by
  simp only [overflows, Fits, Bool.or_eq_true, decide_eq_true_eq]
  omega

/-- An exact result that fits a word is the sign extension of its low word. -/
theorem signExtend_ofInt_of_fits {r : Int} (fits : Fits 32 r) :
    (BitVec.ofInt 32 r).signExtend 64 = BitVec.ofInt 64 r := by
  obtain ⟨low, high⟩ := fits
  exact congrArg (BitVec.ofInt 64) (BitVec.toInt_ofInt_eq_self (by decide) low high)

section
variable {i : Instr} {s : State} {rd : BitVec 5} {r : Int}

theorem exactOrOverflow_of_exec {w : Nat} {v : Dword}
    (runs : exec i s = if overflows w r then raise .ov s else s.putGpr rd v)
    (exact : Fits w r → v = BitVec.ofInt 64 r) : ExactOrOverflow w i s rd r := by
  constructor
  · intro fits
    rw [if_neg fun large => (overflows_iff w r).1 large fits, exact fits] at runs
    exact putsGpr_of_putGpr runs
  · intro large
    rw [if_pos ((overflows_iff w r).2 large)] at runs
    exact ⟨runs, s.takeException_readGpr .ov, s.takeException_excCode .ov, s.takeException_ov_pc⟩

/-- A word sum of sign-extended words is exact, or traps. -/
theorem exactOrOverflow_of_putTrapWord {ok : Bool} (runs : exec i s = s.putTrapWord rd ok r) (words : ok = true) :
    ExactOrOverflow 32 i s rd r := by
  subst words
  exact exactOrOverflow_of_exec runs signExtend_ofInt_of_fits

/-- A doubleword sum is exact, or traps, or is reserved. -/
theorem exactOrOverflow_of_need64 (runs : exec i s = need64 s (s.putTrapDword rd r)) :
    (s.are64 = true → ExactOrOverflow 64 i s rd r) ∧ (s.are64 = false → Takes i s .ri) :=
  ⟨fun on => exactOrOverflow_of_exec (runs.trans (need64_on on _)) fun _ => rfl,
    fun off => runs.trans (need64_off off _)⟩

end

/-! ### The sums of sign-extended words are those of their registers -/

section
variable {s : State} {rs rt : BitVec 5} (word : IsWord (s.readGpr rs))
include word

theorem exec_addi_of_isWord (imm : BitVec 16) : exec (.addi rs rt imm) s =
    s.putTrapWord rt (isWordValue (s.readGpr rs)) ((s.readGpr rs).toInt + imm.toInt) := by
  rw [← State.toInt_gprWord word, ← toInt_simm]
  rfl

variable (rd : BitVec 5) (word' : IsWord (s.readGpr rt))
include word'

theorem exec_add_of_isWord : exec (.add rs rt rd) s =
    s.putTrapWord rd (s.wordValues rs rt) ((s.readGpr rs).toInt + (s.readGpr rt).toInt) := by
  rw [← State.toInt_gprWord word, ← State.toInt_gprWord word']
  rfl

theorem exec_sub_of_isWord : exec (.sub rs rt rd) s =
    s.putTrapWord rd (s.wordValues rs rt) ((s.readGpr rs).toInt - (s.readGpr rt).toInt) := by
  rw [← State.toInt_gprWord word, ← State.toInt_gprWord word']
  rfl

end

theorem exec_daddi (s : State) (rs rt : BitVec 5) (imm : BitVec 16) : exec (.daddi rs rt imm) s =
    need64 s (s.putTrapDword rt ((s.readGpr rs).toInt + imm.toInt)) := by
  rw [← toInt_simm]
  rfl

end Sys2Proof.Machine

namespace Sys2Proof.Claims
open Sys2Proof.Machine

/-- Settles O4: each of the six ends in `State.putTrapWord` or, behind its check, in `State.putTrapDword`. -/
theorem overflowTrapsAndLeavesTheDestination : Obligations.OverflowTrapsAndLeavesTheDestination := by
  intro s
  refine ⟨?words, fun rs rt imm word => ?immediate, ?doublewords,
    fun rs rt imm => exactOrOverflow_of_need64 (exec_daddi s rs rt imm)⟩
  case words =>
    simp only [trapWordOps, List.forall_mem_cons]
    exact ⟨fun rs rt rd word word' => exactOrOverflow_of_putTrapWord (exec_add_of_isWord word rd word')
        ((s.wordValues_iff rs rt).2 ⟨word, word'⟩),
      fun rs rt rd word word' => exactOrOverflow_of_putTrapWord (exec_sub_of_isWord word rd word')
        ((s.wordValues_iff rs rt).2 ⟨word, word'⟩), nofun⟩
  case immediate => exact exactOrOverflow_of_putTrapWord (exec_addi_of_isWord word imm) ((isWordValue_iff _).2 word)
  case doublewords =>
    simp only [trapDwordOps, List.forall_mem_cons]
    exact ⟨fun _ _ _ => exactOrOverflow_of_need64 rfl, fun _ _ _ => exactOrOverflow_of_need64 rfl, nofun⟩

end Sys2Proof.Claims
end

section
/-!
PROOFS of 41_alu.md, third part: the counts of leading bits (O5).
-/
namespace Sys2Proof.Machine
open Sys2Proof.Claims

theorem isLeadingCount_leadingZeros (w : Nat) (v : Dword) : IsLeadingCount w false v (leadingZeros w v) := by
  induction w with
  | zero => exact ⟨Nat.le_refl 0, fun i _ hi => absurd hi (Nat.not_lt_zero i), fun h => absurd h (Nat.lt_irrefl 0)⟩
  | succ n ih =>
    obtain ⟨within, zeros, next⟩ := ih
    cases top : v.getLsbD n with
    | true =>
      have none : leadingZeros (n + 1) v = 0 := if_pos top
      rw [none]
      exact ⟨Nat.zero_le _, fun i _ _ => by omega, fun _ => top⟩
    | false =>
      have more : leadingZeros (n + 1) v = leadingZeros n v + 1 := if_neg (by simp [top])
      rw [more]
      refine ⟨by omega, fun i above below => ?_, fun room => ?_⟩
      · by_cases last : i = n
        · rw [last, top]
        · exact zeros i (by omega) (by omega)
      · rw [show n + 1 - 1 - (leadingZeros n v + 1) = n - 1 - leadingZeros n v by omega]
        exact next (by omega)

/-- The leading zeros of the complement are the leading ones. -/
theorem isLeadingCount_not {w n : Nat} {v : Dword} (small : w ≤ 64) (count : IsLeadingCount w false (~~~v) n) :
    IsLeadingCount w true v n := by
  obtain ⟨within, zeros, next⟩ := count
  have flip {i : Nat} (hi : i < w) : (~~~v).getLsbD i = !v.getLsbD i := by
    simp [show i < 64 by omega]
  refine ⟨within, fun i above below => ?_, fun room => ?_⟩
  · simpa [flip below] using zeros i above below
  · simpa [flip (show w - 1 - n < w by omega)] using next room

section
variable {i : Instr} {s : State} {rt rd : BitVec 5} {n w : Nat} {b : Bool} {a : Dword}

/-- A count completes; its value is stated where `rt` names `rd` and the operand is in range (logs 5, 6). -/
theorem putsGpr_of_putCount {ok : Bool} (runs : exec i s = s.putCount rt rd ok n) (small : w ≤ 64)
    (count : IsLeadingCount w b a n) :
    ∃ v, PutsGpr i s rd v ∧ (rt = rd → ok = true → IsLeadingCount w b a v.toNat) := by
  refine ⟨_, putsGpr_of_putGpr runs, fun same stated => ?_⟩
  have within : n ≤ w := count.1
  rw [if_pos (by simp [same, stated]), BitVec.toNat_ofNat, Nat.mod_eq_of_lt (by omega)]
  exact count

/-- A doubleword count completes, or is reserved. -/
theorem putsGpr_of_need64_putCount (runs : exec i s = need64 s (s.putCount rt rd true n))
    (count : IsLeadingCount 64 b a n) :
    (s.are64 = true → ∃ v, PutsGpr i s rd v ∧ (rt = rd → IsLeadingCount 64 b a v.toNat)) ∧
      (s.are64 = false → Takes i s .ri) := by
  refine ⟨fun on => ?_, fun off => runs.trans (need64_off off _)⟩
  simpa using putsGpr_of_putCount (runs.trans (need64_on on _)) (Nat.le_refl 64) count

/-- A word count completes; its value is stated for a sign-extended word. -/
theorem putsGpr_of_word_putCount {rs : BitVec 5}
    (runs : exec i s = s.putCount rt rd (isWordValue (s.readGpr rs)) n) (count : IsLeadingCount 32 b a n) :
    ∃ v, PutsGpr i s rd v ∧ (rt = rd → IsWord (s.readGpr rs) → IsLeadingCount 32 b a v.toNat) := by
  simpa only [isWordValue_iff] using putsGpr_of_putCount runs (by decide) count

end

end Sys2Proof.Machine

namespace Sys2Proof.Claims
open Sys2Proof.Machine

/-- Settles O5: zeros are counted by recursion on the width, ones are the zeros of the complement. -/
theorem leadingBitCountsAreExact : Obligations.LeadingBitCountsAreExact := by
  intro s
  constructor
  · simp only [wordCounts, List.forall_mem_cons]
    exact ⟨fun _ _ _ => putsGpr_of_word_putCount rfl
        (isLeadingCount_not (by decide) (isLeadingCount_leadingZeros 32 _)),
      fun _ _ _ => putsGpr_of_word_putCount rfl (isLeadingCount_leadingZeros 32 _), nofun⟩
  · simp only [dwordCounts, List.forall_mem_cons]
    exact ⟨fun _ _ _ => putsGpr_of_need64_putCount rfl
        (isLeadingCount_not (by decide) (isLeadingCount_leadingZeros 64 _)),
      fun _ _ _ => putsGpr_of_need64_putCount rfl (isLeadingCount_leadingZeros 64 _), nofun⟩

end Sys2Proof.Claims
end

section
/-!
PROOFS of 41_alu.md, fourth part: bytes and halfwords rearranged (O6).
-/
namespace Sys2Proof.Machine
open Sys2Proof.Claims

/-! ### Lanes (00_scope.md rule R12) -/

theorem extractLsb'_extractLsb' {w : Nat} (x : BitVec w) {lo n start len : Nat} (inside : start + len ≤ n) :
    (x.extractLsb' lo n).extractLsb' start len = x.extractLsb' (lo + start) len := by
  apply BitVec.eq_of_getLsbD_eq
  intro i hi
  simp [hi, show start + i < n by omega, Nat.add_assoc]

/-- The low lanes of a sign-extended word are those of the word. -/
theorem extractLsb'_signExtend (w : Word) {lo len : Nat} (low : lo + len ≤ 32) :
    (w.signExtend 64).extractLsb' lo len = w.extractLsb' lo len := by
  have narrow := BitVec.extractLsb'_setWidth_of_le (b := w.signExtend 64) low
  rw [← narrow]
  exact congrArg (BitVec.extractLsb' lo len) (lowWord_signExtend w)

theorem lane_append_halves (h l : BitVec 16) {i : Nat} (hi : i < 2) :
    (h ++ l : BitVec 32).extractLsb' (16 * i) 16 = if i = 0 then l else h := by
  interval_cases i
  · exact BitVec.extractLsb'_append_eq_right
  · exact BitVec.extractLsb'_append_eq_left

/-- Halfword `i` of four joined halfwords. -/
theorem lane_ofHalves (f : Nat → BitVec 16) {i : Nat} (hi : i < 4) : lane 16 (ofHalves f) i = f i := by
  unfold lane ofHalves
  by_cases low : i < 2
  · rw [BitVec.extractLsb'_append_eq_of_add_le (by omega), lane_append_halves _ _ low]
    interval_cases i <;> rfl
  · rw [BitVec.extractLsb'_append_eq_of_le (by omega), show 16 * i - (16 + 16) = 16 * (i - 2) by omega,
      lane_append_halves _ _ (by omega)]
    interval_cases i <;> rfl

/-- A lane that is the swapped lane of another value holds that lane's bytes in the other order. -/
theorem bytes_of_lane_eq_swapHalf {x v : Dword} {i : Nat} (swapped : lane 16 v i = swapHalf (lane 16 x i)) :
    v.extractLsb' (16 * i) 8 = x.extractLsb' (16 * i + 8) 8 ∧
      v.extractLsb' (16 * i + 8) 8 = x.extractLsb' (16 * i) 8 := by
  have byte (y : Dword) (start : Nat) (inside : start + 8 ≤ 16) :
      (lane 16 y i).extractLsb' start 8 = y.extractLsb' (16 * i + start) 8 := extractLsb'_extractLsb' y inside
  have low : (swapHalf (lane 16 x i)).extractLsb' 0 8 = (lane 16 x i).extractLsb' 8 8 :=
    BitVec.extractLsb'_append_eq_right
  have high : (swapHalf (lane 16 x i)).extractLsb' 8 8 = (lane 16 x i).extractLsb' 0 8 :=
    BitVec.extractLsb'_append_eq_left
  rw [← swapped, byte v 0 (by decide), byte x 8 (by decide)] at low
  rw [← swapped, byte v 8 (by decide), byte x 0 (by decide)] at high
  exact ⟨low, high⟩

/-- WSBH swaps the bytes of the two low lanes. -/
theorem lane_swapped_word (x : Dword) {i : Nat} (hi : i < 2) :
    lane 16 ((swapHalf (lane 16 x 1) ++ swapHalf (lane 16 x 0) : BitVec 32).signExtend 64) i =
      swapHalf (lane 16 x i) := by
  refine (extractLsb'_signExtend _ (by omega)).trans ((lane_append_halves _ _ hi).trans ?_)
  interval_cases i <;> rfl

end Sys2Proof.Machine

namespace Sys2Proof.Claims
open Sys2Proof.Machine

/-- Settles O6: every rearrangement is read lane by lane. -/
theorem byteAndHalfwordRearrangements : Obligations.ByteAndHalfwordRearrangements := by
  intro s rt rd x
  refine ⟨putsGpr_of_putGpr rfl, putsGpr_of_putGpr rfl, fun on => ⟨?dshd, ?dsbh⟩,
    fun off => ⟨need64_off off _, need64_off off _⟩, ?wsbh⟩
  case dshd =>
    exact ⟨_, (putsGpr_of_need64 rfl).1 on, fun i hi => lane_ofHalves (fun j => lane 16 x (3 - j)) hi⟩
  case dsbh =>
    exact ⟨_, (putsGpr_of_need64 rfl).1 on, fun i hi =>
      bytes_of_lane_eq_swapHalf (lane_ofHalves (fun j => swapHalf (lane 16 x j)) hi)⟩
  case wsbh =>
    obtain ⟨v, puts, stated⟩ := putsGpr_of_wordValue (i := .wsbh rt rd) (s := s) rfl
    refine ⟨v, puts, fun word => ?_⟩
    rw [stated word]
    exact ⟨isWord_signExtend _, fun i hi => bytes_of_lane_eq_swapHalf (lane_swapped_word x hi)⟩

end Sys2Proof.Claims
end

section
/-!
SUPPORT. How the instructions of 42_muldiv.md end: HI and LO written, behind the check for 64-bit operations or not;
values that are stated only where the operands are sign-extended words.
-/
namespace Sys2Proof.Machine
open Sys2Proof.Claims

/-- The halves of a value, side by side, are the value. -/
theorem extractLsb'_append_setWidth {n m : Nat} (x : BitVec (n + m)) : x.extractLsb' m n ++ x.setWidth m = x := by
  rw [BitVec.setWidth_eq_extractLsb' (Nat.le_add_left m n)]
  exact BitVec.extractLsb'_append_extractLsb'

/-- The words that `State.putHiLoWords` leaves in HI and LO are the two halves of its value. -/
theorem wordPair_sextWord (p : Dword) : wordPair (sextWord (highWord p)) (sextWord (lowWord p)) = p := by
  have halves : wordPair (sextWord (highWord p)) (sextWord (lowWord p)) = highWord p ++ lowWord p :=
    congrArg₂ (fun h l : Word => (h ++ l : BitVec 64)) (lowWord_signExtend _) (lowWord_signExtend _)
  exact halves.trans (extractLsb'_append_setWidth (n := 32) (m := 32) p)

section
variable {i : Instr} {s : State} {good : Dword → Dword → Prop}

theorem putsHiLoWith_of_writeHiLo {h l : Dword} (runs : exec i s = .next (s.writeHiLo h l).advance) (holds : good h l) :
    PutsHiLoWith i s good :=
  ⟨_, h, l, runs, State.writesHiLo_advance s h l, holds⟩

/-- A word product: both halves sign-extended where the operands are sign-extended words (log 5). -/
theorem putsHiLoWith_of_putHiLoWords {rs rt : BitVec 5} {p : Dword}
    (runs : exec i s = s.putHiLoWords (s.wordValues rs rt) p) :
    PutsHiLoWith i s fun h l => IsWord (s.readGpr rs) → IsWord (s.readGpr rt) →
      IsWord h ∧ IsWord l ∧ wordPair h l = p := by
  unfold State.putHiLoWords at runs
  split at runs
  case isTrue =>
    exact putsHiLoWith_of_writeHiLo runs fun _ _ =>
      ⟨isWord_signExtend _, isWord_signExtend _, wordPair_sextWord p⟩
  case isFalse others =>
    exact putsHiLoWith_of_writeHiLo runs fun word word' =>
      absurd ((s.wordValues_iff rs rt).2 ⟨word, word'⟩) others

/-- A doubleword product. -/
theorem putsHiLoWith_of_putHiLo {p : BitVec 128} (runs : exec i s = s.putHiLo p) :
    PutsHiLoWith i s fun h l => (h ++ l : BitVec 128) = p :=
  putsHiLoWith_of_writeHiLo runs (extractLsb'_append_setWidth (n := 64) (m := 64) p)

/-- A division completes; quotient and remainder are stated where `stated` says that the model has them (log 7). -/
theorem putsHiLoWith_of_putDivision {ok : Bool} {r q : Dword} {stated : Prop} (runs : exec i s = s.putDivision ok r q)
    (okIff : ok = true ↔ stated) (holds : stated → good r q) : PutsHiLoWith i s fun h l => stated → good h l := by
  unfold State.putDivision at runs
  split at runs
  case isTrue => exact putsHiLoWith_of_writeHiLo runs holds
  case isFalse others => exact putsHiLoWith_of_writeHiLo runs fun h => absurd (okIff.2 h) others

/-- A division to one register completes; its value is stated where `stated` says that the model has it (log 7). -/
theorem putsGprWith_of_putQuotient {rd : BitVec 5} {ok : Bool} {v : Dword} {stated : Prop} {good : Dword → Prop}
    (runs : exec i s = s.putQuotient rd ok v) (okIff : ok = true ↔ stated) (holds : stated → good v) :
    PutsGprWith i s rd fun v => stated → good v :=
  ⟨_, putsGpr_of_putGpr runs, fun h => by rw [if_pos (okIff.2 h)]; exact holds h⟩

end

end Sys2Proof.Machine
end

section
/-!
PROOFS of 42_muldiv.md, first part: products in HI and LO, the moves between HI, LO and a register, MUL (O10, O12).
-/
namespace Sys2Proof.Machine
open Sys2Proof.Claims

/-- The 128-bit product of two registers does not overflow. -/
theorem toNat_ofNat_mul_toNat (a b : Dword) : (BitVec.ofNat 128 (a.toNat * b.toNat)).toNat = a.toNat * b.toNat :=
  Nat.mod_eq_of_lt (show _ < 2 ^ 64 * 2 ^ 64 from Nat.mul_lt_mul'' a.isLt b.isLt)

theorem State.writeHiLo_writeGpr (s : State) (i : BitVec 5) (v h l : Dword) :
    (s.writeHiLo h l).writeGpr i v = (s.writeGpr i v).writeHiLo h l := by
  unfold State.writeGpr
  split <;> rfl

/-- A register written with HI and LO. -/
theorem State.writesGpr_writeHiLo (s : State) (i : BitVec 5) (v h l : Dword) :
    (s.writeHiLo h l).writesGpr ((s.writeGpr i v).writeHiLo h l).advance i v := by
  rw [← State.writeHiLo_writeGpr]
  exact State.writesGpr_advance _ i v

/-- The value of MUL for sign-extended words (42_muldiv.md rule R403). -/
theorem State.wordResult_productWords {s : State} {rs rt : BitVec 5} (word : IsWord (s.readGpr rs))
    (word' : IsWord (s.readGpr rt)) : s.wordResult (s.wordValues rs rt) (lowWord (s.productWords rs rt)) =
      (BitVec.ofInt 32 ((s.readGpr rs).toInt * (s.readGpr rt).toInt)).signExtend 64 := by
  rw [← State.toInt_gprWord word, ← State.toInt_gprWord word', ← lowWord_ofInt]
  exact if_pos ((s.wordValues_iff rs rt).2 ⟨word, word'⟩)

end Sys2Proof.Machine

namespace Sys2Proof.Claims
open Sys2Proof.Machine

/-- Settles O10: the word forms end in `State.putHiLoWords`, DMULT and DMULTU in `State.putHiLo`. -/
theorem multiplyFillsHiAndLo : Obligations.MultiplyFillsHiAndLo := by
  intro s rs rt
  refine ⟨?words, fun on => ⟨?dmult, ?dmultu⟩, fun off => ⟨need64_off off _, need64_off off _⟩⟩
  case words =>
    simp only [products, List.forall_mem_cons]
    exact ⟨putsHiLoWith_of_putHiLoWords rfl, putsHiLoWith_of_putHiLoWords rfl, putsHiLoWith_of_putHiLoWords rfl,
      putsHiLoWith_of_putHiLoWords rfl, putsHiLoWith_of_putHiLoWords rfl, putsHiLoWith_of_putHiLoWords rfl, nofun⟩
  case dmult => exact putsHiLoWith_of_putHiLo (need64_on on _)
  case dmultu =>
    obtain ⟨t, h, l, runs, writes, pair⟩ := putsHiLoWith_of_putHiLo (i := .dmultu rs rt) (need64_on on _)
    exact ⟨t, h, l, runs, writes, (congrArg BitVec.toNat pair).trans (toNat_ofNat_mul_toNat _ _)⟩

/-- Settles O12: a move is one write; MUL writes its register and leaves open values in HI and LO. -/
theorem hiLoMovesAndMul : Obligations.HiLoMovesAndMul := by
  intro s rs rt rd
  exact ⟨putsGpr_of_putGpr rfl, putsGpr_of_putGpr rfl, ⟨_, rfl, s.writesHiLo_advance _ _⟩,
    ⟨_, rfl, s.writesHiLo_advance _ _⟩,
    _, _, rfl, s.writesGpr_writeHiLo rd _ _ _, fun word word' => State.wordResult_productWords word word'⟩

end Sys2Proof.Claims
end

section
/-!
PROOFS of 42_muldiv.md and 47_custom_int.md: the divisions (O11).
-/
namespace Sys2Proof.Machine
open Sys2Proof.Claims

/-! ### Exact quotients and remainders (42_muldiv.md rules R402, R412 to R415) -/

theorem divides_iff (w : Nat) (a b : Int) : divides w a b = true ↔ Divisible w a b := by
  simp only [divides, Divisible, Bool.and_eq_true, bne_iff_ne, Bool.not_eq_true', ← Bool.not_eq_true, beq_iff_eq]

theorem isSignedDivision_tdiv_tmod (a : Int) {b : Int} (nonzero : b ≠ 0) :
    IsSignedDivision a b (a.tdiv b) (a.tmod b) := by
  refine ⟨(Int.tdiv_mul_add_tmod a b).symm, ?smaller, ?sign⟩
  case smaller =>
    rw [Int.natAbs_tmod]
    exact Nat.mod_lt _ (Int.natAbs_pos.2 nonzero)
  case sign =>
    by_cases divisible : b ∣ a
    · exact .inl (Int.tmod_eq_zero_of_dvd divisible)
    · have sign : (a.tmod b).sign = a.sign := (Int.sign_tmod a b).trans (if_neg divisible)
      exact .inr (by rw [← Int.sign_eq_neg_one_iff_neg, sign, Int.sign_eq_neg_one_iff_neg])

theorem isUnsignedDivision_div_mod (a : Nat) {b : Nat} (nonzero : b ≠ 0) : IsUnsignedDivision a b (a / b) (a % b) :=
  ⟨(Nat.div_add_mod' a b).symm, Nat.mod_lt a (Nat.pos_of_ne_zero nonzero)⟩

/-- What `f` gives for two words or doublewords, where the division has a stated result, is a doubleword. -/
def FitsDword (f : Int → Int → Int) : Prop :=
  ∀ {w : Nat} (a b : BitVec w), w ≤ 64 → Divisible w a.toInt b.toInt →
    (BitVec.ofInt 64 (f a.toInt b.toInt)).toInt = f a.toInt b.toInt

/-- The only quotient that does not fit is that of the most negative value by -1. -/
theorem toInt_sdiv_of_divisible {w : Nat} (a b : BitVec w) (stated : Divisible w a.toInt b.toInt) :
    (a.sdiv b).toInt = a.toInt.tdiv b.toInt := by
  obtain ⟨nonzero, fits⟩ := stated
  have positive : 0 < w := Nat.pos_of_ne_zero fun none => by subst none; exact nonzero (BitVec.toInt_zero_length b)
  apply BitVec.toInt_sdiv_of_ne_or_ne
  by_contra! most
  obtain ⟨least, minusOne⟩ := most
  refine fits ⟨least ▸ BitVec.toInt_intMin_of_pos positive, ?_⟩
  rw [minusOne, BitVec.neg_one_eq_allOnes, BitVec.toInt_allOnes, if_pos positive]

theorem fitsDword_tdiv : FitsDword Int.tdiv := by
  intro w a b small stated
  rw [← toInt_sdiv_of_divisible a b stated]
  exact BitVec.toInt_signExtend_of_le small

theorem fitsDword_tmod : FitsDword Int.tmod := by
  intro w a b small _
  rw [← BitVec.toInt_srem]
  exact BitVec.toInt_signExtend_of_le small

/-! ### Where the word forms have a stated result (logs 5, 7) -/

/-- A sign-extended word is 0 where its low word is. -/
theorem State.gprWord_eq_zero_iff {s : State} {i : BitVec 5} (word : IsWord (s.readGpr i)) :
    s.gprWord i = 0 ↔ s.readGpr i = 0 := by
  rw [← BitVec.toInt_inj, State.toInt_gprWord word, ← BitVec.toInt_inj]
  rfl

theorem State.wordValues_divides_iff (s : State) (rs rt : BitVec 5) :
    (s.wordValues rs rt && divides 32 (s.gprWord rs).toInt (s.gprWord rt).toInt) = true ↔
      IsWord (s.readGpr rs) ∧ IsWord (s.readGpr rt) ∧ Divisible 32 (s.readGpr rs).toInt (s.readGpr rt).toInt := by
  rw [Bool.and_eq_true, s.wordValues_iff, divides_iff, ← and_assoc]
  exact and_congr_right fun ⟨word, word'⟩ => by rw [State.toInt_gprWord word, State.toInt_gprWord word']

theorem State.wordValues_nonzero_iff (s : State) (rs rt : BitVec 5) :
    (s.wordValues rs rt && s.gprWord rt != 0) = true ↔
      IsWord (s.readGpr rs) ∧ IsWord (s.readGpr rt) ∧ s.readGpr rt ≠ 0 := by
  rw [Bool.and_eq_true, s.wordValues_iff, bne_iff_ne, ← and_assoc]
  exact and_congr_right fun ⟨_, word'⟩ => not_congr (State.gprWord_eq_zero_iff word')

/-! ### DIV, DDIV, DIVU, DDIVU -/

section
variable (s : State) (rs rt : BitVec 5)

theorem putsHiLoWith_div : PutsHiLoWith (.div rs rt) s fun h l =>
    IsWord (s.readGpr rs) → IsWord (s.readGpr rt) → Divisible 32 (s.readGpr rs).toInt (s.readGpr rt).toInt →
      IsSignedDivision (s.readGpr rs).toInt (s.readGpr rt).toInt l.toInt h.toInt := by
  simp only [← and_imp]
  refine putsHiLoWith_of_putDivision rfl (s.wordValues_divides_iff rs rt) fun ⟨word, word', stated⟩ => ?_
  rw [← State.toInt_gprWord word, ← State.toInt_gprWord word'] at stated ⊢
  rw [fitsDword_tdiv _ _ (by decide) stated, fitsDword_tmod _ _ (by decide) stated]
  exact isSignedDivision_tdiv_tmod _ stated.1

theorem putsHiLoWith_divu : PutsHiLoWith (.divu rs rt) s fun h l =>
    IsWord (s.readGpr rs) → IsWord (s.readGpr rt) → s.readGpr rt ≠ 0 → IsWord h ∧ IsWord l ∧
      IsUnsignedDivision (s.gprWord rs).toNat (s.gprWord rt).toNat (lowWord l).toNat (lowWord h).toNat := by
  simp only [← and_imp]
  refine putsHiLoWith_of_putDivision rfl (s.wordValues_nonzero_iff rs rt) fun ⟨_, word', nonzero⟩ => ?_
  refine ⟨isWord_signExtend _, isWord_signExtend _, ?_⟩
  unfold sextWord
  rw [lowWord_signExtend, lowWord_signExtend, BitVec.toNat_udiv, BitVec.toNat_umod]
  exact isUnsignedDivision_div_mod _ (BitVec.toNat_ne.1 (mt (State.gprWord_eq_zero_iff word').1 nonzero))

variable {s} (on : s.are64 = true)
include on

theorem putsHiLoWith_ddiv : PutsHiLoWith (.ddiv rs rt) s fun h l =>
    Divisible 64 (s.readGpr rs).toInt (s.readGpr rt).toInt →
      IsSignedDivision (s.readGpr rs).toInt (s.readGpr rt).toInt l.toInt h.toInt := by
  refine putsHiLoWith_of_putDivision (need64_on on _) (divides_iff 64 _ _) fun stated => ?_
  rw [fitsDword_tdiv _ _ (by decide) stated, fitsDword_tmod _ _ (by decide) stated]
  exact isSignedDivision_tdiv_tmod _ stated.1

theorem putsHiLoWith_ddivu : PutsHiLoWith (.ddivu rs rt) s fun h l => s.readGpr rt ≠ 0 →
    IsUnsignedDivision (s.readGpr rs).toNat (s.readGpr rt).toNat l.toNat h.toNat := by
  refine putsHiLoWith_of_putDivision (need64_on on _) bne_iff_ne fun nonzero => ?_
  rw [BitVec.toNat_udiv, BitVec.toNat_umod]
  exact isUnsignedDivision_div_mod _ (BitVec.toNat_ne.1 nonzero)

end

/-! ### GSDIV to GSDMODU (47_custom_int.md rules R584 to R592) -/

section
variable {i : Instr} {s : State} {rs rt rd : BitVec 5}

theorem putsGprWith_of_signed_words {f : Int → Int → Int} (fits : FitsDword f)
    (runs : exec i s = s.putQuotient rd
      (s.wordValues rs rt && divides 32 (s.gprWord rs).toInt (s.gprWord rt).toInt)
      (BitVec.ofInt 64 (f (s.gprWord rs).toInt (s.gprWord rt).toInt))) :
    PutsGprWith i s rd fun v => IsWord (s.readGpr rs) → IsWord (s.readGpr rt) →
      Divisible 32 (s.readGpr rs).toInt (s.readGpr rt).toInt →
        v.toInt = f (s.readGpr rs).toInt (s.readGpr rt).toInt := by
  simp only [← and_imp]
  refine putsGprWith_of_putQuotient runs (s.wordValues_divides_iff rs rt) fun ⟨word, word', stated⟩ => ?_
  rw [← State.toInt_gprWord word, ← State.toInt_gprWord word'] at stated ⊢
  exact fits _ _ (by decide) stated

theorem putsGprWith_of_signed_dwords {f : Int → Int → Int} (fits : FitsDword f)
    (runs : exec i s = need64 s (s.putQuotient rd (divides 64 (s.readGpr rs).toInt (s.readGpr rt).toInt)
      (BitVec.ofInt 64 (f (s.readGpr rs).toInt (s.readGpr rt).toInt)))) :
    (s.are64 = true → PutsGprWith i s rd fun v => Divisible 64 (s.readGpr rs).toInt (s.readGpr rt).toInt →
      v.toInt = f (s.readGpr rs).toInt (s.readGpr rt).toInt) ∧ (s.are64 = false → Takes i s .ri) :=
  ⟨fun on => putsGprWith_of_putQuotient (runs.trans (need64_on on _)) (divides_iff 64 _ _)
      (fits _ _ (Nat.le_refl 64)), fun off => runs.trans (need64_off off _)⟩

variable {f : Nat → Nat → Nat}

theorem putsGprWith_of_unsigned_words {op : Word → Word → Word} (natural : ∀ a b, (op a b).toNat = f a.toNat b.toNat)
    (runs : exec i s = s.putQuotient rd (s.wordValues rs rt && s.gprWord rt != 0)
      (sextWord (op (s.gprWord rs) (s.gprWord rt)))) :
    PutsGprWith i s rd fun v => IsWord (s.readGpr rs) → IsWord (s.readGpr rt) → s.readGpr rt ≠ 0 →
      IsWord v ∧ (lowWord v).toNat = f (s.gprWord rs).toNat (s.gprWord rt).toNat := by
  simp only [← and_imp]
  refine putsGprWith_of_putQuotient runs (s.wordValues_nonzero_iff rs rt) fun _ => ⟨isWord_signExtend _, ?_⟩
  exact (congrArg BitVec.toNat (lowWord_signExtend _)).trans (natural _ _)

theorem putsGprWith_of_unsigned_dwords {op : Dword → Dword → Dword} (natural : ∀ a b, (op a b).toNat = f a.toNat b.toNat)
    (runs : exec i s = need64 s (s.putQuotient rd (s.readGpr rt != 0) (op (s.readGpr rs) (s.readGpr rt)))) :
    (s.are64 = true → PutsGprWith i s rd fun v => s.readGpr rt ≠ 0 →
      v.toNat = f (s.readGpr rs).toNat (s.readGpr rt).toNat) ∧ (s.are64 = false → Takes i s .ri) :=
  ⟨fun on => putsGprWith_of_putQuotient (runs.trans (need64_on on _)) bne_iff_ne fun _ => natural _ _,
    fun off => runs.trans (need64_off off _)⟩

end

end Sys2Proof.Machine

namespace Sys2Proof.Claims
open Sys2Proof.Machine

/-- Settles O11: each division ends in `State.putDivision` or `State.putQuotient` with an exact result. -/
theorem divisionGivesQuotientAndRemainder : Obligations.DivisionGivesQuotientAndRemainder := by
  intro s rs rt rd
  refine ⟨putsHiLoWith_div s rs rt, putsHiLoWith_divu s rs rt,
    fun on => ⟨putsHiLoWith_ddiv rs rt on, putsHiLoWith_ddivu rs rt on⟩,
    fun off => ⟨need64_off off _, need64_off off _⟩, ?signed, ?unsigned⟩
  case signed =>
    simp only [signedDivs, List.forall_mem_cons]
    exact ⟨⟨putsGprWith_of_signed_words fitsDword_tdiv rfl, putsGprWith_of_signed_dwords fitsDword_tdiv rfl⟩,
      ⟨putsGprWith_of_signed_words fitsDword_tmod rfl, putsGprWith_of_signed_dwords fitsDword_tmod rfl⟩, nofun⟩
  case unsigned =>
    simp only [unsignedDivs, List.forall_mem_cons]
    exact ⟨⟨putsGprWith_of_unsigned_words (fun _ _ => BitVec.toNat_udiv) rfl,
        putsGprWith_of_unsigned_dwords (fun _ _ => BitVec.toNat_udiv) rfl⟩,
      ⟨putsGprWith_of_unsigned_words (fun _ _ => BitVec.toNat_umod) rfl,
        putsGprWith_of_unsigned_dwords (fun _ _ => BitVec.toNat_umod) rfl⟩, nofun⟩

end Sys2Proof.Claims
end

section
/-!
PROOFS of 43_shift.md, first part: the shifts and rotates (O7, O8).
-/
namespace Sys2Proof.Machine
open Sys2Proof.Claims

/-! ### The amounts of the variable forms (43_shift.md rule R458) -/

theorem State.shift5_eq_mod (s : State) (rs : BitVec 5) : s.shift5 rs = (s.readGpr rs).toNat % 32 :=
  BitVec.toNat_setWidth 5 _

theorem State.shift6_eq_mod (s : State) (rs : BitVec 5) : s.shift6 rs = (s.readGpr rs).toNat % 64 :=
  BitVec.toNat_setWidth 6 _

/-! ### The three forms of a doubleword shift -/

/-- By sa, by sa + 32 and by a register: each writes its result, or all three are reserved
(60_exceptions.md rule R934). -/
theorem putsGpr_of_need64_forms {bySa bySa32 byReg : Instr} {s : State} {rd : BitVec 5} {u v w : Dword}
    (sa : exec bySa s = need64 s (s.putGpr rd u)) (sa32 : exec bySa32 s = need64 s (s.putGpr rd v))
    (reg : exec byReg s = need64 s (s.putGpr rd w)) :
    (s.are64 = true → PutsGpr bySa s rd u ∧ PutsGpr bySa32 s rd v ∧ PutsGpr byReg s rd w) ∧
      (s.are64 = false → Takes bySa s .ri ∧ Takes bySa32 s .ri ∧ Takes byReg s .ri) := by
  obtain ⟨putsSa, takesSa⟩ := putsGpr_of_need64 sa
  obtain ⟨putsSa32, takesSa32⟩ := putsGpr_of_need64 sa32
  obtain ⟨putsReg, takesReg⟩ := putsGpr_of_need64 reg
  exact ⟨fun on => ⟨putsSa on, putsSa32 on, putsReg on⟩, fun off => ⟨takesSa off, takesSa32 off, takesReg off⟩⟩

end Sys2Proof.Machine

namespace Sys2Proof.Claims
open Sys2Proof.Machine

/-- Settles O7: SLL and SLLV write their value as it is, the others end in `State.putShift`. -/
theorem wordShiftsSignExtend : Obligations.WordShiftsSignExtend := by
  intro s
  simp only [wordShifts, List.forall_mem_cons, ← State.shift5_eq_mod]
  refine ⟨fun _ _ _ => putsGpr_of_putGpr rfl, fun _ _ _ => putsGpr_of_putGpr rfl, ?bySa, ?byRegister⟩
  case bySa =>
    exact ⟨fun _ _ _ => putsGpr_of_wordValue rfl, fun _ _ _ => putsGpr_of_wordValue rfl,
      fun _ _ _ => putsGpr_of_wordValue rfl, nofun⟩
  case byRegister =>
    exact ⟨fun _ _ _ => putsGpr_of_wordValue rfl, fun _ _ _ => putsGpr_of_wordValue rfl,
      fun _ _ _ => putsGpr_of_wordValue rfl, nofun⟩

/-- Settles O8: each form is a register write behind the check for 64-bit operations. -/
theorem doublewordShiftsMoveAllSixtyFourBits : Obligations.DoublewordShiftsMoveAllSixtyFourBits := by
  intro s
  simp only [dwordShifts, List.forall_mem_cons, ← State.shift6_eq_mod]
  exact ⟨fun _ _ _ => putsGpr_of_need64_forms rfl rfl rfl, fun _ _ _ => putsGpr_of_need64_forms rfl rfl rfl,
    fun _ _ _ => putsGpr_of_need64_forms rfl rfl rfl, fun _ _ _ => putsGpr_of_need64_forms rfl rfl rfl, nofun⟩

end Sys2Proof.Claims
end

section
/-!
PROOFS of 43_shift.md, second part: the bit fields (O9).
-/
namespace Sys2Proof.Machine
open Sys2Proof.Claims

/-! ### The bits of a field (43_shift.md rule R459) -/

theorem getLsbD_fieldMask {w i : Nat} (lo len : Nat) (hi : i < w) :
    (fieldMask w lo len).getLsbD i = decide (lo ≤ i ∧ i < lo + len) := by
  rw [fieldMask, BitVec.getLsbD_ofNat, Nat.testBit_mul_two_pow, Nat.testBit_two_pow_sub_one, Bool.eq_iff_iff]
  simp only [Bool.and_eq_true, decide_eq_true_iff]
  omega

theorem extractedBits_extractField (a : Dword) (pos size : Nat) :
    ExtractedBits 64 (extractField a pos size) a pos size := by
  intro i hi
  rw [extractField, BitVec.getLsbD_and, BitVec.getLsbD_ushiftRight, getLsbD_fieldMask 0 size hi,
    Nat.zero_add, Bool.and_comm]
  simp only [Nat.zero_le, true_and]

theorem insertedBits_putField (old a : Dword) {pos top : Nat} (ordered : pos ≤ top) :
    InsertedBits 64 (putField old pos (top - pos + 1) a) a old pos top := by
  intro i hi
  have field : (i < pos + (top - pos + 1)) ↔ i ≤ top := by omega
  simp only [putField, mergeBits, BitVec.getLsbD_or, BitVec.getLsbD_and, BitVec.getLsbD_not,
    BitVec.getLsbD_shiftLeft, getLsbD_fieldMask _ _ hi, field]
  by_cases inside : pos ≤ i ∧ i ≤ top
  · simp [inside, hi]
  · simp [inside, hi]

/-! ### The low bits of a sign-extended word -/

theorem isWord_sextLow (v : Dword) : IsWord (sextLow 32 v) := isWord_signExtend _

theorem getLsbD_sextLow (v : Dword) {i : Nat} (hi : i < 32) : (sextLow 32 v).getLsbD i = v.getLsbD i := by
  rw [sextLow, BitVec.getLsbD_signExtend, if_pos hi, BitVec.getLsbD_setWidth]
  simp [hi, show i < 64 by omega]

theorem extractedBits_sextLow {v a : Dword} {pos size : Nat} (bits : ExtractedBits 64 v a pos size) :
    ExtractedBits 32 (sextLow 32 v) a pos size :=
  fun i hi => (getLsbD_sextLow v hi).trans (bits i (by omega))

theorem insertedBits_sextLow {v a old : Dword} {pos top : Nat} (bits : InsertedBits 64 v a old pos top) :
    InsertedBits 32 (sextLow 32 v) a old pos top :=
  fun i hi => (getLsbD_sextLow v hi).trans (bits i (by omega))

/-! ### What a bit-field instruction writes -/

section
variable {i : Instr} {s : State} {rs rt : BitVec 5}

/-- A register write completes; its value is stated where `stated` says that the field and the operands are legal
(logs 5, 6). -/
theorem putsGprWith_of_ite {c stated : Prop} [Decidable c] {v other : Dword} {good : Dword → Prop}
    (runs : exec i s = s.putGpr rt (if c then v else other)) (legal : stated → c) (holds : stated → good v) :
    PutsGprWith i s rt fun v => stated → good v :=
  ⟨_, putsGpr_of_putGpr runs, fun h => by rw [if_pos (legal h)]; exact holds h⟩

theorem putsGprWith_ext (msb lsb : BitVec 5) : PutsGprWith (.ext rs rt msb lsb) s rt fun v =>
    lsb.toNat + msb.toNat ≤ 31 → IsWord (s.readGpr rs) →
      IsWord v ∧ ExtractedBits 32 v (s.readGpr rs) lsb.toNat (msb.toNat + 1) := by
  simp only [← and_imp]
  refine putsGprWith_of_ite rfl (fun ⟨fits, word⟩ => ?legal) fun _ =>
    ⟨isWord_sextLow _, extractedBits_sextLow (extractedBits_extractField _ _ _)⟩
  rw [Bool.and_eq_true, decide_eq_true_iff, isWordValue_iff]
  exact ⟨fits, word⟩

theorem putsGprWith_ins (msb lsb : BitVec 5) : PutsGprWith (.ins rs rt msb lsb) s rt fun v =>
    lsb.toNat ≤ msb.toNat → IsWord (s.readGpr rs) → IsWord (s.readGpr rt) →
      IsWord v ∧ InsertedBits 32 v (s.readGpr rs) (s.readGpr rt) lsb.toNat msb.toNat := by
  simp only [← and_imp]
  refine putsGprWith_of_ite rfl (fun ⟨ordered, words⟩ => ?legal) fun ⟨ordered, _⟩ =>
    ⟨isWord_sextLow _, insertedBits_sextLow (insertedBits_putField _ _ ordered)⟩
  rw [Bool.and_eq_true, decide_eq_true_iff, State.wordValues_iff]
  exact ⟨ordered, words⟩

/-- A doubleword extract completes, or is reserved. -/
theorem putsGprWith_of_need64_putExtract {lsb msbd : Nat}
    (runs : exec i s = need64 s (s.putExtract rt rs lsb msbd)) :
    (s.are64 = true → PutsGprWith i s rt fun v => lsb + (msbd + 1) ≤ 64 →
        ExtractedBits 64 v (s.readGpr rs) lsb (msbd + 1)) ∧
      (s.are64 = false → Takes i s .ri) :=
  ⟨fun on => putsGprWith_of_ite (runs.trans (need64_on on _)) Nat.le_of_succ_le_succ
      fun _ => extractedBits_extractField _ _ _,
    fun off => runs.trans (need64_off off _)⟩

/-- A doubleword insert completes, or is reserved. -/
theorem putsGprWith_of_need64_putInsert {lsb msb : Nat}
    (runs : exec i s = need64 s (s.putInsert rt rs lsb msb)) :
    (s.are64 = true → PutsGprWith i s rt fun v => lsb ≤ msb →
        InsertedBits 64 v (s.readGpr rs) (s.readGpr rt) lsb msb) ∧
      (s.are64 = false → Takes i s .ri) :=
  ⟨fun on => putsGprWith_of_ite (runs.trans (need64_on on _)) id (insertedBits_putField _ _),
    fun off => runs.trans (need64_off off _)⟩

end

end Sys2Proof.Machine

namespace Sys2Proof.Claims
open Sys2Proof.Machine

/-- Settles O9: an extract masks the shifted source, an insert merges it under the field's mask; the mask is read
bit by bit. -/
theorem bitFieldsMoveBitByBit : Obligations.BitFieldsMoveBitByBit := by
  intro s rs rt msb lsb a old
  refine ⟨putsGprWith_ext msb lsb, putsGprWith_ins msb lsb, ?extracts, ?inserts⟩
  case extracts =>
    simp only [extracts, List.forall_mem_cons]
    exact ⟨putsGprWith_of_need64_putExtract rfl, putsGprWith_of_need64_putExtract rfl,
      putsGprWith_of_need64_putExtract rfl, nofun⟩
  case inserts =>
    simp only [inserts, List.forall_mem_cons]
    exact ⟨putsGprWith_of_need64_putInsert rfl, putsGprWith_of_need64_putInsert rfl,
      putsGprWith_of_need64_putInsert rfl, nofun⟩

end Sys2Proof.Claims
end

section
/-!
PROOFS of 44_branch.md: branches, likely branches, jumps and their links, and where they stop (O13 to O16).
-/
namespace Sys2Proof.Machine
open Sys2Proof.Claims

/-! ### Targets (44_branch.md rule R461) -/

theorem simm_shiftLeft_two (imm : BitVec 16) : simm imm <<< 2 = (imm ++ 0#2 : BitVec 18).signExtend 64 := by
  apply BitVec.eq_of_getLsbD_eq
  intro i hi
  rw [simm, BitVec.getLsbD_shiftLeft, BitVec.getLsbD_signExtend, BitVec.getLsbD_signExtend,
    BitVec.getLsbD_append, BitVec.msb_append]
  by_cases scaled : i < 2
  · simp [scaled, hi, show i < 18 by omega]
  · by_cases given : i < 18
    · simp [scaled, given, hi, show i - 2 < 64 by omega, show i - 2 < 16 by omega]
    · simp [scaled, given, hi, show i - 2 < 64 by omega, show ¬ i - 2 < 16 by omega]

theorem State.branchTarget_eq (s : State) (imm : BitVec 16) : s.branchTarget imm = branchGoal s imm := by
  rw [State.branchTarget, simm_shiftLeft_two]
  rfl

theorem State.jumpTarget_eq (s : State) (idx : BitVec 26) : s.jumpTarget idx = regionGoal s idx := by
  apply BitVec.eq_of_getLsbD_eq
  intro i hi
  simp only [State.jumpTarget, regionGoal, mergeBits, BitVec.getLsbD_or, BitVec.getLsbD_and, BitVec.getLsbD_not,
    BitVec.getLsbD_shiftLeft, BitVec.getLsbD_setWidth, BitVec.getLsbD_append, BitVec.getLsbD_extractLsb',
    getLsbD_fieldMask 0 28 hi]
  by_cases scaled : i < 2
  · simp [scaled, hi, show i < 28 by omega]
  · by_cases given : i < 28
    · simp [scaled, given, hi, show i - 2 < 64 by omega, show i - 2 < 26 by omega]
    · simp [scaled, given, hi, show ¬ i - 2 < 26 by omega, show i - 2 - 26 < 36 by omega,
        show 28 + (i - 2 - 26) = i by omega]

/-! ### The conditions as tests on the register (44_branch.md rules R470 to R475) -/

theorem toInt_neg_iff_signBit (v : Dword) : v.getLsbD 63 = true ↔ v.toInt < 0 := by
  rw [show v.getLsbD 63 = v.msb from (BitVec.msb_eq_getLsbD_last v).symm, BitVec.msb_eq_toInt, decide_eq_true_iff]

theorem toInt_nonneg_iff_signBit (v : Dword) : (!v.getLsbD 63) = true ↔ 0 ≤ v.toInt := by
  rw [Bool.not_eq_true', ← Bool.not_eq_true, toInt_neg_iff_signBit, Int.not_lt]

theorem sle_zero_iff (v : Dword) : v.sle 0 = true ↔ v.toInt ≤ 0 := BitVec.sle_iff_toInt_le

theorem zero_slt_iff (v : Dword) : (0#64).slt v = true ↔ 0 < v.toInt := BitVec.slt_iff_toInt_lt

/-! ### The register that a transfer writes before it leaves -/

/-- `u` is `s` but for its general registers, and a state with these registers satisfies `regs`. -/
structure WritesRegs (s u : State) (regs : State → Prop) : Prop where
  fields : u = { s with gpr := u.gpr }
  reads : ∀ t : State, t.gpr = u.gpr → regs t

theorem readGpr_congr {t u : State} (same : t.gpr = u.gpr) (r : BitVec 5) : t.readGpr r = u.readGpr r := by
  unfold State.readGpr
  rw [same]

theorem writesRegs_none (s : State) : WritesRegs s s s.sameGprs := ⟨rfl, fun _ => readGpr_congr⟩

theorem writesRegs_writeGpr (s : State) (rd : BitVec 5) (v : Dword) :
    WritesRegs s (s.writeGpr rd v) fun t => s.gprsBut t rd v where
  fields := by unfold State.writeGpr; split <;> rfl
  reads _ same r := (readGpr_congr same r).trans (s.readGpr_writeGpr rd r v)

namespace WritesRegs
variable {i : Instr} {s u : State} {regs : State → Prop} {imm : BitVec 16} {goes : Bool} {c : Prop} {target : Dword}

theorem inDelaySlot (w : WritesRegs s u regs) : u.inDelaySlot = s.inDelaySlot := by rw [w.fields]

theorem npc (w : WritesRegs s u regs) : u.npc = s.npc := by rw [w.fields]

theorem transfers_branchTo (w : WritesRegs s u regs) (target : Dword) : s.transfers (u.branchTo target) target := by
  rw [w.fields]
  exact ⟨rfl, rfl, rfl, fun _ => rfl, rfl⟩

theorem transfers_jumpTo (w : WritesRegs s u regs) (target : Dword) : s.transfers (u.jumpTo target) target := by
  rw [w.fields]
  exact ⟨rfl, rfl, rfl, fun _ => rfl, rfl⟩

/-- The frame of a likely branch that is not taken. -/
theorem skips_skipSlot (w : WritesRegs s u regs) :
    u.skipSlot.pc = s.npc + 4 ∧ u.skipSlot.npc = s.npc + 8 ∧ u.skipSlot.inDelaySlot = false ∧
      s.sameBytes u.skipSlot ∧ State.sameButFlow { s with gpr := u.skipSlot.gpr } u.skipSlot := by
  rw [w.fields]
  exact ⟨rfl, rfl, rfl, fun _ => rfl, rfl⟩

theorem branches (w : WritesRegs s u regs) (outside : s.inDelaySlot = false) (test : goes = true ↔ c)
    (runs : exec i s = u.branchIf goes (branchGoal s imm)) : Branches i s imm c regs := by
  rw [State.branchIf, notInSlot_out (w.inDelaySlot.trans outside)] at runs
  refine ⟨_, runs, w.reads _ rfl, fun taken => ?_, fun untaken => ?_⟩
  · rw [if_pos (test.2 taken)]
    exact w.transfers_branchTo _
  · rw [if_neg (untaken ∘ test.1), w.npc]
    exact w.transfers_branchTo _

theorem branchesLikely (w : WritesRegs s u regs) (outside : s.inDelaySlot = false) (test : goes = true ↔ c)
    (runs : exec i s = u.branchLikelyIf goes (branchGoal s imm)) : BranchesLikely i s imm c regs := by
  rw [State.branchLikelyIf, notInSlot_out (w.inDelaySlot.trans outside)] at runs
  by_cases taken : c
  · rw [if_pos (test.2 taken)] at runs
    exact ⟨_, runs, w.reads _ rfl, fun _ => w.transfers_branchTo _, fun untaken => absurd taken untaken⟩
  · rw [if_neg (taken ∘ test.1)] at runs
    exact ⟨_, runs, w.reads _ rfl, fun h => absurd h taken, fun _ => w.skips_skipSlot⟩

theorem jumps (w : WritesRegs s u regs) (outside : s.inDelaySlot = false)
    (runs : exec i s = notInSlot u (.next (u.jumpTo target))) : Jumps i s target regs :=
  ⟨_, runs.trans (notInSlot_out (w.inDelaySlot.trans outside) _), w.transfers_jumpTo _, w.reads _ rfl⟩

/-- No transfer leaves a delay slot (44_branch.md rule R486). -/
theorem stops (w : WritesRegs s u regs) (slot : s.inDelaySlot = true) (k : Out) :
    notInSlot u k = .fault .controlInDelaySlot := notInSlot_in (w.inDelaySlot.trans slot) k

end WritesRegs

/-! ### A branch and its likely form make the same test (44_branch.md rules R468 to R483) -/

/-- From `s`, after the writes that give `u`, both forms test `c` and aim at the branch's target. -/
def BranchPair (i likely : Instr) (s u : State) (imm : BitVec 16) (c : Prop) : Prop :=
  ∃ goes : Bool, (goes = true ↔ c) ∧ exec i s = u.branchIf goes (branchGoal s imm) ∧
    exec likely s = u.branchLikelyIf goes (branchGoal s imm)

section
variable {i likely : Instr} {s u : State} {imm : BitVec 16} {c : Prop} {regs : State → Prop}

theorem branchPair_of_test {goes : Bool} (test : goes = true ↔ c)
    (runs : exec i s = u.branchIf goes (s.branchTarget imm))
    (runsLikely : exec likely s = u.branchLikelyIf goes (s.branchTarget imm)) : BranchPair i likely s u imm c := by
  rw [State.branchTarget_eq] at runs runsLikely
  exact ⟨goes, test, runs, runsLikely⟩

theorem BranchPair.branches (pair : BranchPair i likely s u imm c) (w : WritesRegs s u regs)
    (outside : s.inDelaySlot = false) : Branches i s imm c regs :=
  have ⟨_, test, runs, _⟩ := pair
  w.branches outside test runs

theorem BranchPair.branchesLikely (pair : BranchPair i likely s u imm c) (w : WritesRegs s u regs)
    (outside : s.inDelaySlot = false) : BranchesLikely likely s imm c regs :=
  have ⟨_, test, _, runs⟩ := pair
  w.branchesLikely outside test runs

theorem BranchPair.stops (pair : BranchPair i likely s u imm c) (w : WritesRegs s u regs)
    (slot : s.inDelaySlot = true) :
    exec i s = .fault .controlInDelaySlot ∧ exec likely s = .fault .controlInDelaySlot :=
  have ⟨_, _, runs, runsLikely⟩ := pair
  ⟨runs.trans (w.stops slot _), runsLikely.trans (w.stops slot _)⟩

end

theorem branchPair_branches2 : ∀ p ∈ branches2, ∀ (s : State) (rs rt : BitVec 5) (imm : BitVec 16),
    BranchPair (p.1 rs rt imm) (p.2.1 rs rt imm) s s imm (p.2.2 (s.readGpr rs) (s.readGpr rt)) := by
  simp only [branches2, List.forall_mem_cons]
  exact ⟨fun _ _ _ _ => branchPair_of_test beq_iff_eq rfl rfl, fun _ _ _ _ => branchPair_of_test bne_iff_ne rfl rfl,
    nofun⟩

theorem branchPair_branches1 : ∀ p ∈ branches1, ∀ (s : State) (rs : BitVec 5) (imm : BitVec 16),
    BranchPair (p.1 rs imm) (p.2.1 rs imm) s s imm (p.2.2 (s.readGpr rs)) := by
  simp only [branches1, List.forall_mem_cons]
  exact ⟨fun _ _ _ => branchPair_of_test (sle_zero_iff _) rfl rfl,
    fun _ _ _ => branchPair_of_test (zero_slt_iff _) rfl rfl,
    fun _ _ _ => branchPair_of_test (toInt_neg_iff_signBit _) rfl rfl,
    fun _ _ _ => branchPair_of_test (toInt_nonneg_iff_signBit _) rfl rfl, nofun⟩

theorem notLinkRegister_other {rs : BitVec 5} (other : rs ≠ 31) (k : Out) : notLinkRegister rs k = k := if_neg other

theorem branchPair_linkBranches : ∀ p ∈ linkBranches, ∀ (s : State) (rs : BitVec 5) (imm : BitVec 16), rs ≠ 31 →
    BranchPair (p.1 rs imm) (p.2.1 rs imm) s (s.writeGpr 31 (s.pc + 8)) imm (p.2.2 (s.readGpr rs)) := by
  simp only [linkBranches, List.forall_mem_cons]
  exact ⟨fun _ _ _ other => branchPair_of_test (toInt_neg_iff_signBit _) (notLinkRegister_other other _)
      (notLinkRegister_other other _),
    fun _ _ _ other => branchPair_of_test (toInt_nonneg_iff_signBit _) (notLinkRegister_other other _)
      (notLinkRegister_other other _), nofun⟩

/-! ### Jumps (44_branch.md rules R462 to R467) -/

theorem State.jumpAndLinkRegister_other {rs rd : BitVec 5} (other : rd ≠ rs) (s : State) :
    s.jumpAndLinkRegister rs rd = notInSlot (s.writeGpr rd (s.pc + 8))
      (.next ((s.writeGpr rd (s.pc + 8)).jumpTo (s.readGpr rs))) := by
  rw [State.jumpAndLinkRegister, if_neg other, State.linkAddress]
  simp only [notInSlot, State.writeGpr_inDelaySlot]

theorem exec_j (s : State) (idx : BitVec 26) :
    exec (.j idx) s = notInSlot s (.next (s.jumpTo (regionGoal s idx))) := by
  rw [← State.jumpTarget_eq]
  rfl

theorem exec_jal (s : State) (idx : BitVec 26) : exec (.jal idx) s = notInSlot (s.writeGpr 31 (s.pc + 8))
    (.next ((s.writeGpr 31 (s.pc + 8)).jumpTo (regionGoal s idx))) := by
  rw [← State.jumpTarget_eq]
  rfl

/-! ### ERET and WAIT (45_cp0_priv.md rules R509, R519) -/

theorem exec_eret (s : State) : exec .eret s = needCop 0 s (notInSlot s (.next s.returnFromException)) := rfl

theorem exec_wait (s : State) (code : BitVec 19) :
    exec (.wait code) s = needCop 0 s (notInSlot s (.next s.advance)) := rfl

end Sys2Proof.Machine

namespace Sys2Proof.Claims
open Sys2Proof.Machine

/-- Settles O13: every branch tests its condition and goes on with the target or the instruction after the slot; the
link is written before. -/
theorem branchesGoThroughTheDelaySlot : Obligations.BranchesGoThroughTheDelaySlot := fun s outside =>
  ⟨fun p row rs rt imm => (branchPair_branches2 p row s rs rt imm).branches (writesRegs_none s) outside,
    fun p row rs imm => (branchPair_branches1 p row s rs imm).branches (writesRegs_none s) outside,
    fun p row rs imm other =>
      (branchPair_linkBranches p row s rs imm other).branches (writesRegs_writeGpr s 31 _) outside⟩

/-- Settles O14: a likely form makes the test of its branch, and skips the slot where that goes through it. -/
theorem likelyBranchesNullifyTheSlotWhenNotTaken : Obligations.LikelyBranchesNullifyTheSlotWhenNotTaken :=
  fun s outside =>
  ⟨fun p row rs rt imm => (branchPair_branches2 p row s rs rt imm).branchesLikely (writesRegs_none s) outside,
    fun p row rs imm => (branchPair_branches1 p row s rs imm).branchesLikely (writesRegs_none s) outside,
    fun p row rs imm other =>
      (branchPair_linkBranches p row s rs imm other).branchesLikely (writesRegs_writeGpr s 31 _) outside⟩

/-- Settles O15: every jump is `State.jumpTo` from the state with the link; the register forms read `s` itself. -/
theorem jumpsAndTheirLinks : Obligations.JumpsAndTheirLinks := by
  intro s outside
  refine ⟨fun idx => ⟨?_, ?_⟩, fun rs => ⟨?_, ?_⟩, fun rs rd other => ⟨?_, ?_⟩⟩
  · exact (writesRegs_none s).jumps outside (exec_j s idx)
  · exact (writesRegs_writeGpr s 31 _).jumps outside (exec_jal s idx)
  · exact (writesRegs_none s).jumps outside rfl
  · exact (writesRegs_none s).jumps outside rfl
  · exact (writesRegs_writeGpr s rd _).jumps outside (State.jumpAndLinkRegister_other other s)
  · exact (writesRegs_writeGpr s rd _).jumps outside (State.jumpAndLinkRegister_other other s)

theorem slotTransfers_stop {s : State} (slot : s.inDelaySlot = true) (rs rt : BitVec 5) (imm : BitVec 16)
    (idx : BitVec 26) : ∀ i ∈ slotTransfers rs rt imm idx, exec i s = .fault .controlInDelaySlot := by
  have two p (row : p ∈ branches2) := (branchPair_branches2 p row s rs rt imm).stops (writesRegs_none s) slot
  have one p (row : p ∈ branches1) := (branchPair_branches1 p row s rs imm).stops (writesRegs_none s) slot
  simp only [slotTransfers, List.forall_mem_append, List.forall_mem_map, List.forall_mem_cons]
  refine ⟨⟨⟨⟨⟨?_, ?_, ?_, ?_, nofun⟩, fun p row => (two p row).1⟩, fun p row => (two p row).2⟩,
    fun p row => (one p row).1⟩, fun p row => (one p row).2⟩
  all_goals exact notInSlot_in slot _

/-- Settles O16: the check for the delay slot opens every transfer, behind the checks of ERET, WAIT, JALR and the
and-link forms, which decide first. -/
theorem unpredictableControlFlowStops : Obligations.UnpredictableControlFlowStops := by
  intro s rs rt rd imm idx code
  refine ⟨fun slot => ⟨slotTransfers_stop slot rs rt imm idx, fun usable => ?cp0, fun other => ?jalr, fun other p row =>
    (branchPair_linkBranches p row s rs imm other).stops (writesRegs_writeGpr s 31 _) slot⟩,
    if_pos rfl, if_pos rfl, ?linkRegister⟩
  case cp0 =>
    rw [exec_eret, exec_wait, needCop_on usable, needCop_on usable]
    exact ⟨notInSlot_in slot _, notInSlot_in slot _⟩
  case jalr =>
    have stops := (State.jumpAndLinkRegister_other other s).trans ((writesRegs_writeGpr s rd _).stops slot _)
    exact ⟨stops, stops⟩
  case linkRegister =>
    simp only [linkBranches, List.forall_mem_cons]
    exact ⟨⟨rfl, rfl⟩, ⟨rfl, rfl⟩, nofun⟩

end Sys2Proof.Claims
end

section
/-!
PROOFS of 45_cp0_priv.md, first part: without coprocessor 0 an instruction changes the CP0 registers by an exception
only (O60). `State.SameSystem` goes through every update such an instruction makes, and every end of an instruction
leaves the outcome the statement asks for.
-/
namespace Sys2Proof.Machine

/-! ### The state that coprocessor 0 guards (45_cp0_priv.md rule R500) -/

/-- `u` has the CP0 registers and the TLB of `s`. -/
structure State.SameSystem (s u : State) : Prop where
  cp0 : u.cp0 = s.cp0
  tlb : u.tlb = s.tlb

theorem State.SameSystem.refl (s : State) : s.SameSystem s := ⟨rfl, rfl⟩

/-- Where the outcome goes on, it has the TLB of `s`, and the CP0 registers of `s` but LLAddr or those that exception
entry makes of them. -/
def KeepsSystem (s : State) (o : Out) : Prop :=
  ∀ t, o = .next t → t.tlb = s.tlb ∧ (t.cp0 = { s.cp0 with llAddr := t.cp0.llAddr } ∨
    ∃ (u : State) (e : Exc), t = u.takeException e ∧ u.cp0 = s.cp0 ∧ u.tlb = s.tlb)

theorem keepsSystem_fault {s : State} (f : Fault) : KeepsSystem s (.fault f) := by
  rintro _ ⟨⟩

theorem keepsSystem_refused {s : State} (r : Refusal) : KeepsSystem s (.refused r) := by
  rintro _ ⟨⟩

theorem KeepsSystem.notInSlot {s u : State} {k : Out} (hk : KeepsSystem s k) : KeepsSystem s (notInSlot u k) :=
  fun t next => hk t (notInSlot_cases next).2

theorem KeepsSystem.needEven {s u : State} {regs : List (BitVec 5)} {k : Out} (hk : KeepsSystem s k) :
    KeepsSystem s (needEven u regs k) := fun t next => hk t (needEven_cases next).2

/-- An instruction that ends one way where `c` holds, and the other way elsewhere. -/
theorem keepsSystem_ite {s : State} {c : Prop} [Decidable c] {k l : Out} (hk : KeepsSystem s k)
    (hl : KeepsSystem s l) : KeepsSystem s (if c then k else l) := by
  split
  · exact hk
  · exact hl

/-- An update that is made where `c` holds, and another elsewhere. -/
theorem State.sameSystem_ite {s u v : State} {c : Prop} [Decidable c] (hu : s.SameSystem u) (hv : s.SameSystem v) :
    s.SameSystem (if c then u else v) := by
  split
  · exact hu
  · exact hv

namespace State.SameSystem
variable {s u : State} (h : s.SameSystem u)
include h

/-! ### Updates of the state -/

/-- An update that touches neither the CP0 registers nor the TLB. -/
theorem of_fields {v : State} (cp0 : v.cp0 = u.cp0) (tlb : v.tlb = u.tlb) : s.SameSystem v :=
  ⟨cp0.trans h.cp0, tlb.trans h.tlb⟩

theorem writeGpr (i : BitVec 5) (v : Dword) : s.SameSystem (u.writeGpr i v) := h.of_fields (by simp) (by simp)

theorem writeFpr (i : BitVec 5) (v : Dword) : s.SameSystem (u.writeFpr i v) := h.of_fields rfl rfl

theorem writeSingle (i : BitVec 5) (v : Word) : s.SameSystem (u.writeSingle i v) := h.writeFpr i _

theorem writeDouble (i : BitVec 5) (v : Nat) : s.SameSystem (u.writeDouble i v) := h.writeFpr i _

theorem writeHiLo (hi lo : Dword) : s.SameSystem (u.writeHiLo hi lo) := h.of_fields rfl rfl

theorem setFcsr (f : Word) : s.SameSystem (u.setFcsr f) := h.of_fields rfl rfl

theorem writeF32 (n : BitVec 5) (v : Word) : s.SameSystem (u.writeF32 n v) :=
  State.sameSystem_ite (h.writeSingle _ _) (State.sameSystem_ite (h.writeFpr _ _) (h.writeFpr _ _))

theorem landStore (c : BitVec 3) (b : BufferedStore) : s.SameSystem (u.landStore c b) :=
  h.of_fields (by simp) (by simp)

theorem synchronise : s.SameSystem u.synchronise := h.of_fields (by simp) (by simp)

theorem pairCodes (cc : BitVec 3) (lower upper : Bool) : s.SameSystem (u.pairCodes cc lower upper) :=
  State.sameSystem_ite (h.setFcsr _) (h.setFcsr _)

/-! ### Ends of an instruction (00_scope.md rule R14) -/

/-- The instruction goes on, in a state with these CP0 registers and this TLB. -/
theorem goesOn {t : State} (cp0 : t.cp0 = u.cp0) (tlb : t.tlb = u.tlb) : KeepsSystem s (.next t) := by
  rintro _ ⟨⟩
  have same := h.of_fields cp0 tlb
  exact ⟨same.tlb, .inl (by rw [same.cp0])⟩

theorem advance : KeepsSystem s (.next u.advance) := h.goesOn rfl rfl

theorem raise (e : Exc) : KeepsSystem s (raise e u) := by
  rintro _ ⟨⟩
  exact ⟨h.tlb, .inr ⟨u, e, rfl, h.cp0, h.tlb⟩⟩

theorem putGpr (i : BitVec 5) (v : Dword) : KeepsSystem s (u.putGpr i v) := (h.writeGpr i v).advance

/-- LL writes LLAddr beside its register (20_memory.md rule R241). -/
theorem linkPutGpr (pa : PhysAddr) (n : Nat) (rt : BitVec 5) (v : Dword) :
    KeepsSystem s ((u.link pa n).putGpr rt v) := by
  rintro _ ⟨⟩
  refine ⟨?_, .inl ?_⟩
  · simpa using h.tlb
  · simp [State.link, h.cp0]

theorem finish {α : Type} {r : Res α} {k : α → Out} {p : α → Prop} (hr : r.Gives p)
    (hk : ∀ a, p a → KeepsSystem s (k a)) : KeepsSystem s (r.finish u k) := by
  intro t next
  rcases Res.finish_cases next with ⟨a, ok, ends⟩ | ⟨e, -, rfl⟩
  · exact hk a (hr a ok) t ends
  · exact h.raise e _ rfl

theorem finishLoad {α : Type} {rt : BitVec 5} {r : Res α} {k : α → Out} {p : α → Prop} (hr : r.Gives p)
    (hk : ∀ a, p a → KeepsSystem s (k a)) : KeepsSystem s (finishLoad rt r u k) := by
  intro t next
  rcases finishLoad_cases next with ⟨a, ok, ends⟩ | ⟨e, -, rfl⟩ | ⟨-, rfl⟩
  · exact hk a (hr a ok) t ends
  · exact h.raise e _ rfl
  · exact h.advance _ rfl

/-! ### Checks that open an instruction -/

theorem need64 {k : Out} (hk : KeepsSystem s k) : KeepsSystem s (need64 u k) := by
  intro t next
  rcases need64_cases next with ⟨-, runs⟩ | ⟨-, rfl⟩
  · exact hk t runs
  · exact h.raise .ri _ rfl

theorem needCop {n : BitVec 2} {k : Out} (hk : KeepsSystem s k) : KeepsSystem s (needCop n u k) := by
  intro t next
  rcases needCop_cases next with ⟨-, runs⟩ | ⟨-, rfl⟩
  · exact hk t runs
  · exact h.raise (.cpU n) _ rfl

/-- Without its unit an instruction raises, whatever it would do (60_exceptions.md rule R947). -/
theorem needCopOff {n : BitVec 2} (unusable : u.copUsable n = false) (k : Out) :
    KeepsSystem s (Machine.needCop n u k) := by
  rw [needCop_off unusable]
  exact h.raise (.cpU n)

/-- The gate of a floating-point instruction in format S, W or D (49_fpu.md rules R800, R803). -/
theorem fpGate {regs : List (BitVec 5)} {k : Out} (hk : KeepsSystem s k) : KeepsSystem s (fpGate u regs k) :=
  h.needCop hk.needEven

/-- The gate in format L or PS. -/
theorem fpGate64 {k : Out} (hk : KeepsSystem s k) : KeepsSystem s (fpGate64 u k) :=
  h.needCop (keepsSystem_ite hk (keepsSystem_fault _))

theorem gate21 {k : Out} (hk : KeepsSystem s k) : KeepsSystem s (gate21 u k) := h.needCop (h.needCop hk)

/-- The gate of the multimedia instructions (48_custom_mmi.md rule R700). -/
theorem mmiGate {regs : List (BitVec 5)} {k : Out} (hk : KeepsSystem s k) : KeepsSystem s (mmiGate u regs k) :=
  h.needCop (keepsSystem_ite (h.raise _) hk.needEven)

/-! ### Control (44_branch.md) -/

theorem branchIf (c : Bool) (target : Dword) : KeepsSystem s (u.branchIf c target) :=
  (h.goesOn rfl rfl : KeepsSystem s (.next (u.branchTo _))).notInSlot

theorem branchLikelyIf (c : Bool) (target : Dword) : KeepsSystem s (u.branchLikelyIf c target) := by
  have ends : s.SameSystem (if c then u.branchTo target else u.skipSlot) :=
    State.sameSystem_ite (h.of_fields rfl rfl) (h.of_fields rfl rfl)
  exact (ends.goesOn rfl rfl).notInSlot

theorem jumpTo (target : Dword) : KeepsSystem s (.next (u.jumpTo target)) := h.goesOn rfl rfl

/-! ### Loads and stores (40_loadstore.md, 47_custom_int.md) -/

/-- An access that reaches its address goes on in a state that remembers a page colour (20_memory.md rule R221). -/
theorem reach (va : Dword) (kind : AccessKind) : (u.reach va kind).Gives fun p => s.SameSystem p.2 := by
  rintro ⟨g, w⟩ reached
  rw [State.reach_fields reached]
  exact h.of_fields rfl rfl

theorem loadAt (g : Target) (n : Nat) : (u.loadAt g n).Gives fun p => s.SameSystem p.2 :=
  Res.gives_bind fun _ => Res.gives_ok h

theorem memWrite (g : Target) (n : Nat) (v : Dword) : (u.memWrite g n v).Gives s.SameSystem :=
  Res.gives_bind fun _ => Res.gives_ok (h.landStore _ _)

theorem loadVirt (va : Dword) (n : Nat) : (u.loadVirt va n).Gives fun p => s.SameSystem p.2 :=
  Res.gives_bind fun _ => (h.reach va .load).bind fun _ reached => reached.loadAt _ _

theorem loadAround (va : Dword) (n : Nat) : (u.loadAround va n).Gives fun p => s.SameSystem p.2 :=
  (h.reach va .load).bind fun _ reached => reached.loadAt _ _

theorem storeVirt (va : Dword) (n : Nat) (v : Dword) : (u.storeVirt va n v).Gives s.SameSystem :=
  Res.gives_bind fun _ => (h.reach va .store).bind fun _ reached => reached.memWrite _ _ _

theorem storeLeft (va : Dword) (n : Nat) (v : Dword) : (u.storeLeft va n v).Gives s.SameSystem :=
  (h.reach va .store).bind fun _ reached => reached.memWrite _ _ _

theorem storeRight (va : Dword) (n : Nat) (v : Dword) : (u.storeRight va n v).Gives s.SameSystem :=
  (h.reach va .store).bind fun _ reached => reached.memWrite _ _ _

theorem boundLoad (va : Dword) (n : Nat) (ok : Bool) : (u.boundLoad va n ok).Gives fun p => s.SameSystem p.2 :=
  Res.gives_bind fun _ => h.loadVirt va n

theorem boundStore (va : Dword) (n : Nat) (ok : Bool) (v : Dword) : (u.boundStore va n ok v).Gives s.SameSystem :=
  Res.gives_bind fun _ => h.storeVirt va n v

theorem loadQuad (va : Dword) : (u.loadQuad va).Gives fun p => s.SameSystem p.2 :=
  Res.gives_bind fun _ => (h.loadVirt va 8).bind fun _ first =>
    (first.loadVirt (va + 8) 8).bind fun _ second => Res.gives_ok second

theorem storeQuad (va : Dword) (lo hi : Dword) : (u.storeQuad va lo hi).Gives s.SameSystem :=
  Res.gives_bind fun _ => (h.reach va .store).bind fun _ first => (first.reach (va + 8) .store).bind fun _ second =>
    Res.gives_bind fun _ => Res.gives_bind fun _ => (second.memWrite _ 8 lo).bind fun _ half => half.memWrite _ 8 hi

/-- A load to a general register, however its value is made. -/
theorem finishLoadGpr {rt : BitVec 5} {r : Res (Dword × State)} (hr : r.Gives fun p => s.SameSystem p.2)
    (value : Dword → Dword) : KeepsSystem s (Machine.finishLoad rt r u fun p => p.2.putGpr rt (value p.1)) :=
  h.finishLoad hr fun _ reached => reached.putGpr _ _

theorem storeDone {r : Res State} (hr : r.Gives s.SameSystem) : KeepsSystem s (u.storeDone r) :=
  h.finish hr fun _ stored => stored.advance

theorem loadTo (rt : BitVec 5) (va : Dword) (n : Nat) (ext : Dword → Dword) : KeepsSystem s (u.loadTo rt va n ext) :=
  h.finishLoadGpr (h.loadVirt va n) ext

theorem storeFrom (va : Dword) (n : Nat) (v : Dword) : KeepsSystem s (u.storeFrom va n v) :=
  h.storeDone (h.storeVirt va n v)

/-- LL and LLD: the access, then the link with LLAddr (20_memory.md rule R241). -/
theorem loadLinked (rt : BitVec 5) (va : Dword) (n : Nat) (ext : Dword → Dword) :
    KeepsSystem s (u.loadLinked rt va n ext) := by
  refine h.finishLoad (p := fun p => ∃ w pa, s.SameSystem w ∧ p.2 = w.link pa n) ?_ ?_
  · exact Res.gives_bind fun _ => (h.reach va .load).bind fun _ reached =>
      (reached.loadAt _ n).bind fun _ loaded => Res.gives_ok ⟨_, _, loaded, rfl⟩
  · rintro ⟨v, _⟩ ⟨w, pa, loaded, rfl⟩
    exact loaded.linkPutGpr pa n rt (ext v)

theorem storeConditional (rt : BitVec 5) (va : Dword) (n : Nat) : KeepsSystem s (u.storeConditional rt va n) := by
  refine h.finish (p := s.SameSystem) ?_ fun t stored => ?_
  · refine Res.gives_bind fun _ => (h.reach va .store).bind fun _ reached =>
      Res.gives_bind fun _ => Res.gives_bind fun _ => ?_
    split
    · exact reached.memWrite _ _ _
    · exact Res.gives_ok reached
  · have unlinked : s.SameSystem (t.setLLbit false) := stored.of_fields rfl rfl
    exact unlinked.putGpr _ _

/-! ### Floating point and multimedia (48_custom_mmi.md, 49_fpu.md, 49_fpu_move_mem.md) -/

/-- The exception procedure (49_fpu.md rule R805). -/
theorem fpFinish (c : Conds) {write : State → State} (writes : ∀ t : State, s.SameSystem t → s.SameSystem (write t)) :
    KeepsSystem s (u.fpFinish c write) :=
  keepsSystem_ite ((h.setFcsr _).raise .fpe) (writes _ (h.setFcsr _)).advance

theorem movSingle (c : Bool) (fs fd : BitVec 5) : KeepsSystem s (u.movSingle c fs fd) :=
  h.fpGate (State.sameSystem_ite (h.writeF32 _ _) h).advance

theorem movDouble (c : Bool) (fs fd : BitVec 5) : KeepsSystem s (u.movDouble c fs fd) :=
  h.fpGate (State.sameSystem_ite (h.writeFpr _ _) h).advance

theorem execCfc1 (rt fs : BitVec 5) : KeepsSystem s (execCfc1 rt fs u) := by
  refine h.needCop ?_
  split
  · exact h.putGpr _ _
  · exact keepsSystem_refused _

/-- CTC1 writes FCSR before it raises (49_fpu_move_mem.md rule R906). -/
theorem execCtc1 (rt fs : BitVec 5) : KeepsSystem s (execCtc1 rt fs u) :=
  h.needCop (h.finish (p := fun _ => True) (fun _ _ => trivial) fun f _ =>
    keepsSystem_ite ((h.setFcsr f).raise .fpe) (h.setFcsr f).advance)

theorem loadF32 (n : BitVec 5) {r : Res (Dword × State)} (hr : r.Gives fun p => s.SameSystem p.2) :
    KeepsSystem s (u.loadF32 n r) := h.finish hr fun _ reached => (reached.writeF32 _ _).advance

theorem loadF64 (n : BitVec 5) {r : Res (Dword × State)} (hr : r.Gives fun p => s.SameSystem p.2) :
    KeepsSystem s (u.loadF64 n r) := (h.finish hr fun _ reached => (reached.writeFpr _ _).advance).needEven

theorem leftLoad (va : Dword) (n : Nat) (old : Dword) : (u.leftLoad va n old).Gives fun p => s.SameSystem p.2 :=
  (h.loadAround va n).bind fun _ reached => Res.gives_ok reached

theorem rightLoad (va : Dword) (n : Nat) (old : Dword) : (u.rightLoad va n old).Gives fun p => s.SameSystem p.2 :=
  (h.loadAround va n).bind fun _ reached => Res.gives_ok reached

end State.SameSystem

/-- Every instruction that runs without coprocessor 0 keeps what coprocessor 0 guards. Those of 45_cp0_priv.md but
RDHWR raise Coprocessor Unusable; the others stand by the way they end. -/
theorem State.SameSystem.exec {s u : State} (h : s.SameSystem u) (unusable : u.copUsable 0 = false) (i : Instr) :
    KeepsSystem s (exec i u) := by
  cases i with
  -- 45_cp0_priv.md
  | mfc0 | dmfc0 | mtc0 | dmtc0 | rdpgpr | wrpgpr | tlbp | tlbr | tlbwi | tlbwr | eret | wait | deret | di | ei |
    cache =>
    exact h.needCopOff unusable _
  | rdhwr => exact keepsSystem_ite (h.raise .ri) (keepsSystem_ite (h.putGpr _ _) (h.raise .ri))
  -- 41_alu.md, 43_shift.md, 42_muldiv.md, 47_custom_int.md: one general register, or HI and LO
  | addiu | slti | sltiu | andi | ori | xori | lui | addu | subu | slt | sltu | and | or | xor | nor | clo | clz |
    wsbh | seb | seh | sll | srl | sra | sllv | srlv | srav | rotr | rotrv | ext | ins | mfhi | mflo | gsmult |
    gsmultu | gsdiv | gsdivu | gsmod | gsmodu | x86mfflag | mftop =>
    exact h.putGpr _ _
  | daddiu | daddu | dsubu | dclo | dclz | dshd | dsbh | dsll | dsrl | dsra | dsllv | dsrlv | dsrav | dsll32 |
    dsrl32 | dsra32 | drotr | drotr32 | drotrv | dextm | dextu | dext | dinsm | dinsu | dins | gsdmult | gsdmultu |
    gsddiv | gsddivu | gsdmod | gsdmodu =>
    exact h.need64 (h.putGpr _ _)
  | addi | add | sub => exact keepsSystem_ite (h.raise .ov) (h.putGpr _ _)
  | daddi | dadd | dsub => exact h.need64 (keepsSystem_ite (h.raise .ov) (h.putGpr _ _))
  | mult | multu | madd | maddu | msub | msubu | div | divu =>
    exact (State.sameSystem_ite (h.writeHiLo _ _) (h.writeHiLo _ _)).advance
  | ddiv | ddivu => exact h.need64 (State.sameSystem_ite (h.writeHiLo _ _) (h.writeHiLo _ _)).advance
  | dmult | dmultu => exact h.need64 (h.writeHiLo _ _).advance
  | mul => exact ((h.writeGpr _ _).writeHiLo _ _).advance
  | mthi | mtlo => exact (h.writeHiLo _ _).advance
  -- 44_branch.md
  | j | jr | jrHb => exact (h.jumpTo _).notInSlot
  | jal => exact ((h.writeGpr _ _).jumpTo _).notInSlot
  | jalr | jalrHb => exact keepsSystem_ite (keepsSystem_fault _) ((h.writeGpr _ _).jumpTo _).notInSlot
  | beq | bne | blez | bgtz | bltz | bgez => exact h.branchIf _ _
  | beql | bnel | blezl | bgtzl | bltzl | bgezl => exact h.branchLikelyIf _ _
  | bltzal | bgezal => exact keepsSystem_ite (keepsSystem_fault _) ((h.writeGpr _ _).branchIf _ _)
  | bltzall | bgezall => exact keepsSystem_ite (keepsSystem_fault _) ((h.writeGpr _ _).branchLikelyIf _ _)
  -- 46_misc_trap_cmov.md
  | nop | ssnop | ehb | pref => exact h.advance
  | prefx => exact keepsSystem_ite h.advance (h.raise _)
  | syscall | brk => exact h.raise _
  | sync =>
    exact keepsSystem_ite (keepsSystem_ite h.synchronise.advance (h.raise _)) (keepsSystem_ite (h.raise _) (h.raise _))
  | synci =>
    exact keepsSystem_ite (h.finish (p := fun _ => True) (fun _ _ => trivial) fun _ _ => h.advance) h.advance
  | tge | tgeu | tlt | tltu | teq | tne | tgei | tgeiu | tlti | tltiu | teqi | tnei =>
    exact keepsSystem_ite (h.raise _) h.advance
  | movn | movz => exact (State.sameSystem_ite (h.writeGpr _ _) h).advance
  | movf | movt => exact h.needCop (State.sameSystem_ite (h.writeGpr _ _) h).advance
  -- 40_loadstore.md, 47_custom_int.md: loads and stores
  | lb | lbu | lh | lhu | lw => exact h.loadTo _ _ _ _
  | lwu | ld => exact h.need64 (h.loadTo _ _ _ _)
  | lwl => exact h.finishLoadGpr (h.loadAround _ _) fun w => sextLow 32 (mergeLeft _ _ w _)
  | lwr => exact h.finishLoadGpr (h.loadAround _ _) fun w => u.lwrValue _ _ (mergeRight _ _ w _)
  | ldl => exact h.need64 (h.finishLoadGpr (h.loadAround _ _) fun w => mergeLeft _ _ w _)
  | ldr => exact h.need64 (h.finishLoadGpr (h.loadAround _ _) fun w => mergeRight _ _ w _)
  | ll => exact h.loadLinked _ _ _ _
  | lld => exact h.need64 (h.loadLinked _ _ _ _)
  | sb | sh | sw => exact h.storeFrom _ _ _
  | sd => exact h.need64 (h.storeFrom _ _ _)
  | swl => exact h.storeDone (h.storeLeft _ _ _)
  | swr => exact h.storeDone (h.storeRight _ _ _)
  | sdl => exact h.need64 (h.storeDone (h.storeLeft _ _ _))
  | sdr => exact h.need64 (h.storeDone (h.storeRight _ _ _))
  | sc => exact h.storeConditional _ _ _
  | scd => exact h.need64 (h.storeConditional _ _ _)
  | gsle => exact h.needCop (keepsSystem_ite (h.raise _) h.advance)
  | gsgt => exact h.needCop (keepsSystem_ite h.advance (h.raise _))
  | gslble | gslbgt | gslhle | gslhgt | gslwle | gslwgt =>
    exact h.needCop (h.finishLoadGpr (h.boundLoad _ _ _) _)
  | gsldle | gsldgt => exact h.needCop (h.need64 (h.finishLoadGpr (h.boundLoad _ _ _) _))
  | gssble | gssbgt | gsshle | gsshgt | gsswle | gsswgt => exact h.needCop (h.storeDone (h.boundStore _ _ _ _))
  | gssdle | gssdgt => exact h.needCop (h.need64 (h.storeDone (h.boundStore _ _ _ _)))
  | gslbx | gslhx | gslwx => exact h.needCop (h.loadTo _ _ _ _)
  | gsldx => exact h.needCop (h.need64 (h.loadTo _ _ _ _))
  | gssbx | gsshx | gsswx => exact h.needCop (h.storeFrom _ _ _)
  | gssdx => exact h.needCop (h.need64 (h.storeFrom _ _ _))
  | gslq =>
    exact h.needCop (h.need64 (h.finishLoad (h.loadQuad _) fun p reached =>
      keepsSystem_ite (reached.putGpr _ _) ((reached.writeGpr _ _).putGpr _ _)))
  | gssq => exact h.needCop (h.need64 (h.storeDone (h.storeQuad _ _ _)))
  -- 47_custom_int.md rules R640 to R690, and what the spec gives no meaning
  | x86and | x86or | x86xor | x86dadd | x86add | x86daddu | x86addu | x86dsub | x86sub | x86dsubu | x86subu |
    x86inc | x86dec | x86dsll | x86sll | x86dsll32 | x86dsllv | x86sllv | x86dsrl | x86srl | x86dsrl32 | x86dsrlv |
    x86srlv | x86dsra | x86sra | x86dsra32 | x86dsrav | x86srav | x86drotr | x86rotr | x86drotr32 | x86drotrv |
    x86rotrv | x86mtflag | settm | clrtm | inctop | dectop | mttop =>
    exact h.goesOn rfl rfl
  | sdbbp | x86j | x86loop | settag | campv | campi | camwi | ramri | cvtDLd | cvtLdD | cvtUdD =>
    exact keepsSystem_refused _
  -- 48_custom_mmi.md
  | paddsh | paddush | paddh | paddw | paddsb | paddusb | paddb | paddd | psubsh | psubush | psubh | psubw |
    psubsb | psubusb | psubb | psubd | pshufh | packsswh | packsshb | packushb | pandn | punpcklhw | punpckhhw |
    punpcklbh | punpckhbh | pinsrh0 | pinsrh1 | pinsrh2 | pinsrh3 | pavgh | pavgb | pmaxsh | pminsh | pmaxub |
    pminub | pcmpeqw | pcmpgtw | pcmpeqh | pcmpgth | pcmpeqb | pcmpgtb | psllw | psllh | pmullh | pmulhh | pmuluw |
    pmulhuh | psrlw | psrlh | psraw | psrah | punpcklwd | punpckhwd | pasubub | pextrh | pmaddhw | biadd |
    pmovmskb | gsxor | gsnor | gsand | gsaddu | gsor | gssubu | gssll | gsdsll | gssrl | gsdsrl | gssra | gsdsra =>
    exact h.mmiGate (h.writeFpr _ _).advance
  | gsadd | gsdadd | gssub | gsdsub => exact h.mmiGate (keepsSystem_ite (h.raise .ov) (h.writeFpr _ _).advance)
  | gssequ | gsseq | gssltu | gsslt | gssleu | gssle => exact h.mmiGate (h.setFcsr _).advance
  -- 49_fpu.md
  | absS | addS | divS | maddS | msubS | mulS | negS | nmaddS | nmsubS | recipS | rsqrtS | sqrtS | subS | ceilWS |
    ceilWD | cvtSD | cvtSW | cvtWS | cvtWD | floorWS | floorWD | roundWS | roundWD | truncWS | truncWD =>
    exact h.fpGate (h.fpFinish _ fun _ same => same.writeSingle _ _)
  | absD | addD | divD | maddD | msubD | mulD | negD | nmaddD | nmsubD | recipD | rsqrtD | sqrtD | subD | cvtDS |
    cvtDW =>
    exact h.fpGate (h.fpFinish _ fun _ same => same.writeDouble _ _)
  | ceilLS | ceilLD | cvtDL | cvtLS | cvtLD | floorLS | floorLD | roundLS | roundLD | truncLS | truncLD =>
    exact h.fpGate64 (h.fpFinish _ fun _ same => same.writeDouble _ _)
  | cvtSL => exact h.fpGate64 (h.fpFinish _ fun _ same => same.writeSingle _ _)
  | absPs | addPs | maddPs | msubPs | mulPs | negPs | nmaddPs | nmsubPs | subPs =>
    exact h.fpGate64 (h.fpFinish _ fun _ same => same.writeFpr _ _)
  | cFS | cUnS | cEqS | cUeqS | cOltS | cUltS | cOleS | cUleS | cSfS | cNgleS | cSeqS | cNglS | cLtS | cNgeS |
    cLeS | cNgtS | cFD | cUnD | cEqD | cUeqD | cOltD | cUltD | cOleD | cUleD | cSfD | cNgleD | cSeqD | cNglD |
    cLtD | cNgeD | cLeD | cNgtD =>
    exact h.fpGate (h.fpFinish _ fun _ same => same.setFcsr _)
  | cFPs | cUnPs | cEqPs | cUeqPs | cOltPs | cUltPs | cOlePs | cUlePs | cSfPs | cNglePs | cSeqPs | cNglPs | cLtPs |
    cNgePs | cLePs | cNgtPs =>
    exact h.fpGate64 (h.fpFinish _ fun _ same => same.pairCodes _ _ _)
  | cvtPsS | pllPs | pluPs | pulPs | puuPs => exact h.fpGate64 (h.writeFpr _ _).advance
  | cvtSPl | cvtSPu => exact h.fpGate64 (h.writeSingle _ _).advance
  -- 49_fpu_move_mem.md
  | cfc1 => exact h.execCfc1 _ _
  | ctc1 => exact h.execCtc1 _ _
  | mfc1 => exact h.needCop (h.putGpr _ _)
  | mtc1 => exact h.needCop (h.writeF32 _ _).advance
  | mfhc1 => exact h.needCop (h.putGpr _ _).needEven
  | mthc1 => exact h.needCop (h.writeFpr _ _).advance.needEven
  | dmfc1 => exact h.needCop (h.need64 (h.putGpr _ _).needEven)
  | dmtc1 => exact h.needCop (h.need64 (h.writeFpr _ _).advance.needEven)
  | movS | movfS | movnS | movtS | movzS => exact h.movSingle _ _ _
  | movD | movfD | movnD | movtD | movzD => exact h.movDouble _ _ _
  | alnvPs | movPs | movnPs | movzPs => exact h.fpGate64 (h.writeFpr _ _).advance
  | movfPs | movtPs =>
    exact keepsSystem_ite (h.fpGate64 (h.writeFpr _ _).advance) (h.fpGate64 (h.writeFpr _ _).advance)
  | bc1f | bc1t => exact h.needCop (h.branchIf _ _)
  | bc1fl | bc1tl => exact h.needCop (h.branchLikelyIf _ _)
  | lwc1 | lwxc1 => exact h.needCop (h.loadF32 _ (h.loadVirt _ _))
  | ldc1 | ldxc1 | luxc1 => exact h.needCop (h.loadF64 _ (h.loadVirt _ _))
  | swc1 | swxc1 => exact h.needCop (h.storeDone (h.storeVirt _ _ _))
  | sdc1 | sdxc1 | suxc1 => exact h.needCop (h.storeDone (h.storeVirt _ _ _)).needEven
  | gslwxc1 => exact h.gate21 (h.loadF32 _ (h.loadVirt _ _))
  | gsldxc1 => exact h.gate21 (h.loadF64 _ (h.loadVirt _ _))
  | gslwlec1 | gslwgtc1 => exact h.gate21 (h.loadF32 _ (h.boundLoad _ _ _))
  | gsldlec1 | gsldgtc1 => exact h.gate21 (h.loadF64 _ (h.boundLoad _ _ _))
  | gslwlc1 => exact h.gate21 (h.loadF32 _ (h.leftLoad _ _ _))
  | gslwrc1 => exact h.gate21 (h.loadF32 _ (h.rightLoad _ _ _))
  | gsldlc1 => exact h.gate21 (h.loadF64 _ (h.leftLoad _ _ _))
  | gsldrc1 => exact h.gate21 (h.loadF64 _ (h.rightLoad _ _ _))
  | gslqc1 =>
    exact h.gate21 (KeepsSystem.needEven (h.finish (h.loadQuad _) fun p reached =>
      keepsSystem_ite (reached.writeFpr _ _).advance ((reached.writeFpr _ _).writeFpr _ _).advance))
  | gsswxc1 => exact h.gate21 (h.storeDone (h.storeVirt _ _ _))
  | gssdxc1 => exact h.gate21 (h.storeDone (h.storeVirt _ _ _)).needEven
  | gsswlec1 | gsswgtc1 => exact h.gate21 (h.storeDone (h.boundStore _ _ _ _))
  | gssdlec1 | gssdgtc1 => exact h.gate21 (h.storeDone (h.boundStore _ _ _ _)).needEven
  | gsswlc1 => exact h.gate21 (h.storeDone (h.storeLeft _ _ _))
  | gsswrc1 => exact h.gate21 (h.storeDone (h.storeRight _ _ _))
  | gssdlc1 => exact h.gate21 (h.storeDone (h.storeLeft _ _ _)).needEven
  | gssdrc1 => exact h.gate21 (h.storeDone (h.storeRight _ _ _)).needEven
  | gssqc1 => exact h.gate21 (h.storeDone (h.storeQuad _ _ _)).needEven

end Sys2Proof.Machine

namespace Sys2Proof.Claims
open Sys2Proof.Machine

/-- Settles O60: an instruction that coprocessor 0 guards raises, and no other writes a CP0 register but LLAddr. -/
theorem unprivilegedCodeChangesSystemStateOnlyByExceptions :
    Obligations.UnprivilegedCodeChangesSystemStateOnlyByExceptions :=
  fun i s t unusable next => (State.SameSystem.refl s).exec unusable i t next

end Sys2Proof.Claims
end

section
/-!
PROOFS of 45_cp0_priv.md, second part: ERET (O33), and the moves from CP0 (O34).
-/
namespace Sys2Proof.Machine
open Sys2Proof.Claims

/-! ### Bits that an update clears or merges -/

theorem getLsbD_mergeBits {w i : Nat} (mask x v : BitVec w) (hi : i < w) :
    (mergeBits mask x v).getLsbD i = if mask.getLsbD i then v.getLsbD i else x.getLsbD i := by
  simp only [mergeBits, BitVec.getLsbD_or, BitVec.getLsbD_and, BitVec.getLsbD_not, hi, decide_true, Bool.true_and]
  cases mask.getLsbD i <;> simp

theorem getLsbD_putField {w i : Nat} (x : BitVec w) (lo len : Nat) (v : BitVec w) (hi : i < w) :
    (putField x lo len v).getLsbD i = if lo ≤ i ∧ i < lo + len then v.getLsbD (i - lo) else x.getLsbD i := by
  rw [putField, getLsbD_mergeBits _ _ _ hi, getLsbD_fieldMask lo len hi, BitVec.getLsbD_shiftLeft]
  by_cases inside : lo ≤ i ∧ i < lo + len <;> simp [inside, hi]

theorem putBit_false {w : Nat} (x : BitVec w) (i : Nat) : putBit x i false = x &&& ~~~(fieldMask w i 1) := by
  simp [putBit, putField, mergeBits]

/-- DataLo and DataHi read without their sign (11_cp0_registers.md rule R178). -/
theorem zextLow_sextWord (v : Word) : zextLow 32 (sextWord v) = v.setWidth 64 :=
  congrArg (BitVec.setWidth 64) (lowWord_signExtend v)

/-! ### ERET (45_cp0_priv.md rule R509) -/

/-- ERET clears one bit of Status, and LLAddr. -/
theorem State.returnFromException_cp0 (s : State) :
    s.returnFromException.cp0 =
      { s.cp0 with llAddr := 0, status := s.cp0.status &&& (if s.erl then ~~~4#32 else ~~~2#32) } := by
  unfold State.returnFromException
  cases s.erl with
  | true => exact congrArg (fun v => { s.cp0 with llAddr := 0, status := v }) (putBit_false _ 2)
  | false => exact congrArg (fun v => { s.cp0 with llAddr := 0, status := v }) (putBit_false _ 1)

theorem exec_eret_usable {s : State} (usable : s.copUsable 0 = true) (outside : s.inDelaySlot = false) :
    exec .eret s = .next s.returnFromException := by
  rw [exec_eret, needCop_on usable, notInSlot_out outside]

/-! ### What reads in place of each register (10_state.md rule R40) -/

/-- The names of the table. -/
def cp0Names : List Cp0Name :=
  [(0, 0), (1, 0), (2, 0), (3, 0), (4, 0), (5, 0), (5, 1), (6, 0), (7, 0), (8, 0), (9, 0), (10, 0), (11, 0), (12, 0),
   (12, 1), (12, 2), (13, 0), (14, 0), (15, 0), (15, 1), (16, 0), (16, 1), (16, 2), (16, 3), (17, 0), (20, 0), (22, 0),
   (23, 0), (24, 0), (25, 0), (25, 1), (25, 2), (25, 3), (26, 0), (27, 0), (27, 1), (28, 0), (28, 1), (29, 0), (29, 1),
   (30, 0), (31, 0)]

theorem map_cp0Values (s : State) : (cp0Values s).map (fun p => (p.1, p.2.1)) = cp0Names := rfl

/-- Cause with its computed fields in place: PCI, then IP7 to IP2. -/
theorem State.readCause_eq (s : State) : s.readCause = causeValue s := by
  have request : s.pci = counterRequest s := rfl
  apply BitVec.eq_of_getLsbD_eq
  intro i hi
  rw [State.readCause, putBit, getLsbD_putField _ _ _ _ hi, getLsbD_putField _ _ _ _ hi, causeValue, State.ip,
    request, State.ti]
  simp only [BitVec.getLsbD_append, BitVec.getLsbD_extractLsb', BitVec.getLsbD_ofBool, BitVec.getLsbD_setWidth]
  grind

/-- Each register of the table reads as its row says. -/
theorem State.readCp0_of_mem {s : State} {p : BitVec 5 × BitVec 3 × Dword} (row : p ∈ cp0Values s) :
    s.readCp0 p.1 p.2.1 = some p.2.2 := by
  have rows : (cp0Values s).map (fun p => s.readCp0 p.1 p.2.1) = (cp0Values s).map (fun p => some p.2.2) := by
    simp only [cp0Values, List.cons_append, List.nil_append, List.map_cons, List.map_nil, ← State.readCause_eq,
      ← zextLow_sextWord]
    rfl
  exact List.map_inj_left.1 rows p row

/-- A name that can be written can be read, whatever the state. -/
theorem Cp0.write_isSome (s : State) (c : Cp0) (rd : BitVec 5) (sel : BitVec 3) (v : Dword) :
    (c.write rd sel v).isSome = (s.readCp0 rd sel).isSome := by
  unfold State.readCp0 Cp0.write
  dsimp only
  split <;> rfl

theorem Cp0.write_eq_none_iff {s : State} {c : Cp0} {rd : BitVec 5} {sel : BitVec 3} {v : Dword} :
    c.write rd sel v = none ↔ s.readCp0 rd sel = none := by
  rw [← Option.not_isSome_iff_eq_none, ← Option.not_isSome_iff_eq_none, Cp0.write_isSome s]

/-- A name outside the table has no register (11_cp0_registers.md rule R176). -/
theorem State.readCp0_eq_none {s : State} {rd : BitVec 5} {sel : BitVec 3} (unnamed : (rd, sel) ∉ cp0Names) :
    s.readCp0 rd sel = none := by
  have finite : ∀ rd sel, (rd, sel) ∉ cp0Names → Cp0.reset.write rd sel 0 = none := by decide
  exact Cp0.write_eq_none_iff.1 (finite rd sel unnamed)

/-! ### The moves (45_cp0_priv.md rules R501, R502, R515, R523) -/

theorem exec_mfc0 (s : State) (rt rd : BitVec 5) (sel : BitVec 3) :
    exec (.mfc0 rt rd sel) s = needCop 0 s (s.moveFromCp0 rt rd sel (sextLow 32)) := rfl

theorem exec_dmfc0 (s : State) (rt rd : BitVec 5) (sel : BitVec 3) :
    exec (.dmfc0 rt rd sel) s = needCop 0 s (need64 s (s.moveFromCp0 rt rd sel id)) := rfl

theorem State.moveFromCp0_some {s : State} {rd : BitVec 5} {sel : BitVec 3} {v : Dword}
    (reads : s.readCp0 rd sel = some v) (rt : BitVec 5) (ext : Dword → Dword) :
    s.moveFromCp0 rt rd sel ext = s.putGpr rt (ext v) := by
  rw [State.moveFromCp0, reads]

theorem State.moveFromCp0_none {s : State} {rd : BitVec 5} {sel : BitVec 3} (reads : s.readCp0 rd sel = none)
    (rt : BitVec 5) (ext : Dword → Dword) : s.moveFromCp0 rt rd sel ext = .refused .noSuchCp0Register := by
  rw [State.moveFromCp0, reads]

end Sys2Proof.Machine

namespace Sys2Proof.Claims
open Sys2Proof.Machine

/-- Settles O33: the two checks of ERET, and the return behind them. -/
theorem exceptionReturnRestoresPcAndLevel : Obligations.ExceptionReturnRestoresPcAndLevel := by
  intro s
  refine ⟨fun usable outside => ?_, fun unusable => needCop_off unusable _⟩
  exact ⟨s.returnFromException, exec_eret_usable usable outside, rfl, rfl, rfl, rfl, fun _ => rfl,
    s.returnFromException_cp0, rfl⟩

/-- Settles O34: a row of the table is what the register reads, and a name without a row has no register. -/
theorem moveFromCp0ReadsTheRegister : Obligations.MoveFromCp0ReadsTheRegister := by
  intro s rt rd sel
  refine ⟨fun usable => ⟨fun p row => ?reads, fun off => ?off, fun unlisted => ?none, ?_, ?_⟩, fun unusable =>
    ⟨needCop_off unusable _, needCop_off unusable _, needCop_off unusable _, needCop_off unusable _⟩⟩
  case reads =>
    have reads := State.readCp0_of_mem row
    refine ⟨putsGpr_of_putGpr ?_, fun wide => putsGpr_of_putGpr ?_⟩
    · rw [exec_mfc0, needCop_on usable, State.moveFromCp0_some reads]
      rfl
    · rw [exec_dmfc0, needCop_on usable, need64_on wide, State.moveFromCp0_some reads]
      rfl
  case off => exact (needCop_on usable _).trans (need64_off off _)
  case none =>
    have unnamed : (rd, sel) ∉ cp0Names := by
      rw [← map_cp0Values s, List.mem_map]
      rintro ⟨p, row, name⟩
      exact unlisted p row name
    have reads : s.readCp0 rd sel = none := State.readCp0_eq_none unnamed
    exact ⟨(needCop_on usable _).trans (State.moveFromCp0_none reads rt _), fun wide =>
      (needCop_on usable _).trans ((need64_on wide _).trans (State.moveFromCp0_none reads rt _))⟩
  · exact putsGpr_of_putGpr (needCop_on usable _)
  · exact putsGpr_of_putGpr (needCop_on usable _)

end Sys2Proof.Claims
end

section
/-!
PROOFS of 45_cp0_priv.md, third part: the moves to CP0 (O35).
-/
namespace Sys2Proof.Machine
open Sys2Proof.Claims

/-! ### Writable bits (11_cp0_registers.md rule R177) -/

/-- A register that is writable whole takes the value. -/
theorem mergeBits_allOnes {w : Nat} (x v : BitVec w) : mergeBits (BitVec.allOnes w) x v = v := by
  simp [mergeBits]

theorem mergeBits_allOnes32 (x v : Word) : mergeBits 0xFFFFFFFF x v = v := mergeBits_allOnes x v

theorem mergeBits_allOnes64 (x v : Dword) : mergeBits 0xFFFFFFFFFFFFFFFF x v = v := mergeBits_allOnes x v

/-- A bit set to that of another value is merged from it. -/
theorem putBit_getLsbD {w : Nat} (x v : BitVec w) (i : Nat) :
    putBit x i (v.getLsbD i) = mergeBits (fieldMask w i 1) x v := by
  apply BitVec.eq_of_getLsbD_eq
  intro j hj
  rw [putBit, getLsbD_putField _ _ _ _ hj, getLsbD_mergeBits _ _ _ hj, getLsbD_fieldMask _ _ hj]
  by_cases same : j = i
  · subst same
    cases v.getLsbD j <;> simp
    omega
  · have outside : ¬ (i ≤ j ∧ j < i + 1) := by omega
    simp only [outside, decide_false, Bool.false_eq_true, if_false]

/-- Status takes its writable bits, and NMI only if it was set (11_cp0_registers.md rule R116). -/
theorem writeStatus_eq (old v : Word) :
    writeStatus old v = (old &&& 0x0B270000) ||| (v &&& 0xF4D0FFFF) ||| (old &&& v &&& 0x00080000) := by
  rw [writeStatus, ← BitVec.getLsbD_and, putBit_getLsbD, mergeBits, mergeBits, BitVec.and_or_distrib_right,
    BitVec.and_assoc, BitVec.and_assoc v]
  rfl

/-! ### The moves (45_cp0_priv.md rules R503, R508) -/

theorem exec_mtc0 (s : State) (rt rd : BitVec 5) (sel : BitVec 3) :
    exec (.mtc0 rt rd sel) s = needCop 0 s (s.moveToCp0 rd sel (mtc0Value (s.readGpr rt))) := rfl

theorem exec_dmtc0 (s : State) (rt rd : BitVec 5) (sel : BitVec 3) :
    exec (.dmtc0 rt rd sel) s = needCop 0 s (need64 s (s.moveToCp0 rd sel (s.readGpr rt))) := rfl

theorem State.moveToCp0_some {s : State} {rd : BitVec 5} {sel : BitVec 3} {v : Dword} {c : Cp0}
    (written : s.cp0.write rd sel v = some c) : s.moveToCp0 rd sel v = .next (s.setCp0 c).advance := by
  rw [State.moveToCp0, written]

theorem State.moveToCp0_none {s : State} {rd : BitVec 5} {sel : BitVec 3} {v : Dword}
    (written : s.cp0.write rd sel v = none) : s.moveToCp0 rd sel v = .refused .noSuchCp0Register := by
  rw [State.moveToCp0, written]

end Sys2Proof.Machine

namespace Sys2Proof.Claims
open Sys2Proof.Machine

/-- An instruction that ends by replacing the CP0 registers. -/
theorem putsCp0With_of_setCp0 {i : Instr} {s : State} {c : Cp0} {good : State → Prop}
    (runs : exec i s = .next (s.setCp0 c).advance) (holds : good (s.setCp0 c).advance) : PutsCp0With i s good :=
  ⟨_, runs, s.writesCp0_advance c, holds⟩

section
variable {s : State} {rt rd : BitVec 5} {sel : BitVec 3} {good : Dword → State → Prop}

/-- `CPR[rd, sel] <- w` leaves a state with the property. -/
def WriteLeaves (s : State) (rd : BitVec 5) (sel : BitVec 3) (good : State → Prop) (w : Dword) : Prop :=
  ∃ c, s.cp0.write rd sel w = some c ∧ good (s.setCp0 c).advance

/-- MTC0 and DMTC0 are one write, of values with the low word of rt. -/
theorem bothMoves_of_write (usable : s.copUsable 0 = true)
    (writes : ∀ w, lowWord w = lowWord (s.readGpr rt) → WriteLeaves s rd sel (good w) w) :
    BothMoves s rt rd sel good := by
  refine ⟨?_, fun wide => ?_, fun off => (needCop_on usable _).trans (need64_off off _)⟩
  · obtain ⟨c, written, holds⟩ := writes (movedByMtc0 (s.readGpr rt)) (lowWord_mtc0Value _)
    refine putsCp0With_of_setCp0 ?_ holds
    rw [exec_mtc0, needCop_on usable]
    exact State.moveToCp0_some written
  · obtain ⟨c, written, holds⟩ := writes (s.readGpr rt) rfl
    refine putsCp0With_of_setCp0 ?_ holds
    rw [exec_dmtc0, needCop_on usable, need64_on wide]
    exact State.moveToCp0_some written

/-! ### The registers a write leaves alone -/

/-- The table with another value in the row of one name. -/
def withReading (rows : List (BitVec 5 × BitVec 3 × Dword)) (rd : BitVec 5) (sel : BitVec 3) (v : Dword) :
    List (BitVec 5 × BitVec 3 × Dword) :=
  rows.map fun p => if p.1 = rd ∧ p.2.1 = sel then (rd, sel, v) else p

/-- A row of another name stays. -/
theorem mem_withReading_of_ne {rows : List (BitVec 5 × BitVec 3 × Dword)} {r : BitVec 5} {k : BitVec 3} {v x : Dword}
    (row : (r, k, x) ∈ rows) (other : (r, k) ≠ (rd, sel)) : (r, k, x) ∈ withReading rows rd sel v :=
  List.mem_map.2 ⟨(r, k, x), row, if_neg fun same => other (Prod.ext same.1 same.2)⟩

theorem mem_withReading_self {rows : List (BitVec 5 × BitVec 3 × Dword)} {v x : Dword} (row : (rd, sel, x) ∈ rows) :
    (rd, sel, v) ∈ withReading rows rd sel v :=
  List.mem_map.2 ⟨(rd, sel, x), row, if_pos ⟨rfl, rfl⟩⟩

theorem exists_row_of_mem_cp0Names {r : BitVec 5} {k : BitVec 3} (named : (r, k) ∈ cp0Names) (s : State) :
    ∃ x, (r, k, x) ∈ cp0Values s := by
  rw [← map_cp0Values s, List.mem_map] at named
  obtain ⟨⟨_, _, x⟩, row, ⟨⟩⟩ := named
  exact ⟨x, row⟩

/-- A write is as the statement asks if the table has `v` in the row of the name, and its other rows are kept. -/
theorem onlyReads_of_rows {t : State} {v : Dword} (written : (rd, sel, v) ∈ cp0Values t)
    (kept : ∀ r k x, (r, k, x) ∈ cp0Values s → (r, k) ≠ (rd, sel) → ¬ (r = 1 ∧ k = 0 ∧ rd = 6) →
      ¬ (r = 13 ∧ k = 0 ∧ (rd = 11 ∨ rd = 25)) → (r, k, x) ∈ cp0Values t) : OnlyReads s t rd sel v := by
  refine ⟨State.readCp0_of_mem written, fun r k other notRandom notCause => ?_⟩
  by_cases named : (r, k) ∈ cp0Names
  · obtain ⟨x, row⟩ := exists_row_of_mem_cp0Names named s
    exact (State.readCp0_of_mem (kept r k x row other notRandom notCause)).trans (State.readCp0_of_mem row).symm
  · rw [State.readCp0_eq_none named, State.readCp0_eq_none named]

/-- Only one row changes. -/
theorem onlyReads_of_withReading {t : State} {v : Dword} (named : (rd, sel) ∈ cp0Names)
    (after : cp0Values t = withReading (cp0Values s) rd sel v) : OnlyReads s t rd sel v := by
  obtain ⟨x, row⟩ := exists_row_of_mem_cp0Names named s
  refine onlyReads_of_rows ?_ fun r k x row other _ _ => ?_ <;> rw [after]
  · exact mem_withReading_self row
  · exact mem_withReading_of_ne row other

/-- The row of Random (by Wired) or of Cause (by Compare and the counters) changes too. -/
theorem onlyReads_of_withReading_withReading {t : State} {v y : Dword} {r' : BitVec 5} (named : (rd, sel) ∈ cp0Names)
    (exempt : r' = 1 ∧ rd = 6 ∨ r' = 13 ∧ (rd = 11 ∨ rd = 25))
    (after : cp0Values t = withReading (withReading (cp0Values s) r' 0 y) rd sel v) : OnlyReads s t rd sel v := by
  obtain ⟨x, row⟩ := exists_row_of_mem_cp0Names named s
  have distinct : rd ≠ r' := by
    rintro rfl
    rcases exempt with ⟨rfl, same⟩ | ⟨rfl, same | same⟩ <;> exact absurd same (by decide)
  refine onlyReads_of_rows ?_ fun r k x row other notRandom notCause => ?_ <;> rw [after]
  · exact mem_withReading_self (mem_withReading_of_ne row fun same => distinct (congrArg Prod.fst same))
  · refine mem_withReading_of_ne (mem_withReading_of_ne row ?_) other
    rintro ⟨⟩
    rcases exempt with ⟨rfl, wired⟩ | ⟨rfl, cause⟩
    · exact notRandom ⟨rfl, rfl, wired⟩
    · exact notCause ⟨rfl, rfl, cause⟩

/-! ### The registers of the table -/

/-- A 32-bit register that takes the writable bits of the low word. -/
theorem bothMoves_of_word {m x : Word} (usable : s.copUsable 0 = true)
    (before : s.readCp0 rd sel = some (sextWord x))
    (writes : ∀ w, WriteLeaves s rd sel (fun t => OnlyReads s t rd sel (sextWord (mergeBits m x (lowWord w)))) w) :
    ∀ old, s.readCp0 rd sel = some old → BothMoves s rt rd sel (fun _ t => OnlyReads s t rd sel
      (((old.setWidth 32 &&& ~~~m) ||| ((s.readGpr rt).setWidth 32 &&& m) : Word).signExtend 64)) := by
  intro old reads
  obtain rfl : sextWord x = old := Option.some.inj (before.symm.trans reads)
  refine bothMoves_of_write usable fun w low => ?_
  have word : (sextWord x).setWidth 32 = x := lowWord_signExtend x
  have value : (s.readGpr rt).setWidth 32 = lowWord w := low.symm
  rw [word, value]
  exact writes w

/-- A 64-bit register that takes the writable bits of the value. -/
theorem bothMoves_of_dword {m x : Dword} (usable : s.copUsable 0 = true) (before : s.readCp0 rd sel = some x)
    (writes : ∀ w, WriteLeaves s rd sel (fun t => OnlyReads s t rd sel (mergeBits m x w)) w) :
    ∀ old, s.readCp0 rd sel = some old →
      BothMoves s rt rd sel (fun w t => OnlyReads s t rd sel ((old &&& ~~~m) ||| (w &&& m))) := by
  intro old reads
  obtain rfl : x = old := Option.some.inj (before.symm.trans reads)
  exact bothMoves_of_write usable fun w _ => writes w

end

theorem bothMoves_words32 {s : State} (usable : s.copUsable 0 = true) (rt : BitVec 5) :
    ∀ p ∈ words32, ∀ old, s.readCp0 p.1 p.2.1 = some old → BothMoves s rt p.1 p.2.1 (fun _ t =>
      OnlyReads s t p.1 p.2.1
        (((old.setWidth 32 &&& ~~~p.2.2) ||| ((s.readGpr rt).setWidth 32 &&& p.2.2) : Word).signExtend 64)) := by
  simp only [words32, List.forall_mem_cons]
  refine ⟨?index, ?pageMask, ?pageGrain, ?wired, ?hwrEna, ?count, ?compare, ?intCtl, ?ebase, ?config, ?perfCtl0,
    ?perfCtl1, ?errCtl, ?tagLo, ?tagHi, nofun⟩
  case wired =>
    exact bothMoves_of_word usable rfl fun w =>
      ⟨_, rfl, onlyReads_of_withReading_withReading (by decide) (.inl ⟨rfl, rfl⟩) rfl⟩
  case count =>
    refine bothMoves_of_word usable rfl fun w => ⟨_, rfl, ?_⟩
    rw [mergeBits_allOnes32]
    exact onlyReads_of_withReading (by decide) rfl
  case compare =>
    refine bothMoves_of_word usable rfl fun w => ⟨_, rfl, ?_⟩
    rw [mergeBits_allOnes32]
    exact onlyReads_of_withReading_withReading (by decide) (.inr ⟨rfl, .inl rfl⟩) rfl
  case perfCtl0 | perfCtl1 =>
    exact bothMoves_of_word usable rfl fun w =>
      ⟨_, rfl, onlyReads_of_withReading_withReading (by decide) (.inr ⟨rfl, .inr rfl⟩) rfl⟩
  all_goals exact bothMoves_of_word usable rfl fun w => ⟨_, rfl, onlyReads_of_withReading (by decide) rfl⟩

theorem bothMoves_words64 {s : State} (usable : s.copUsable 0 = true) (rt : BitVec 5) :
    ∀ p ∈ words64, ∀ old, s.readCp0 p.1 p.2.1 = some old → BothMoves s rt p.1 p.2.1 (fun w t =>
      OnlyReads s t p.1 p.2.1 ((old &&& ~~~p.2.2) ||| (w &&& p.2.2))) := by
  simp only [words64, List.forall_mem_cons]
  refine ⟨?entryLo0, ?entryLo1, ?context, ?entryHi, ?epc, ?xContext, ?diagnostic, ?depc, ?perfCnt0, ?perfCnt1,
    ?errorEpc, ?desave, nofun⟩
  case epc | depc | errorEpc | desave =>
    refine bothMoves_of_dword usable rfl fun w => ⟨_, rfl, ?_⟩
    rw [mergeBits_allOnes64]
    exact onlyReads_of_withReading (by decide) rfl
  case perfCnt0 | perfCnt1 =>
    refine bothMoves_of_dword usable rfl fun w => ⟨_, rfl, ?_⟩
    rw [mergeBits_allOnes64]
    exact onlyReads_of_withReading_withReading (by decide) (.inr ⟨rfl, .inr rfl⟩) rfl
  all_goals exact bothMoves_of_dword usable rfl fun w => ⟨_, rfl, onlyReads_of_withReading (by decide) rfl⟩

/-- A write of a read-only register leaves the CP0 registers as they are. -/
theorem bothMoves_readOnly {s : State} (usable : s.copUsable 0 = true) (rt : BitVec 5) :
    ∀ p ∈ readOnly, BothMoves s rt p.1 p.2 (fun _ t => t.cp0 = s.cp0) := by
  have unchanged : ∀ p ∈ readOnly, ∀ w, s.cp0.write p.1 p.2 w = some s.cp0 := by
    simp only [readOnly, List.forall_mem_cons]
    exact ⟨fun _ => rfl, fun _ => rfl, fun _ => rfl, fun _ => rfl, fun _ => rfl, fun _ => rfl, fun _ => rfl,
      fun _ => rfl, fun _ => rfl, fun _ => rfl, fun _ => rfl, fun _ => rfl, nofun⟩
  exact fun p row => bothMoves_of_write usable fun w _ => ⟨s.cp0, unchanged p row w, rfl⟩

/-- Settles O35: both moves are one write, which changes one row of the table, and another one by the way for Wired,
Compare and the counters. -/
theorem moveToCp0WritesOnlyWritableFields : Obligations.MoveToCp0WritesOnlyWritableFields := by
  intro s rt usable
  refine ⟨bothMoves_words32 usable rt, bothMoves_words64 usable rt, bothMoves_readOnly usable rt, ?wired, ?compare,
    ?status, ?cause, ?debug, fun rd sel unnamed => ?unnamed⟩
  case wired => exact bothMoves_of_write usable fun w _ => ⟨_, rfl, rfl⟩
  case compare => exact bothMoves_of_write usable fun w _ => ⟨_, rfl, putBit_false _ 30⟩
  case status =>
    refine bothMoves_of_write usable fun w low => ⟨_, rfl, ?_⟩
    show ({ s.cp0 with status := writeStatus s.cp0.status (lowWord w) } : Cp0) = _
    rw [writeStatus_eq, low]
    rfl
  case cause | debug =>
    refine bothMoves_of_write usable fun w low => ⟨_, rfl, ?_⟩
    dsimp only [State.advance_cp0, State.setCp0_cp0, mergeBits]
    rw [low]
    rfl
  case unnamed =>
    exact (needCop_on usable _).trans (State.moveToCp0_none (Cp0.write_eq_none_iff.2 unnamed))

end Sys2Proof.Claims
end

section
/-!
PROOFS of 45_cp0_priv.md, fourth part: the TLB instructions (O36).
-/
namespace Sys2Proof.Machine
open Sys2Proof.Claims

theorem exec_tlbp (s : State) : exec .tlbp s =
    needCop 0 s (s.probe.finish s fun i => .next (s.setCp0 { s.cp0 with index := i }).advance) := rfl

/-! ### Which entry (45_cp0_priv.md rules R506, R507) -/

/-- The low bits of a word, as a field. -/
theorem setWidth_eq_extractLsb'_zero {w n : Nat} (v : BitVec w) : v.setWidth n = v.extractLsb' 0 n := by
  apply BitVec.eq_of_getLsbD_eq
  intro i hi
  simp [hi]

theorem State.toNat_tlbIndex (s : State) : s.tlbIndex.toNat = (s.cp0.index.extractLsb' 0 6).toNat :=
  congrArg BitVec.toNat (setWidth_eq_extractLsb'_zero s.cp0.index)

/-- TLBWR takes an entry at Wired or above. -/
theorem State.wired_le_tlbRandom (s : State) : (s.cp0.wired.extractLsb' 0 6).toNat ≤ s.tlbRandom.toNat := by
  rw [← setWidth_eq_extractLsb'_zero]
  have wired : (s.cp0.wired.setWidth 6).toNat < 64 := (s.cp0.wired.setWidth 6).isLt
  have above := Nat.mod_lt (s.free Slot.tlbRandom).toNat (Nat.sub_pos_of_lt wired)
  unfold State.tlbRandom
  rw [BitVec.toNat_ofNat, Nat.mod_eq_of_lt (by omega)]
  exact Nat.le_add_right _ _

/-! ### Writing an entry (45_cp0_priv.md rule R506) -/

theorem legalMask_iff (m : BitVec 12) : legalMask m = true ↔ m ∈ legalMasks := List.contains_iff_mem

theorem Cp0.describedBy_tlbEntry (c : Cp0) : DescribedBy c.tlbEntry c :=
  ⟨rfl, rfl, rfl, setWidth_eq_extractLsb'_zero c.entryHi, rfl, rfl, rfl, rfl, rfl, rfl, rfl, rfl, rfl⟩

theorem State.writeTlb_legal {s : State} (legal : s.cp0.mask ∈ legalMasks) (i : BitVec 6) :
    s.writeTlb i = .next (s.setTlb i s.cp0.tlbEntry).advance := if_pos ((legalMask_iff _).2 legal)

theorem State.writeTlb_illegal {s : State} (illegal : s.cp0.mask ∉ legalMasks) (i : BitVec 6) :
    s.writeTlb i = .fault .illegalPageMask := if_neg fun legal => illegal ((legalMask_iff _).1 legal)

theorem State.setTlb_self (s : State) (i : BitVec 6) (e : TlbEntry) :
    (s.setTlb i e).tlb[(⟨i.toNat, i.isLt⟩ : Fin 64)] = e := Vector.getElem_set_self _

theorem State.setTlb_other (s : State) {i : BitVec 6} {k : Fin 64} (other : k ≠ ⟨i.toNat, i.isLt⟩) (e : TlbEntry) :
    (s.setTlb i e).tlb[k] = s.tlb[k] :=
  Vector.getElem_set_ne i.isLt k.isLt fun same => other (Fin.ext same.symm)

theorem writesEntry_of_writeTlb {ins : Instr} {s : State} {i : BitVec 6} {which : Fin 64 → Prop}
    (legal : s.cp0.mask ∈ legalMasks) (runs : exec ins s = s.writeTlb i) (named : which ⟨i.toNat, i.isLt⟩) :
    WritesEntry ins s which := by
  refine ⟨_, ⟨i.toNat, i.isLt⟩, runs.trans (State.writeTlb_legal legal i), named, ?_,
    fun k other => s.setTlb_other other _, ⟨rfl, rfl, rfl⟩, fun _ => rfl, rfl⟩
  rw [State.advance_tlb, State.setTlb_self]
  exact s.cp0.describedBy_tlbEntry

/-! ### Reading an entry (45_cp0_priv.md rule R505) -/

/-- A page mask in its place: bit `b` of the mask stands at `b + lo`. -/
theorem getLsbD_mask_shiftLeft (mask : BitVec 12) {lo i : Nat} (hi : i < 64) :
    (mask.setWidth 64 <<< lo).getLsbD i = (decide (lo ≤ i) && mask.getLsbD (i - lo)) := by
  have bound : mask.getLsbD (i - lo) = true → i - lo < 12 := BitVec.lt_of_getLsbD
  rw [BitVec.getLsbD_shiftLeft, BitVec.getLsbD_setWidth]
  grind

/-- A bit of what TLBR writes: open under the mask, else the bit of the fields. -/
theorem getLsbD_mergeBits_mask (mask : BitVec 12) (fields free : Dword) {lo i : Nat} (hi : i < 64) :
    (mergeBits (mask.setWidth 64 <<< lo) fields free).getLsbD i =
      if lo ≤ i ∧ mask.getLsbD (i - lo) = true then free.getLsbD i else fields.getLsbD i := by
  rw [getLsbD_mergeBits _ _ _ hi, getLsbD_mask_shiftLeft mask hi]
  simp only [Bool.and_eq_true, decide_eq_true_eq]

/-- EntryLo0 or EntryLo1 as TLBR leaves it, bit by bit. -/
theorem getLsbD_entryLoOf (pfn : BitVec 36) (c : BitVec 3) (d v g : Bool) (mask : BitVec 12) (free : Dword) {i : Nat}
    (hi : i < 64) :
    (entryLoOf pfn c d v g mask free).getLsbD i =
      if 6 ≤ i ∧ mask.getLsbD (i - 6) = true then free.getLsbD i
      else if i = 0 then g else if i = 1 then v else if i = 2 then d
      else if i < 6 then c.getLsbD (i - 3) else pfn.getLsbD (i - 6) := by
  rw [entryLoOf, getLsbD_mergeBits_mask _ _ _ hi]
  refine ite_congr rfl (fun _ => rfl) fun _ => ?_
  simp only [BitVec.getLsbD_append, BitVec.getLsbD_ofBool, BitVec.getLsbD_zero]
  grind

theorem loFrom_entryLoOf (pfn : BitVec 36) (c : BitVec 3) (d v g : Bool) (mask : BitVec 12) (free : Dword) :
    LoFrom (entryLoOf pfn c d v g mask free) mask pfn c d v g := by
  have bit {i : Nat} := @getLsbD_entryLoOf pfn c d v g mask free i
  refine ⟨bit (by decide), bit (by decide), bit (by decide), BitVec.eq_of_getLsbD_eq fun i hi => ?cache,
    BitVec.eq_of_getLsbD_eq fun i hi => ?reserved, fun b hb => ?page⟩
  case cache =>
    rw [BitVec.getLsbD_extractLsb', bit (by omega)]
    grind
  case reserved =>
    have unmasked : mask.getLsbD (42 + i - 6) = false := BitVec.getLsbD_of_ge _ _ (by omega)
    have above : pfn.getLsbD (42 + i - 6) = false := BitVec.getLsbD_of_ge _ _ (by omega)
    rw [BitVec.getLsbD_extractLsb', bit (by omega)]
    grind
  case page =>
    have masked : mask.getLsbD b = true → b < 12 := BitVec.lt_of_getLsbD
    rw [bit (by omega)]
    grind

/-- EntryHi as TLBR leaves it, bit by bit. -/
theorem State.getLsbD_readTlb_entryHi (s : State) (e : TlbEntry) {i : Nat} (hi : i < 64) :
    (s.readTlb e).entryHi.getLsbD i =
      if 13 ≤ i ∧ e.mask.getLsbD (i - 13) = true then (s.free Slot.tlbrHi).getLsbD i
      else if i < 8 then e.asid.getLsbD i else if i < 13 then false
      else if i < 48 then e.vpn2.getLsbD (i - 13) else if i < 62 then false else e.r.getLsbD (i - 62) := by
  rw [State.readTlb, getLsbD_mergeBits_mask _ _ _ hi]
  refine ite_congr rfl (fun _ => rfl) fun _ => ?_
  simp only [BitVec.getLsbD_append, BitVec.getLsbD_zero]
  grind

theorem State.readTlb_region (s : State) (e : TlbEntry) : (s.readTlb e).entryHi.extractLsb' 62 2 = e.r := by
  apply BitVec.eq_of_getLsbD_eq
  intro i hi
  have unmasked : e.mask.getLsbD (62 + i - 13) = false := BitVec.getLsbD_of_ge _ _ (by omega)
  rw [BitVec.getLsbD_extractLsb', s.getLsbD_readTlb_entryHi e (by omega)]
  grind

theorem State.readTlb_asid (s : State) (e : TlbEntry) : (s.readTlb e).entryHi.extractLsb' 0 8 = e.asid := by
  apply BitVec.eq_of_getLsbD_eq
  intro i hi
  rw [BitVec.getLsbD_extractLsb', s.getLsbD_readTlb_entryHi e (by omega)]
  grind

theorem State.readTlb_vpn2 (s : State) (e : TlbEntry) {b : Nat} (hb : b < 35) :
    (b < 12 ∧ e.mask.getLsbD b = true) ∨ (s.readTlb e).entryHi.getLsbD (13 + b) = e.vpn2.getLsbD b := by
  have masked : e.mask.getLsbD b = true → b < 12 := BitVec.lt_of_getLsbD
  rw [s.getLsbD_readTlb_entryHi e (by omega)]
  grind

/-! ### Looking for an entry (45_cp0_priv.md rule R504) -/

theorem State.probe_nil {s : State} (h : s.matching s.cp0.entryHi = []) :
    s.probe = .ok (0x80000000#32 ||| (lowWord (s.free Slot.tlbIndex) &&& 0x3F#32)) := by
  rw [State.probe, ← State.matching, h]

theorem State.probe_singleton {s : State} {e : TlbEntry} {i : Nat} (h : s.matching s.cp0.entryHi = [(e, i)]) :
    s.probe = .ok (BitVec.ofNat 32 i) := by
  rw [State.probe, ← State.matching, h]

theorem State.probe_cons_cons {s : State} {p q : TlbEntry × Nat} {l : List (TlbEntry × Nat)}
    (h : s.matching s.cp0.entryHi = p :: q :: l) : s.probe = .fault .tlbMultipleMatch := by
  rw [State.probe, ← State.matching, h]

theorem exec_tlbp_ok {s : State} {i : Word} (usable : s.copUsable 0 = true) (found : s.probe = .ok i) :
    exec .tlbp s = .next (s.setCp0 { s.cp0 with index := i }).advance := by
  rw [exec_tlbp, needCop_on usable, found]
  rfl

end Sys2Proof.Machine

namespace Sys2Proof.Claims
open Sys2Proof.Machine

/-- Settles O36: the entry written and the registers read, bit by bit under the mask; TLBP by the list of entries that
match EntryHi, as a lookup goes. -/
theorem tlbWritesAndReads : Obligations.TlbWritesAndReads := by
  intro s usable
  refine ⟨fun legal => ⟨?tlbwi, ?tlbwr⟩, fun illegal => ⟨?_, ?_⟩, fun n named => ?tlbr, fun none => ?none,
    fun i hit only => ?one, fun i j distinct hit hit' => ?two⟩
  case tlbwi => exact writesEntry_of_writeTlb legal (needCop_on usable _) s.toNat_tlbIndex
  case tlbwr => exact writesEntry_of_writeTlb legal (needCop_on usable _) s.wired_le_tlbRandom
  · exact (needCop_on usable _).trans (State.writeTlb_illegal illegal _)
  · exact (needCop_on usable _).trans (State.writeTlb_illegal illegal _)
  case tlbr =>
    obtain rfl : n = ⟨s.tlbIndex.toNat, s.tlbIndex.isLt⟩ := Fin.ext (named.trans s.toNat_tlbIndex.symm)
    exact putsCp0With_of_setCp0 (needCop_on usable _) ⟨rfl, s.readTlb_region _, s.readTlb_asid _,
      fun b hb => s.readTlb_vpn2 _ hb, loFrom_entryLoOf _ _ _ _ _ _ _, loFrom_entryLoOf _ _ _ _ _ _ _, rfl⟩
  case none =>
    refine putsCp0With_of_setCp0 (exec_tlbp_ok usable (State.probe_nil (State.matching_eq_nil none))) ⟨?_, rfl⟩
    show (_ ||| _ : Word).getLsbD 31 = true
    rw [BitVec.getLsbD_or]
    rfl
  case one =>
    exact putsCp0With_of_setCp0 (exec_tlbp_ok usable (State.probe_singleton (State.matching_eq_singleton hit only))) rfl
  case two =>
    obtain ⟨p, q, l, list⟩ := State.exists_matching_eq_cons_cons distinct hit hit'
    rw [exec_tlbp, needCop_on usable, State.probe_cons_cons list]
    rfl

end Sys2Proof.Claims
end

section
/-!
PROOFS of 45_cp0_priv.md, fifth part: the Index Load operations of CACHE, and RDHWR (O37).
-/
namespace Sys2Proof.Machine

/-! ### CACHE (45_cp0_priv.md rules R511 to R514) -/

theorem exec_cache (s : State) (base op : BitVec 5) (imm : BitVec 16) :
    exec (.cache base op imm) s = needCop 0 s
      (if cacheListed op then
        if s.cacheTranslates op (s.ea base imm) then
          (s.translate (s.ea base imm) .load).finish s fun _ => .next (s.cacheEffect op).advance
        else .next (s.cacheEffect op).advance
      else if Config.cacheUnlistedRaisesRI then raise .ri s
      else .next s.advance) := rfl

/-- A listed operation completes at an address that translates, whether or not it is translated. -/
theorem exec_cache_listed {s : State} {base op : BitVec 5} {imm : BitVec 16} {g : Target}
    (usable : s.copUsable 0 = true) (listed : cacheListed op = true)
    (translates : s.translate (s.ea base imm) .load = .ok g) :
    exec (.cache base op imm) s = .next (s.setCp0 (s.cacheEffect op).cp0).advance := by
  rw [exec_cache, needCop_on usable, if_pos listed, translates, ← State.cacheEffect_fields]
  exact ite_self _

theorem toNat_and_lowByte_lt (v : Word) : (v &&& 0xFF#32).toNat < 256 := by
  rw [BitVec.toNat_and]
  exact Nat.lt_of_le_of_lt Nat.and_le_right (by decide)

/-- Index Load Tag fills the tag and data registers, and the low bits of ErrCtl. -/
theorem State.cacheEffect_loadTag (s : State) {op : BitVec 5} (load : cacheLoadTag op = true) :
    (s.cacheEffect op).cp0 = { s.cp0 with
      tagLo := (s.cacheEffect op).cp0.tagLo, tagHi := (s.cacheEffect op).cp0.tagHi
      dataLo := (s.cacheEffect op).cp0.dataLo, dataHi := (s.cacheEffect op).cp0.dataHi
      errCtl := (s.cacheEffect op).cp0.errCtl } ∧ (s.cacheEffect op).cp0.errCtl.toNat < 256 := by
  rw [State.cacheEffect, if_pos load]
  exact ⟨rfl, toNat_and_lowByte_lt _⟩

/-- Index Load Data fills the data registers, and the low bits of ErrCtl. -/
theorem State.cacheEffect_loadData (s : State) {op : BitVec 5} (notTag : cacheLoadTag op = false)
    (load : cacheLoadData op = true) :
    (s.cacheEffect op).cp0 = { s.cp0 with
      dataLo := (s.cacheEffect op).cp0.dataLo, dataHi := (s.cacheEffect op).cp0.dataHi
      errCtl := (s.cacheEffect op).cp0.errCtl } ∧ (s.cacheEffect op).cp0.errCtl.toNat < 256 := by
  rw [State.cacheEffect, if_neg (by simp [notTag]), if_pos load]
  exact ⟨rfl, toNat_and_lowByte_lt _⟩

/-! ### RDHWR (45_cp0_priv.md rule R516) -/

theorem exec_rdhwr (s : State) (rt rd : BitVec 5) :
    exec (.rdhwr rt rd) s = if decide (3 < rd.toNat) then raise .ri s
      else if s.isKernel || s.cu 0 || s.cp0.hwrEna.getLsbD rd.toNat then s.putGpr rt (s.hardwareRegister rd)
      else raise .ri s := rfl

/-- One of the four registers, to a program that may read it. -/
theorem exec_rdhwr_allowed {s : State} {rd : BitVec 5} (rt : BitVec 5) (few : rd.toNat ≤ 3)
    (allowed : s.isKernel = true ∨ s.cu 0 = true ∨ s.cp0.hwrEna.getLsbD rd.toNat = true) :
    exec (.rdhwr rt rd) s = s.putGpr rt (s.hardwareRegister rd) := by
  rw [exec_rdhwr, if_neg (by simpa using few), if_pos (by simpa [or_assoc] using allowed)]

theorem exec_rdhwr_high {s : State} {rd : BitVec 5} (rt : BitVec 5) (many : 3 < rd.toNat) :
    exec (.rdhwr rt rd) s = raise .ri s := if_pos (decide_eq_true many)

theorem exec_rdhwr_denied {s : State} {rd : BitVec 5} (rt : BitVec 5) (user : s.isKernel = false)
    (cu0 : s.cu 0 = false) (enable : s.cp0.hwrEna.getLsbD rd.toNat = false) :
    exec (.rdhwr rt rd) s = raise .ri s := by
  rw [exec_rdhwr, user, cu0, enable]
  exact ite_self _

end Sys2Proof.Machine

namespace Sys2Proof.Claims
open Sys2Proof.Machine

/-- Settles O37: the Index Load operations are listed and complete in one effect; RDHWR decides by the register's
number, then by the mode and the enables. -/
theorem cacheLoadOperationsAndHardwareRegisters : Obligations.CacheLoadOperationsAndHardwareRegisters := by
  intro s base rt rd imm g
  refine ⟨fun usable translates => ⟨fun op row => ?tag, fun op row => ?data⟩, fun unusable op =>
    needCop_off unusable _, fun allowed => ?allowed, exec_rdhwr_high rt, exec_rdhwr_denied rt⟩
  case tag =>
    have load : ∀ op ∈ [0b00101#5, 0b00111], cacheListed op = true ∧ cacheLoadTag op = true := by decide
    obtain ⟨listed, tag⟩ := load op row
    exact putsCp0With_of_setCp0 (exec_cache_listed usable listed translates) (s.cacheEffect_loadTag tag)
  case data =>
    have load : ∀ op ∈ [0b11001#5, 0b11011],
        cacheListed op = true ∧ cacheLoadTag op = false ∧ cacheLoadData op = true := by decide
    obtain ⟨listed, notTag, data⟩ := load op row
    exact putsCp0With_of_setCp0 (exec_cache_listed usable listed translates) (s.cacheEffect_loadData notTag data)
  case allowed =>
    have runs (few : rd.toNat ≤ 3) := putsGpr_of_putGpr (exec_rdhwr_allowed rt few allowed)
    refine ⟨?number, ?step, ?count, ?resolution⟩ <;> rintro rfl
    case step => exact ⟨_, runs (by decide)⟩
    all_goals exact runs (by decide)

end Sys2Proof.Claims
end

section
/-!
PROOFS of 60_exceptions.md, first part: exception entry, the vectors, and the address registers (O30 to O32).
-/
namespace Sys2Proof.Machine
open Sys2Proof.Claims

/-! ### Exception entry (60_exceptions.md rules R960, R961) -/

/-- Cause after exception entry. -/
theorem State.takeException_cause (s : State) (e : Exc) : (s.takeException e).cp0.cause = s.excCause e := by
  cases e <;> rfl

/-- EPC after exception entry (60_exceptions.md rule R961). -/
theorem State.takeException_epc (s : State) (e : Exc) :
    (s.takeException e).cp0.epc = if s.exl then s.cp0.epc else s.restartPc := by
  cases e <;> rfl

/-- Where exception entry goes (60_exceptions.md rule R962). -/
theorem State.takeException_pc (s : State) (e : Exc) :
    (s.takeException e).pc = s.vectorBase + if s.exl then 0x180 else s.vectorOffset e := rfl

theorem getLsbD_putBit {w : Nat} (x : BitVec w) (i : Nat) (v : Bool) {b : Nat} (inside : b < w) :
    (putBit x i v).getLsbD b = if b = i then v else x.getLsbD b := by
  rw [putBit, getLsbD_putField _ _ _ _ inside]
  by_cases here : b = i
  · subst here
    rw [if_pos (by omega), if_pos rfl, Nat.sub_self, BitVec.getLsbD_ofNat, decide_eq_true (by omega)]
    cases v <;> rfl
  · rw [if_neg (by omega), if_neg here]

/-- What entry leaves in Cause: the fields ExcCode and CE, BD with EXL = 0, and the old bits elsewhere. -/
theorem State.getLsbD_excCause (s : State) (e : Exc) {b : Nat} (small : b < 32) :
    (s.excCause e).getLsbD b =
      if 2 ≤ b ∧ b < 7 then e.code.getLsbD (b - 2)
      else if 28 ≤ b ∧ b < 30 then (s.excUnit e).getLsbD (b - 28)
      else if b = 31 ∧ s.exl = false then s.inDelaySlot
      else s.cp0.cause.getLsbD b := by
  unfold State.excCause
  rw [getLsbD_putField _ _ _ _ small, getLsbD_putField _ _ _ _ small]
  by_cases code : 2 ≤ b ∧ b < 7
  · rw [if_pos (by omega), if_pos code, BitVec.getLsbD_setWidth, decide_eq_true (by omega), Bool.true_and]
  rw [if_neg (by omega), if_neg code]
  by_cases unit : 28 ≤ b ∧ b < 30
  · rw [if_pos (by omega), if_pos unit, BitVec.getLsbD_setWidth, decide_eq_true (by omega), Bool.true_and]
  rw [if_neg (by omega), if_neg unit]
  cases s.exl with
  | true => rw [if_pos rfl, if_neg (by simp)]
  | false =>
    rw [if_neg (by simp), getLsbD_putBit _ _ _ small]
    simp only [and_true]

/-- Exception entry at the general vector, for an exception that has no vector of its own. -/
theorem entersGeneral_of_vector {s : State} {e : Exc} (general : s.vectorOffset e = 0x180) :
    EntersGeneral s e e.code := by
  refine ⟨s.takeException_excCode e, ?_, fun level => ⟨?_, ?_⟩⟩
  · rw [State.takeException_pc, general, ite_self]
  · rw [State.takeException_epc, level]
    rfl
  · rw [State.takeException_cause, State.getLsbD_excCause _ _ (by decide), level]
    rfl

/-! ### The vectors (60_exceptions.md rules R962, R963, R978) -/

theorem vectorBase_eq_baseOf (s : State) : s.vectorBase = baseOf s := by
  have word (v : Word) : v &&& 0xFFFFF000#32 = (v.extractLsb' 12 20 ++ 0#12 : BitVec 32) := by
    have mask : ∀ i < 32, (0xFFFFF000#32).getLsbD i = decide (12 ≤ i) := by decide
    apply BitVec.eq_of_getLsbD_eq
    intro i hi
    rw [BitVec.getLsbD_and, mask i hi, BitVec.getLsbD_append, BitVec.getLsbD_extractLsb', BitVec.getLsbD_zero]
    by_cases low : i < 12
    · simp [low]
    · simp [low, show i - 12 < 20 by omega, show 12 + (i - 12) = i by omega, Nat.le_of_not_lt low]
  unfold State.vectorBase baseOf
  rw [word]
  rfl

/-- The region test of the refill vector, by address. -/
theorem State.xtlb_eq_regionBit (s : State) (va : Dword) : s.xtlb va = regionBit s va := by
  have user : va.extractLsb' 62 2 = 0#2 ↔ va.toNat < 2 ^ 62 := by
    rw [← BitVec.toNat_inj, BitVec.extractLsb'_toNat, Nat.shiftRight_eq_div_pow]
    simp only [BitVec.toNat_ofNat]
    omega
  have supervisor : (va.extractLsb' 62 2 = 1#2 || va.extractLsb' 29 35 = 0x7FFFFFFFE#35) = true ↔
      (2 ^ 62 ≤ va.toNat ∧ va.toNat < 2 ^ 63) ∨
        (0xFFFFFFFFC0000000 ≤ va.toNat ∧ va.toNat < 0xFFFFFFFFE0000000) := by
    rw [Bool.or_eq_true, decide_eq_true_iff, decide_eq_true_iff, ← BitVec.toNat_inj, ← BitVec.toNat_inj,
      BitVec.extractLsb'_toNat, BitVec.extractLsb'_toNat, Nat.shiftRight_eq_div_pow, Nat.shiftRight_eq_div_pow]
    simp only [BitVec.toNat_ofNat]
    omega
  unfold State.xtlb regionBit
  by_cases low : va.toNat < 2 ^ 62
  · rw [if_pos (user.2 low), if_pos low]
    rfl
  · rw [if_neg (mt user.1 low), if_neg low]
    exact if_congr (supervisor.trans (by omega)) rfl rfl

/-- The highest bit that is set (60_exceptions.md rule R978). -/
theorem highestBit_eq {v : BitVec 8} {n : Nat} (set : v.getLsbD n = true)
    (highest : ∀ k, n < k → v.getLsbD k = false) : highestBit v = n := by
  have low : 2 ^ n ≤ v.toNat := Nat.ge_two_pow_of_testBit set
  have high : v.toNat < 2 ^ (n + 1) := Nat.lt_pow_two_of_testBit _ fun k above => highest k above
  exact (Nat.log2_eq_iff (by have := Nat.two_pow_pos n; omega)).2 ⟨low, high⟩

theorem State.interruptOffset_general {s : State} (iv : s.cp0.cause.getLsbD 23 = false) :
    s.interruptOffset = 0x180 := by
  rw [State.interruptOffset, iv]
  rfl

theorem State.interruptOffset_vectored {s : State} (iv : s.cp0.cause.getLsbD 23 = true) :
    s.interruptOffset = BitVec.ofNat 64 (0x200 +
      highestBit (s.ip &&& s.im) * ((s.cp0.intCtl.extractLsb' 5 5).toNat * 32)) := if_pos iv

theorem State.vectorOffset_refill (s : State) (store : Bool) (va : Dword) :
    s.vectorOffset (.tlbRefill store va) = if regionBit s va then 0x080 else 0x000 := by
  rw [← State.xtlb_eq_regionBit]
  rfl

theorem State.vectorOffset_int (s : State) : s.vectorOffset .int = s.interruptOffset := rfl

/-- With EXL = 0 the exception's own vector is used. -/
theorem State.takeException_pc_of_exl {s : State} (level : s.exl = false) (e : Exc) :
    (s.takeException e).pc = baseOf s + s.vectorOffset e := by
  rw [State.takeException_pc, level, vectorBase_eq_baseOf]
  rfl

/-! ### The address registers (60_exceptions.md rules R940, R941) -/

/-- A TLB exception puts region and page number into their fields. -/
theorem recordsAddress_tlbFault (s : State) (c : Cp0) (va : Dword) : RecordsAddress c (s.tlbFault c va) va := by
  refine ⟨rfl, ?context, ?xContext, ?entryHi⟩
  all_goals
    apply BitVec.eq_of_getLsbD_eq
    intro i hi
    simp only [State.tlbFault, getLsbD_putField _ _ _ _ hi, BitVec.getLsbD_append, BitVec.getLsbD_extractLsb',
      BitVec.getLsbD_ushiftRight]
  case context => grind
  case xContext => grind
  case entryHi => grind

end Sys2Proof.Machine

namespace Sys2Proof.Claims
open Sys2Proof.Machine

/-- Settles O30: what entry leaves in Status, Cause and EPC, bit by bit; the other fields are those of `s`. -/
theorem exceptionEntrySavesAndMasks : Obligations.ExceptionEntrySavesAndMasks := by
  intro s e
  refine ⟨?status, ?code, fun n unit => ?unit, fun low => ⟨?epc, ?slot⟩, fun high => ⟨?keptEpc, ?keptSlot, ?pc⟩,
    fun b other => ?other, rfl, rfl, rfl, ?registers⟩
  case status => cases e <;> rfl
  case code =>
    rw [State.takeException_excCode]
    cases e with
    | tlbRefill store | tlbInvalid store | addressError store | boundError store => cases store <;> rfl
    | _ => rfl
  case unit =>
    subst unit
    rw [State.takeException_cause]
    apply BitVec.eq_of_getLsbD_eq
    intro i hi
    rw [BitVec.getLsbD_extractLsb', State.getLsbD_excCause _ _ (by omega), if_neg (by omega), if_pos (by omega),
      decide_eq_true hi, Nat.add_sub_cancel_left]
    rfl
  case epc =>
    rw [State.takeException_epc, low]
    rfl
  case slot => rw [State.takeException_cause, State.getLsbD_excCause _ _ (by decide), low]; rfl
  case keptEpc => rw [State.takeException_epc, high]; rfl
  case keptSlot => rw [State.takeException_cause, State.getLsbD_excCause _ _ (by decide), high]; rfl
  case pc => rw [State.takeException_pc, high]; rfl
  case other =>
    rw [State.takeException_cause, State.getLsbD_excCause _ _ (by omega), if_neg (by omega), if_neg (by omega),
      if_neg (by omega)]
  case registers => cases e <;> rfl

/-- Settles O31: the base, and the offset by kind of exception. -/
theorem exceptionVectorsByBaseAndOffset : Obligations.ExceptionVectorsByBaseAndOffset := by
  intro s
  refine ⟨fun e high => ?_, fun low => ⟨fun store va => ?refill, fun iv => ?general, fun iv n _ set highest =>
    ?vectored, fun e notInt notRefill => ?other⟩⟩
  · rw [State.takeException_pc, high, vectorBase_eq_baseOf]
    rfl
  all_goals rw [State.takeException_pc_of_exl low]
  case refill => rw [State.vectorOffset_refill]
  case general => rw [State.vectorOffset_int, State.interruptOffset_general iv]
  case vectored =>
    rw [State.vectorOffset_int, State.interruptOffset_vectored iv, highestBit_eq set highest, Nat.mul_comm 32]
  case other =>
    cases e with
    | int => exact absurd rfl notInt
    | tlbRefill store va => exact absurd rfl (notRefill store va)
    | _ => rfl

/-- Settles O32: the TLB exceptions write the address registers in one way, an Address Error BadVAddr only, the
listed exceptions none. -/
theorem failingAddressIsRecorded : Obligations.FailingAddressIsRecorded := by
  intro s store va
  refine ⟨State.fetch_misaligned, recordsAddress_tlbFault _ _ _, recordsAddress_tlbFault _ _ _,
    recordsAddress_tlbFault _ _ _, rfl, ⟨rfl, rfl, rfl, rfl, rfl⟩, ?_⟩
  simp only [List.forall_mem_cons]
  refine ⟨?_, ?_, ?_, ?_, ?_, ?_, ?_, ?_, ?_, ?_, ?_, ?_, ?_, nofun⟩
  all_goals exact ⟨rfl, rfl, rfl, rfl, rfl, rfl⟩

end Sys2Proof.Claims
end

section
/-!
PROOFS of 46_misc_trap_cmov.md: traps, conditional moves, system calls, hints and barriers (O17 to O20).
-/
namespace Sys2Proof.Machine
open Sys2Proof.Claims

/-! ### Instructions that write nothing -/

theorem justGoesOn_of_advance {i : Instr} {s : State} (runs : exec i s = .next s.advance) : JustGoesOn i s :=
  ⟨_, runs, s.onlyGoesOn_advance⟩

/-! ### Conditional traps (46_misc_trap_cmov.md rule R547) -/

theorem trapsIff_of_trapIf {i : Instr} {s : State} {c : Prop} {b : Bool} (test : b = true ↔ c)
    (runs : exec i s = s.trapIf b) : TrapsIff i s c := by
  constructor
  · intro holds
    exact runs.trans (if_pos (test.2 holds))
  · intro fails
    exact justGoesOn_of_advance (runs.trans (if_neg (mt test.1 fails)))

/-- Each comparison of the table is the model's test of two registers. -/
theorem traps_registers : ∀ p ∈ traps, ∀ (s : State) (rs rt : BitVec 5) (code : BitVec 10),
    TrapsIff (p.1 rs rt code) s (p.2.2 (s.readGpr rs) (s.readGpr rt)) := by
  simp only [traps, List.forall_mem_cons]
  exact ⟨fun _ _ _ _ => trapsIff_of_trapIf BitVec.sle_iff_toInt_le rfl,
    fun _ _ _ _ => trapsIff_of_trapIf BitVec.ule_iff_toNat_le rfl,
    fun _ _ _ _ => trapsIff_of_trapIf BitVec.slt_iff_toInt_lt rfl,
    fun _ _ _ _ => trapsIff_of_trapIf BitVec.ult_iff_toNat_lt rfl,
    fun _ _ _ _ => trapsIff_of_trapIf beq_iff_eq rfl, fun _ _ _ _ => trapsIff_of_trapIf bne_iff_ne rfl, nofun⟩

/-- So it is of a register and the extended immediate. -/
theorem traps_immediate : ∀ p ∈ traps, ∀ (s : State) (rs : BitVec 5) (imm : BitVec 16),
    TrapsIff (p.2.1 rs imm) s (p.2.2 (s.readGpr rs) (imm.signExtend 64)) := by
  simp only [traps, List.forall_mem_cons]
  exact ⟨fun _ _ _ => trapsIff_of_trapIf BitVec.sle_iff_toInt_le rfl,
    fun _ _ _ => trapsIff_of_trapIf BitVec.ule_iff_toNat_le rfl,
    fun _ _ _ => trapsIff_of_trapIf BitVec.slt_iff_toInt_lt rfl,
    fun _ _ _ => trapsIff_of_trapIf BitVec.ult_iff_toNat_lt rfl,
    fun _ _ _ => trapsIff_of_trapIf beq_iff_eq rfl, fun _ _ _ => trapsIff_of_trapIf bne_iff_ne rfl, nofun⟩

/-! ### Conditional moves (46_misc_trap_cmov.md rules R560 to R563) -/

theorem conditionCode_eq_fcc (s : State) (cc : BitVec 3) : conditionCode s cc = s.fcc cc := by
  have zero : cc = 0 ↔ cc.toNat = 0 := BitVec.toNat_inj.symm
  simp only [conditionCode, State.fcc, fccBit, zero]

/-- Going on leaves a register with the value it has. -/
theorem State.writesGpr_self (s : State) (rd : BitVec 5) : s.writesGpr s.advance rd (s.readGpr rd) := by
  refine ⟨⟨rfl, rfl, rfl⟩, fun _ => rfl, fun r => ?_, rfl⟩
  rw [State.advance_readGpr]
  split
  · next written => rw [written.1]
  · rfl

theorem putsGpr_of_moveIf {i : Instr} {s : State} {rd rs : BitVec 5} {b : Bool} {c : Prop} [Decidable c]
    (test : b = true ↔ c) (runs : exec i s = s.moveIf b rd rs) :
    PutsGpr i s rd (if c then s.readGpr rs else s.readGpr rd) := by
  by_cases moves : c
  · rw [if_pos moves]
    rw [State.moveIf, if_pos (test.2 moves)] at runs
    exact ⟨_, runs, State.writesGpr_advance s rd _⟩
  · rw [if_neg moves]
    rw [State.moveIf, if_neg (mt test.1 moves)] at runs
    exact ⟨_, runs, s.writesGpr_self rd⟩

/-- MOVF and MOVT look at the coprocessor first (60_exceptions.md rule R947). -/
theorem exec_movf (s : State) (rs : BitVec 5) (cc : BitVec 3) (rd : BitVec 5) :
    exec (.movf rs cc rd) s = needCop 1 s (s.moveIf (!conditionCode s cc) rd rs) := by
  rw [conditionCode_eq_fcc]
  rfl

theorem exec_movt (s : State) (rs : BitVec 5) (cc : BitVec 3) (rd : BitVec 5) :
    exec (.movt rs cc rd) s = needCop 1 s (s.moveIf (conditionCode s cc) rd rs) := by
  rw [conditionCode_eq_fcc]
  rfl

theorem needCop1_on {s : State} (h : s.cu 1 = true) (k : Out) : needCop 1 s k = k := needCop_on (n := 1) h k

theorem needCop1_off {s : State} (h : s.cu 1 = false) (k : Out) :
    needCop 1 s k = .next (s.takeException (.cpU 1)) := needCop_off (n := 1) h k

/-! ### Hints and barriers (46_misc_trap_cmov.md rules R540, R543 to R546) -/

theorem exec_prefx (s : State) (base index hint : BitVec 5) :
    exec (.prefx base index hint) s =
      if s.copUsable 1 || !Config.prefxRaisesCpU then .next s.advance else raise (.cpU 1) s := rfl

theorem exec_synci (s : State) (base : BitVec 5) (imm : BitVec 16) :
    exec (.synci base imm) s = if Config.syncITranslates then
      (s.translate (s.ea base imm) .load).finish s fun _ => .next s.advance else .next s.advance := rfl

/-- SYNCI at an address that translates goes on, whether or not it is translated (log 23). -/
theorem exec_synci_of_translates {s : State} {base : BitVec 5} {imm : BitVec 16} {g : Target}
    (translates : s.translate (s.ea base imm) .load = .ok g) : exec (.synci base imm) s = .next s.advance := by
  rw [exec_synci, translates]
  exact ite_self _

/-- The operations that fill no register have no effect (45_cp0_priv.md rule R512; log 12). -/
theorem State.cacheEffect_quiet (s : State) : ∀ op ∈ quietCacheOps, cacheListed op = true ∧ s.cacheEffect op = s := by
  intro op row
  have quiet : ∀ op ∈ quietCacheOps, cacheListed op = true ∧ cacheLoadTag op = false ∧ cacheLoadData op = false := by
    decide
  obtain ⟨listed, notTag, notData⟩ := quiet op row
  exact ⟨listed, by rw [State.cacheEffect, if_neg (by simp [notTag]), if_neg (by simp [notData])]⟩

theorem exec_sync_zero {s : State} (usable : s.copUsable 0 = true) :
    exec (.sync 0) s = .next s.synchronise.advance :=
  have allowed : (s.copUsable 0 || !Config.syncUserRaisesCpU) = true := by rw [usable, Bool.true_or]
  if_pos allowed

theorem exec_sync_other {s : State} {stype : BitVec 5} (usable : s.copUsable 0 = true) (other : stype ≠ 0) :
    exec (.sync stype) s = raise .ri s := by
  have allowed : (!s.copUsable 0 && Config.syncUserRaisesCpU && Config.syncPrivilegeFirst) = false := by
    rw [usable, Bool.not_true, Bool.false_and, Bool.false_and]
  exact (if_neg other).trans (if_neg (by rw [Bool.not_eq_true]; exact allowed))

end Sys2Proof.Machine

namespace Sys2Proof.Claims
open Sys2Proof.Machine

/-- Settles O17: each of the twelve is `State.trapIf` of its comparison. -/
theorem conditionalTraps : Obligations.ConditionalTraps :=
  fun s p row => ⟨traps_registers p row s, traps_immediate p row s⟩

/-- Settles O18: each of the four is `State.moveIf` of its condition, MOVF and MOVT behind coprocessor 1. -/
theorem conditionalMoves : Obligations.ConditionalMoves := by
  intro s rs rt rd cc
  refine ⟨putsGpr_of_moveIf bne_iff_ne rfl, putsGpr_of_moveIf beq_iff_eq rfl, fun usable => ⟨?_, ?_⟩,
    fun unusable => ⟨?_, ?_⟩⟩
  · exact putsGpr_of_moveIf (Bool.not_eq_true' _).to_iff ((exec_movf s rs cc rd).trans (needCop1_on usable _))
  · exact putsGpr_of_moveIf Iff.rfl ((exec_movt s rs cc rd).trans (needCop1_on usable _))
  · exact (exec_movf s rs cc rd).trans (needCop1_off unusable _)
  · exact (exec_movt s rs cc rd).trans (needCop1_off unusable _)

/-- Settles O19: both raise at once, and neither exception has a vector of its own. -/
theorem systemCallAndBreakpointTakeTheirException : Obligations.SystemCallAndBreakpointTakeTheirException :=
  fun _ _ => ⟨rfl, rfl, entersGeneral_of_vector rfl, entersGeneral_of_vector rfl⟩

/-- Settles O20: the hints end in `State.advance` behind their checks, SYNC in `State.synchronise`. -/
theorem hintsAndBarriersOnlyAdvance : Obligations.HintsAndBarriersOnlyAdvance := by
  intro s base index hint stype imm code
  refine ⟨justGoesOn_of_advance rfl, justGoesOn_of_advance rfl, justGoesOn_of_advance rfl,
    justGoesOn_of_advance rfl, fun usable => ?prefx, fun usable outside => ?wait, fun g translates => ?address,
    fun usable => ⟨?sync, fun other => exec_sync_other usable other⟩⟩
  case prefx =>
    refine justGoesOn_of_advance ((exec_prefx s base index hint).trans (if_pos ?_))
    rw [show s.copUsable 1 = true from usable, Bool.true_or]
  case wait =>
    refine justGoesOn_of_advance ?_
    rw [exec_wait, needCop_on usable, notInSlot_out outside]
  case address =>
    refine ⟨justGoesOn_of_advance (exec_synci_of_translates translates), fun usable op row => ?_⟩
    obtain ⟨listed, quiet⟩ := s.cacheEffect_quiet op row
    have runs := exec_cache_listed usable listed translates
    rw [quiet] at runs
    exact justGoesOn_of_advance runs
  case sync =>
    refine ⟨_, exec_sync_zero usable, ⟨by simp, by simp, rfl⟩, ⟨fun a => ?_, by simp⟩, ?_⟩
    · simpa [State.synchronise] using s.readByte_drain a
    · unfold State.sameButFlow
      rw [State.synchronise_fields]
      rfl

end Sys2Proof.Claims
end

section
/-!
PROOFS of 60_exceptions.md, second part, and of 70_reset_and_hazards.md: when an interrupt is pending, where a step
enters it, and the resets (O53, O54).
-/
namespace Sys2Proof.Machine
open Sys2Proof.Claims

/-! ### Pending interrupts (60_exceptions.md rules R970, R971, R975) -/

theorem State.ip_getLsbD (s : State) {n : Nat} (small : n < 8) : s.ip.getLsbD n = true ↔ Requests s n := by
  simp only [State.ip, BitVec.getLsbD_append, BitVec.getLsbD_extractLsb', BitVec.getLsbD_ofBool, Requests]
  by_cases software : n < 2
  · simp [software]
  · by_cases line : n < 7
    · simp [software, line, show n - 2 < 5 by omega]
    · obtain rfl : n = 7 := by omega
      simp [State.ti, State.pci, or_assoc]

theorem State.im_getLsbD (s : State) {n : Nat} (small : n < 8) :
    s.im.getLsbD n = s.cp0.status.getLsbD (8 + n) := by
  rw [State.im, BitVec.getLsbD_extractLsb', decide_eq_true small, Bool.true_and]

/-- The requests that the mask lets through. -/
theorem State.enabled_getLsbD (s : State) {n : Nat} (small : n < 8) :
    (s.ip &&& s.im).getLsbD n = true ↔ EnabledRequest s n := by
  rw [BitVec.getLsbD_and, Bool.and_eq_true, s.ip_getLsbD small, s.im_getLsbD small]
  rfl

theorem ne_zero_iff_getLsbD {w : Nat} (v : BitVec w) : (v != 0) = true ↔ ∃ n, n < w ∧ v.getLsbD n = true := by
  rw [bne_iff_ne]
  constructor
  · intro nonzero
    by_contra none
    refine nonzero (BitVec.eq_of_getLsbD_eq fun i hi => ?_)
    have clear : ¬ v.getLsbD i = true := fun set => none ⟨i, hi, set⟩
    simpa using clear
  · rintro ⟨n, -, set⟩ rfl
    simp at set

theorem State.interruptPending_iff (s : State) : s.interruptPending = true ↔
    s.cp0.status.getLsbD 0 = true ∧ s.cp0.status.getLsbD 1 = false ∧ s.cp0.status.getLsbD 2 = false ∧
      ∃ n, n < 8 ∧ EnabledRequest s n := by
  have enabled : (s.ip &&& s.im != 0) = true ↔ ∃ n, n < 8 ∧ EnabledRequest s n :=
    (ne_zero_iff_getLsbD _).trans (exists_congr fun _ => and_congr_right fun small => s.enabled_getLsbD small)
  rw [← enabled, State.interruptPending]
  simp only [Bool.and_eq_true, Bool.not_eq_true', and_assoc, State.ie, State.exl, State.erl]

/-- The highest enabled request is the highest bit of the masked requests. -/
theorem highestBit_of_highestRequest {s : State} {n : Nat} (highest : HighestRequest s n) :
    highestBit (s.ip &&& s.im) = n := by
  obtain ⟨small, enabled, above⟩ := highest
  refine highestBit_eq ((s.enabled_getLsbD small).2 enabled) fun k higher => ?_
  by_cases inside : k < 8
  · exact eq_false_of_ne_true (mt (s.enabled_getLsbD inside).1 (above k higher inside))
  · exact BitVec.getLsbD_of_ge _ _ (Nat.le_of_not_lt inside)

/-! ### A step with an interrupt (00_scope.md rule R14 step 2) -/

/-- Without a reset input, a step decides between the interrupt and the instruction. -/
theorem step_of_noReset {s : State} (cold : s.coldReset = false) (soft : s.softReset = false) (nmi : s.nmi = false)
    (sst : (s.cp0.debug).getLsbD 8 = false) :
    step s = if s.interruptPending && s.recognises then s.enterInterrupt
      else finishStep s.opened s.opened.runInstruction := by
  simp only [step, State.singleSteps, cold, soft, nmi, sst, Bool.false_eq_true, if_false]

theorem step_singleSteps {s : State} (cold : s.coldReset = false) (soft : s.softReset = false) (nmi : s.nmi = false)
    (sst : (s.cp0.debug).getLsbD 8 = true) : step s = .refused .debugMode := by
  simp only [step, State.singleSteps, cold, soft, nmi, sst, Bool.false_eq_true, if_false, if_true]

/-- The largest delay recognises the interrupt (60_exceptions.md rule R976; log 14). -/
theorem State.recognises_of_waited {s : State} (waited : Config.maxRecognitionDelay ≤ s.intWait) :
    s.recognises = true := by
  rw [State.recognises, decide_eq_true waited, Bool.or_true]

theorem State.opened_intWait {s : State} (pending : s.interruptPending = true) :
    s.opened.intWait = s.intWait + 1 := if_pos pending

theorem State.enterInterrupt_raise {s : State} (raises : s.takeInterrupt = raise .int s) :
    s.enterInterrupt = .next { s.takeException .int with intWait := 0, freeCounter := s.freeCounter + 1 } := by
  rw [State.enterInterrupt, raises]
  rfl

/-- Entry of an interrupt with EXL = 0 that raises. -/
theorem interruptEntered_of_raise {s : State} {offset : Dword} (low : s.exl = false)
    (raises : s.takeInterrupt = raise .int s) (goes : s.interruptOffset = offset) :
    InterruptEntered s (baseOf s + offset) := by
  have pc : (s.takeException .int).pc = baseOf s + offset := by
    rw [State.takeException_pc_of_exl low, State.vectorOffset_int, goes]
  refine ⟨_, State.enterInterrupt_raise raises, pc, congrArg (· + 4) pc, rfl, s.takeException_excCode .int,
    ?_, rfl, ?_, fun _ => rfl, fun _ => rfl⟩
  · show (s.takeException .int).cp0.cause.getLsbD 31 = _
    rw [State.takeException_cause, State.getLsbD_excCause _ _ (by decide), low]
    rfl
  · show (s.takeException .int).cp0.epc = _
    rw [State.takeException_epc, low]
    rfl

theorem State.takeInterrupt_general {s : State} (iv : s.cp0.cause.getLsbD 23 = false) :
    s.takeInterrupt = raise .int s := if_neg (by rw [iv]; exact Bool.false_ne_true)

/-- With IV = 1 the spacing decides (11_cp0_registers.md rule R123, 60_exceptions.md rule R978). -/
theorem State.takeInterrupt_vectored {s : State} (iv : s.cp0.cause.getLsbD 23 = true) :
    s.takeInterrupt = if vectorSpacing s ∉ [0, 1, 2, 4, 8, 16] then .fault .illegalVectorSpacing
      else if s.cp0.status.getLsbD 22 = true ∧ vectorSpacing s ≠ 0 then .fault .vectoredWithBev
      else raise .int s := by
  rw [State.takeInterrupt, if_pos iv]
  refine if_congr ?_ rfl (if_congr ?_ rfl rfl)
  · rw [Bool.not_eq_true', ← Bool.not_eq_true, List.contains_iff_mem]
    rfl
  · rw [Bool.and_eq_true, bne_iff_ne]
    rfl

theorem State.enterInterrupt_fault {s : State} {f : Fault} (faults : s.takeInterrupt = .fault f) :
    s.enterInterrupt = .fault f := by rw [State.enterInterrupt, faults]

/-! ### The resets (70_reset_and_hazards.md rules R1021, R1023, R1024) -/

/-- EBase keeps its top bits, whatever a cold reset leaves of its other fields. -/
theorem ebase_topBits (v w : Word) :
    (0x80000000#32 ||| (v &&& 0x3FF#32) ||| (w &&& 0x3FFFF000#32)).extractLsb' 30 2 = 2#2 := by
  have low : ∀ i < 2, (0x3FF#32).getLsbD (30 + i) = false ∧ (0x3FFFF000#32).getLsbD (30 + i) = false ∧
      (0x80000000#32).getLsbD (30 + i) = (2#2).getLsbD i := by decide
  apply BitVec.eq_of_getLsbD_eq
  intro i hi
  obtain ⟨number, base, top⟩ := low i hi
  rw [BitVec.getLsbD_extractLsb', BitVec.getLsbD_or, BitVec.getLsbD_or, BitVec.getLsbD_and, BitVec.getLsbD_and,
    number, base, top, decide_eq_true hi]
  simp only [Bool.and_false, Bool.or_false, Bool.true_and]

theorem resetValues_takeColdReset (s : State) : ResetValues s.takeColdReset :=
  ⟨rfl, rfl, rfl, rfl, rfl, rfl, rfl, rfl, rfl, rfl, rfl, ebase_topBits _ _, rfl, rfl, rfl, rfl, rfl, rfl⟩

theorem resetValues_reset : ResetValues State.reset :=
  ⟨rfl, rfl, rfl, rfl, rfl, rfl, rfl, rfl, rfl, rfl, rfl, rfl, rfl, rfl, rfl, rfl, rfl, rfl⟩

theorem State.takeColdReset_errorEpc (s : State) : s.takeColdReset.cp0.errorEpc = s.pc := by
  rw [State.takeColdReset, State.coldCp0]

theorem State.takeColdReset_mem (s : State) : s.takeColdReset.mem = s.mem := by
  rw [State.takeColdReset, State.toResetVector]

theorem step_coldReset {s : State} (cold : s.coldReset = true) : step s = .next s.takeColdReset := if_pos cold

theorem step_softReset {s : State} (cold : s.coldReset = false) (soft : s.softReset = true) :
    step s = .next s.takeSoftReset := by
  simp only [step, cold, soft, Bool.false_eq_true, if_false, if_true]

theorem step_nmi {s : State} (cold : s.coldReset = false) (soft : s.softReset = false) (nmi : s.nmi = true) :
    step s = .next s.takeNmi := by
  simp only [step, cold, soft, nmi, Bool.false_eq_true, if_false, if_true]

/-- Status after a soft reset and after an NMI (70_reset_and_hazards.md rules R1023, R1024). -/
theorem State.takeSoftReset_status (s : State) {b : Nat} (inside : b < 32) :
    s.takeSoftReset.cp0.status.getLsbD b =
      if b = 19 then false else s.cp0.status.getLsbD b || (0x00500004#32).getLsbD b := by
  rw [← BitVec.getLsbD_or]
  exact getLsbD_putBit _ _ _ inside

theorem State.takeNmi_status (s : State) {b : Nat} (inside : b < 32) :
    s.takeNmi.cp0.status.getLsbD b =
      if b = 20 then (s.free Slot.statusSR).getLsbD 0 else s.cp0.status.getLsbD b || (0x00480004#32).getLsbD b := by
  rw [← BitVec.getLsbD_or]
  exact getLsbD_putBit _ _ _ inside

/-- The bits of Status that neither reset touches. -/
theorem resetMasks_clear : ∀ b < 32, b ≠ 2 ∧ b ≠ 19 ∧ b ≠ 20 ∧ b ≠ 22 →
    (0x00500004#32).getLsbD b = false ∧ (0x00480004#32).getLsbD b = false := by decide

theorem State.takeSoftReset_status_kept (s : State) {b : Nat} (n2 : b ≠ 2) (n19 : b ≠ 19) (n20 : b ≠ 20)
    (n22 : b ≠ 22) : s.takeSoftReset.cp0.status.getLsbD b = s.cp0.status.getLsbD b := by
  by_cases inside : b < 32
  · rw [s.takeSoftReset_status inside, if_neg n19, (resetMasks_clear b inside ⟨n2, n19, n20, n22⟩).1, Bool.or_false]
  · rw [BitVec.getLsbD_of_ge _ _ (Nat.le_of_not_lt inside), BitVec.getLsbD_of_ge _ _ (Nat.le_of_not_lt inside)]

theorem State.takeNmi_status_kept (s : State) {b : Nat} (n2 : b ≠ 2) (n19 : b ≠ 19) (n20 : b ≠ 20)
    (n22 : b ≠ 22) : s.takeNmi.cp0.status.getLsbD b = s.cp0.status.getLsbD b := by
  by_cases inside : b < 32
  · rw [s.takeNmi_status inside, if_neg n20, (resetMasks_clear b inside ⟨n2, n19, n20, n22⟩).2, Bool.or_false]
  · rw [BitVec.getLsbD_of_ge _ _ (Nat.le_of_not_lt inside), BitVec.getLsbD_of_ge _ _ (Nat.le_of_not_lt inside)]

/-- A soft reset sets ERL, SR and BEV, and clears NMI. -/
theorem State.takeSoftReset_status_set (s : State) :
    s.takeSoftReset.cp0.status.getLsbD 2 = true ∧ s.takeSoftReset.cp0.status.getLsbD 22 = true ∧
      s.takeSoftReset.cp0.status.getLsbD 19 = false ∧ s.takeSoftReset.cp0.status.getLsbD 20 = true := by
  have bit {b : Nat} (inside : b < 32) := s.takeSoftReset_status inside
  rw [bit (by decide), bit (by decide), bit (by decide), bit (by decide)]
  simp

/-- An NMI sets ERL, NMI and BEV. -/
theorem State.takeNmi_status_set (s : State) :
    s.takeNmi.cp0.status.getLsbD 2 = true ∧ s.takeNmi.cp0.status.getLsbD 22 = true ∧
      s.takeNmi.cp0.status.getLsbD 19 = true := by
  have bit {b : Nat} (inside : b < 32) := s.takeNmi_status inside
  rw [bit (by decide), bit (by decide), bit (by decide)]
  simp

end Sys2Proof.Machine

namespace Sys2Proof.Claims
open Sys2Proof.Machine

/-- Settles O53: the request bits one by one, the choice of a step, and the entry that the spacing allows. -/
theorem interruptsPendingByMaskLevelAndEnable : Obligations.InterruptsPendingByMaskLevelAndEnable := by
  intro s
  refine ⟨s.interruptPending_iff, step_singleSteps, fun cold soft nmi sst => ?choice, State.opened_intWait,
    fun low iv => ?general, fun low iv => ⟨fun listed bootstrap n highest => ?vectored, fun unlisted => ?spacing,
      fun spaced bev => ?bev⟩⟩
  case choice =>
    have runs := step_of_noReset cold soft nmi sst
    refine ⟨step_eq_finishStep cold soft nmi sst, fun pending => ?_, fun pending waited => ?_⟩
    · rw [runs]
      exact ite_eq_or_eq _ _ _
    · rw [runs, pending, State.recognises_of_waited waited]
      rfl
  case general =>
    exact interruptEntered_of_raise low (State.takeInterrupt_general iv) (State.interruptOffset_general iv)
  case vectored =>
    have allowed : ¬ (s.cp0.status.getLsbD 22 = true ∧ vectorSpacing s ≠ 0) := by
      rintro ⟨bev, spaced⟩
      rcases bootstrap with normal | zero
      · exact Bool.false_ne_true (normal.symm.trans bev)
      · exact spaced zero
    refine interruptEntered_of_raise low ?_ ?_
    · rw [State.takeInterrupt_vectored iv, if_neg (not_not_intro listed), if_neg allowed]
    · rw [State.interruptOffset_vectored iv, highestBit_of_highestRequest highest]
      rfl
  case spacing =>
    exact State.enterInterrupt_fault ((State.takeInterrupt_vectored iv).trans (if_pos unlisted))
  case bev =>
    have nonzero : vectorSpacing s ≠ 0 := fun zero => by
      rw [zero] at spaced
      exact absurd spaced (by decide)
    refine State.enterInterrupt_fault ?_
    rw [State.takeInterrupt_vectored iv, if_neg (not_not_intro (List.mem_cons_of_mem _ spaced)),
      if_pos ⟨bev, nonzero⟩]

/-- Settles O54: the three inputs in their order; a soft reset and an NMI differ in Status and the lines. -/
theorem resetsGiveTheStatedValues : Obligations.ResetsGiveTheStatedValues := by
  refine ⟨resetValues_reset, fun s => ⟨fun cold => ?_, fun cold inputs => ?_⟩⟩
  · exact ⟨_, step_coldReset cold, resetValues_takeColdReset s, s.takeColdReset_errorEpc, s.takeColdReset_mem⟩
  cases soft : s.softReset with
  | true =>
    obtain ⟨erl, bev, nmi, sr⟩ := s.takeSoftReset_status_set
    exact ⟨_, step_softReset cold soft, rfl, rfl, rfl, rfl, erl, bev, nmi, fun _ => ⟨sr, rfl⟩,
      fun b => s.takeSoftReset_status_kept, rfl, rfl, rfl, fun _ => rfl, fun _ => rfl⟩
  | false =>
    have input : s.nmi = true := by simpa [soft] using inputs
    obtain ⟨erl, bev, nmi⟩ := s.takeNmi_status_set
    exact ⟨_, step_nmi cold soft input, rfl, rfl, rfl, rfl, erl, bev, nmi, nofun,
      fun b => s.takeNmi_status_kept, rfl, rfl, rfl, fun _ => rfl, fun _ => rfl⟩

end Sys2Proof.Claims
end

section
/-!
PROOFS of 47_custom_int.md, second part: quad accesses, bound checks and the x86-translation group (O25, O38).
-/
namespace Sys2Proof.Machine
open Sys2Proof.Claims

/-! ### The address of a quad access (47_custom_int.md rule R612) -/

theorem simm9_shiftLeft_four (off : BitVec 9) :
    off.signExtend 64 <<< 4 = (off ++ 0#4 : BitVec 13).signExtend 64 := by
  apply BitVec.eq_of_getLsbD_eq
  intro i hi
  rw [BitVec.getLsbD_shiftLeft, BitVec.getLsbD_signExtend, BitVec.getLsbD_signExtend, BitVec.getLsbD_append,
    BitVec.msb_append]
  by_cases scaled : i < 4
  · simp [scaled, hi, show i < 13 by omega]
  · by_cases given : i < 13
    · simp [scaled, given, hi, show i - 4 < 64 by omega, show i - 4 < 9 by omega]
    · simp [scaled, given, hi, show i - 4 < 64 by omega, show ¬ i - 4 < 9 by omega]

theorem State.ea9_eq (s : State) (base : BitVec 5) (off : BitVec 9) : s.ea9 base off = QuadAddress s base off := by
  rw [State.ea9, simm9_shiftLeft_four]
  rfl

theorem alignedQuad_of_sixteen {va : Dword} (store : Bool) (h : va.toNat % 16 = 0) :
    alignedQuad va store = .ok () := by
  simp [alignedQuad, h]

theorem alignedQuad_misaligned {va : Dword} (store : Bool) (h : va.toNat % 8 ≠ 0) :
    alignedQuad va store = .exc (.addressError store va) := by
  have h16 : va.toNat % 16 ≠ 0 := by omega
  simp [alignedQuad, h, h16]

/-- At a multiple of 8 a quad access goes on or raises, by the choice of log 25. -/
theorem alignedQuad_cases (va : Dword) (store : Bool) :
    alignedQuad va store = .ok () ∨ alignedQuad va store = .exc (.addressError store va) := by
  unfold alignedQuad
  split
  · exact .inl rfl
  · exact .inr rfl

theorem quad_boundaries {va : Dword} {store : Bool} (h : alignedQuad va store = .ok ()) :
    va.toNat % 8 = 0 ∧ (va + 8).toNat % 8 = 0 := by
  have first : va.toNat % 8 = 0 := by
    by_contra off
    rw [alignedQuad_misaligned store off] at h
    cases h
  refine ⟨first, ?_⟩
  have sum : (va + 8).toNat = (va.toNat + 8) % 2 ^ 64 := BitVec.toNat_add va 8
  omega

/-- An instruction that does what its quad access does completes or takes Address Error as the address says. -/
theorem quadCases_of {i : Instr} {s : State} {va : Dword} {store : Bool} {completes : Prop}
    (goesOn : alignedQuad va store = .ok () → completes)
    (raises : alignedQuad va store = .exc (.addressError store va) → Takes i s (.addressError store va)) :
    QuadCases i s va store completes :=
  ⟨fun sixteen => goesOn (alignedQuad_of_sixteen store sixteen),
    fun _ => (alignedQuad_cases va store).imp goesOn raises,
    fun off => raises (alignedQuad_misaligned store off)⟩

/-! ### What a quad access remembers -/

/-- What a quad access remembers is colours. -/
theorem quadRemembered_fields (s : State) (va : Dword) (g h : Target) :
    QuadRemembered s va g h = { s with coloured := (QuadRemembered s va g h).coloured } := by
  rw [QuadRemembered, remembered_fields, remembered_fields s va g]

@[simp] theorem quadRemembered_npc (s : State) (va : Dword) (g h : Target) :
    (QuadRemembered s va g h).npc = s.npc := by rw [quadRemembered_fields]

@[simp] theorem quadRemembered_mem (s : State) (va : Dword) (g h : Target) :
    (QuadRemembered s va g h).mem = s.mem := by rw [quadRemembered_fields]

@[simp] theorem quadRemembered_readGpr (s : State) (va : Dword) (g h : Target) (r : BitVec 5) :
    (QuadRemembered s va g h).readGpr r = s.readGpr r := by rw [quadRemembered_fields]; rfl

theorem quadRemembered_physAt (s : State) (va : Dword) (g h : Target) (a : Nat) :
    (QuadRemembered s va g h).physAt a = s.physAt a := by rw [quadRemembered_fields]; rfl

/-! ### Quad loads (47_custom_int.md rule R615) -/

section
variable {s : State} {va : Dword}

theorem State.loadQuad_raises (h : alignedQuad va false = .exc (.addressError false va)) :
    s.loadQuad va = .exc (.addressError false va) := by
  unfold State.loadQuad
  rw [h]
  rfl

theorem State.loadQuad_eq (h : alignedQuad va false = .ok ()) : s.loadQuad va =
    (s.loadVirt va 8).bind fun p => (p.2.loadVirt (va + 8) 8).bind fun q => .ok ((p.1, q.1), q.2) := by
  unfold State.loadQuad
  rw [h]
  rfl

theorem State.loadQuad_of_readable {g h : Target} (on : alignedQuad va false = .ok ())
    (readable : QuadReadable s va g h) :
    s.loadQuad va = .ok ((s.seenLE g.pa.toNat 8, s.seenLE h.pa.toNat 8), QuadRemembered s va g h) := by
  rw [State.loadQuad_eq on, State.loadVirt_of_readable readable.1]
  simp only [Res.bind]
  rw [State.loadVirt_of_readable readable.2]
  simp only [remembered_seenLE]
  rfl

/-- What the first half raises the quad load raises, and behind a first half that is read, what the second does. -/
theorem State.loadQuad_fails (on : alignedQuad va false = .ok ()) :
    QuadLoadFails s va fun e => s.loadQuad va = .exc e := by
  obtain ⟨first, second⟩ := quad_boundaries on
  rw [State.loadQuad_eq on]
  refine ⟨accessFails_mono (State.loadVirt_fails first) fun e raises => ?_,
    fun g readable => accessFails_mono (State.loadVirt_fails second) fun e raises => ?_⟩
  · rw [raises]
    rfl
  · rw [State.loadVirt_of_readable readable]
    simp only [Res.bind]
    rw [raises]

theorem quadLoadFails_mono {takes takes' : Exc → Prop} (h : QuadLoadFails s va takes)
    (imp : ∀ e, takes e → takes' e) : QuadLoadFails s va takes' :=
  ⟨accessFails_mono h.1 imp, fun g readable => accessFails_mono (h.2 g readable) imp⟩

/-! ### Quad stores (47_custom_int.md rule R628) -/

theorem State.storeQuad_raises (lo hi : Dword) (h : alignedQuad va true = .exc (.addressError true va)) :
    s.storeQuad va lo hi = .exc (.addressError true va) := by
  unfold State.storeQuad
  rw [h]
  rfl

theorem checkPhys_of_inRam {s : State} {a n : Nat} (store : Bool) (e : Exc) (ram : InRam s a n) :
    s.checkPhys a n store e = .ok () :=
  State.checkPhys_ok.2 fun k inside => .inl (ram k inside)

theorem inRam_quadRemembered {g h : Target} {a n : Nat} :
    InRam (QuadRemembered s va g h) a n ↔ InRam s a n := by
  simp only [InRam, quadRemembered_physAt]

theorem answersErr_quadRemembered {g h : Target} {a n : Nat} :
    AnswersErr (QuadRemembered s va g h) a n ↔ AnswersErr s a n := by
  simp only [AnswersErr, quadRemembered_physAt]

theorem State.landStore_physAt (s : State) (cca : BitVec 3) (b : BufferedStore) (a : Nat) :
    (s.landStore cca b).physAt a = s.physAt a := by
  rw [State.landStore_fields]
  rfl

/-- Arrivals of one store, then those of a second. -/
theorem State.received.trans {s t u : State} {w x : List BufferedStore × List BufferedStore}
    (first : s.received t w) (second : t.received u x) : s.received u (w.1 ++ x.1, x.2) := by
  obtain ⟨first, -⟩ := first
  obtain ⟨second, waits⟩ := second
  refine ⟨fun a => ?_, waits⟩
  rw [second a, byteAfter, first a, byteAfter, byteAfter, List.foldl_append]

/-- Behind two halves that are reached, the store asks for both before it writes. -/
theorem State.storeQuad_of_reaches {g h : Target} (lo hi : Dword) (on : alignedQuad va true = .ok ())
    (first : Reaches s va .store g) (second : Reaches (Remembered s va g) (va + 8) .store h) :
    s.storeQuad va lo hi =
      ((QuadRemembered s va g h).checkPhys g.pa.toNat 8 true .dbe).bind fun _ =>
        ((QuadRemembered s va g h).checkPhys h.pa.toNat 8 true .dbe).bind fun _ =>
          ((QuadRemembered s va g h).memWrite g 8 lo).bind fun u => u.memWrite h 8 hi := by
  unfold State.storeQuad
  rw [on, reach_of_reaches first]
  simp only [Res.bind]
  rw [reach_of_reaches second]
  rfl

theorem State.storeQuad_of_writable {g h : Target} (lo hi : Dword) (on : alignedQuad va true = .ok ())
    (writable : QuadWritable s va g h) : s.storeQuad va lo hi =
      .ok (((QuadRemembered s va g h).landStore g.cca ⟨g.pa.toNat, 8, lo⟩).landStore h.cca ⟨h.pa.toNat, 8, hi⟩) := by
  obtain ⟨⟨first, -, low⟩, second, -, high⟩ := writable
  simp only [InRam, remembered_physAt] at high
  have low' : InRam (QuadRemembered s va g h) g.pa.toNat 8 := inRam_quadRemembered.2 low
  have high' : InRam (QuadRemembered s va g h) h.pa.toNat 8 := inRam_quadRemembered.2 high
  rw [State.storeQuad_of_reaches lo hi on first second, checkPhys_of_inRam true .dbe low',
    checkPhys_of_inRam true .dbe high']
  simp only [Res.bind]
  rw [State.memWrite_ok.2 ⟨low', rfl⟩]
  exact State.memWrite_ok.2 ⟨fun k inside => (State.landStore_physAt ..).trans (high' k inside), rfl⟩

theorem State.storeQuad_fails (lo hi : Dword) (on : alignedQuad va true = .ok ()) :
    QuadStoreFails s va fun e => s.storeQuad va lo hi = .exc e := by
  refine ⟨fun e raises => ?_, fun g first => ⟨fun e raises => ?_, fun h second err => ?_⟩⟩
  · unfold State.storeQuad
    rw [on, State.reach_exc raises]
    rfl
  · unfold State.storeQuad
    rw [on, reach_of_reaches first]
    simp only [Res.bind]
    have translates : (Remembered s va g).translate (va + 8) .store = .exc e := by
      rw [remembered_fields]
      exact raises
    rw [State.reach_exc translates]
  · rw [State.storeQuad_of_reaches lo hi on first second]
    rcases err with low | ⟨low, high⟩
    · rw [State.checkPhys_err true .dbe (answersErr_quadRemembered.2 low)]
      rfl
    · rw [checkPhys_of_inRam true .dbe (inRam_quadRemembered.2 low)]
      simp only [Res.bind]
      rw [State.checkPhys_err true .dbe (answersErr_quadRemembered.2 high)]

theorem quadStoreFails_mono {takes takes' : Exc → Prop} (h : QuadStoreFails s va takes)
    (imp : ∀ e, takes e → takes' e) : QuadStoreFails s va takes' := by
  obtain ⟨raises, reached⟩ := h
  refine ⟨fun e fails => imp e (raises e fails), fun g first => ?_⟩
  obtain ⟨raises, bus⟩ := reached g first
  exact ⟨fun e fails => imp e (raises e fails), fun h second err => imp .dbe (bus h second err)⟩

theorem quadCases_of_storeQuad {i : Instr} {lo hi : Dword} (g h : Target)
    (runs : exec i s = (s.storeQuad va lo hi).finish s fun t => .next t.advance) :
    QuadCases i s va true ((QuadWritable s va g h → StoresQuad i s va g h lo hi) ∧
      QuadStoreFails s va (Takes i s)) := by
  refine quadCases_of (fun on => ⟨fun writable => ?_, ?_⟩) fun raises => ?_
  · rw [State.storeQuad_of_writable lo hi on writable] at runs
    refine ⟨_, runs, ?_⟩
    have accel : (QuadRemembered s va g h).accel = s.accel := by rw [quadRemembered_fields]
    have first := (QuadRemembered s va g h).received_landStore g.cca ⟨g.pa.toNat, 8, lo⟩
    have second := ((QuadRemembered s va g h).landStore g.cca ⟨g.pa.toNat, 8, lo⟩).received_landStore h.cca
      ⟨h.pa.toNat, 8, hi⟩
    have both := first.trans second
    rw [first.2, accel] at both
    refine ⟨?_, ?_, ?_⟩
    · rw [quadRemembered_fields]
      exact ⟨by simp, by simp, rfl⟩
    · rw [quadRemembered_fields] at both ⊢
      exact both
    · unfold State.sameButFlow
      rw [State.landStore_fields, State.landStore_fields (QuadRemembered s va g h)]
      rfl
  · exact quadStoreFails_mono (State.storeQuad_fails lo hi on) fun e fails => takes_of_finish runs fails
  · exact takes_of_finish runs (State.storeQuad_raises lo hi raises)

end

/-! ### GSLQ (47_custom_int.md rule R615) -/

theorem or_ne_zero_of {rt rq : BitVec 5} (h : rt ≠ 0 ∨ rq ≠ 0) : rt ||| rq ≠ 0 := by
  rw [Ne, BitVec.ofNat_eq_ofNat, BitVec.or_eq_zero_iff]
  tauto

theorem takes_of_loadTakes {i : Instr} {s : State} {rt : BitVec 5} {e : Exc} (h : LoadTakes i s rt e)
    (register : rt ≠ 0) : Takes i s e := h.resolve_right fun silent => register silent.1

/-- Two registers written one after the other. -/
theorem twoGprs_writeGpr (s : State) (rt rq : BitVec 5) (lo hi : Dword) :
    TwoGprs s ((s.writeGpr rt lo).writeGpr rq hi) rt rq lo hi := by
  intro r
  rw [State.readGpr_writeGpr, State.readGpr_writeGpr]
  grind

/-- A register that a quad load names twice takes one of the two values (log 10). -/
theorem State.quadPick_cases (s : State) (lo hi : Dword) : s.quadPick lo hi = lo ∨ s.quadPick lo hi = hi := by
  unfold State.quadPick
  split
  · exact .inr rfl
  · exact .inl rfl

section
variable {s : State} {base rt rq : BitVec 5} {off : BitVec 9} (usable : s.cu 2 = true) (wide : s.are64 = true)
include usable wide

theorem exec_gslq : exec (.gslq base rt off rq) s =
    finishLoad (rt ||| rq) (s.loadQuad (QuadAddress s base off)) s fun p =>
      if rt = rq then p.2.putGpr rt (s.quadPick p.1.1 p.1.2)
      else (p.2.writeGpr rt p.1.1).putGpr rq p.1.2 := by
  rw [← State.ea9_eq]
  exact needCop2_need64 usable wide _

theorem exec_gssq : exec (.gssq base rt off rq) s =
    (s.storeQuad (QuadAddress s base off) (s.readGpr rt) (s.readGpr rq)).finish s fun t => .next t.advance := by
  rw [← State.ea9_eq]
  exact needCop2_need64 usable wide _

/-- Two registers take the two doublewords; one register takes one of them (log 10). -/
theorem loadsQuad_of_readable {g h : Target} (on : alignedQuad (QuadAddress s base off) false = .ok ())
    (readable : QuadReadable s (QuadAddress s base off) g h) : LoadsQuad s base rt rq off g h := by
  have runs := exec_gslq (base := base) (rt := rt) (rq := rq) (off := off) usable wide
  rw [State.loadQuad_of_readable on readable] at runs
  by_cases same : rt = rq
  · refine ⟨_, runs.trans (if_pos same), ?_, fun a => by simp, ?_, fun other => absurd same other, fun _ => ?_⟩
    · exact ⟨by simp, by simp, rfl⟩
    · unfold State.sameButFlow State.writeGpr
      split <;> rfl
    · rcases s.quadPick_cases (s.seenLE g.pa.toNat 8) (s.seenLE h.pa.toNat 8) with pick | pick <;> rw [pick]
      · exact .inl fun r => by simp [State.readGpr_writeGpr]
      · exact .inr fun r => by simp [State.readGpr_writeGpr]
  · refine ⟨_, runs.trans (if_neg same), ?_, fun a => by simp, ?_, fun _ r => ?_, fun other => absurd other same⟩
    · exact ⟨by simp, by simp, rfl⟩
    · unfold State.sameButFlow State.writeGpr
      split <;> split <;> rfl
    · rw [State.advance_readGpr, twoGprs_writeGpr, quadRemembered_readGpr]

/-- What GSLQ does by its address. -/
theorem gslq_completes (g h : Target) (on : alignedQuad (QuadAddress s base off) false = .ok ()) :
    (QuadReadable s (QuadAddress s base off) g h → LoadsQuad s base rt rq off g h) ∧
      QuadLoadFails s (QuadAddress s base off) (LoadTakes (.gslq base rt off rq) s (rt ||| rq)) :=
  ⟨loadsQuad_of_readable usable wide on, quadLoadFails_mono (State.loadQuad_fails on) fun _ raises =>
    loadTakes_of_finishLoad (exec_gslq usable wide) raises⟩

theorem quadCases_gslq (g h : Target) (register : rt ≠ 0 ∨ rq ≠ 0) :
    QuadCases (.gslq base rt off rq) s (QuadAddress s base off) false
      ((QuadReadable s (QuadAddress s base off) g h → LoadsQuad s base rt rq off g h) ∧
        QuadLoadFails s (QuadAddress s base off) (Takes (.gslq base rt off rq) s)) := by
  refine quadCases_of (fun on => ?_) fun raises => ?_
  · obtain ⟨completes, fails⟩ := gslq_completes (rt := rt) (rq := rq) usable wide g h on
    exact ⟨completes, quadLoadFails_mono fails fun _ takes => takes_of_loadTakes takes (or_ne_zero_of register)⟩
  · exact takes_of_loadTakes (loadTakes_of_finishLoad (exec_gslq usable wide) (State.loadQuad_raises raises))
      (or_ne_zero_of register)

end

/-! ### Bound checks (47_custom_int.md rules R604, R605, R633) -/

/-- Where the two comparisons agree the choice between them does not matter (log 27). -/
theorem boundLe_of_agree {a b : Dword} (agree : a.sle b = a.ule b) : boundLe a b = a.ule b := by
  unfold boundLe
  split
  · exact agree
  · rfl

section
variable {s : State} {rs rt : BitVec 5} (usable : s.cu 2 = true)
include usable

theorem boundInstructions_below (below : boundLe (s.readGpr rs) (s.readGpr rt) = true) :
    Takes (.gsle rs rt) s (.boundError false) ∧ JustGoesOn (.gsgt rs rt) s :=
  ⟨(needCop2_on usable _).trans (if_pos below), justGoesOn_of_advance ((needCop2_on usable _).trans (if_pos below))⟩

theorem boundInstructions_above (above : boundLe (s.readGpr rs) (s.readGpr rt) = false) :
    JustGoesOn (.gsle rs rt) s ∧ Takes (.gsgt rs rt) s (.boundError false) := by
  have fails : ¬ boundLe (s.readGpr rs) (s.readGpr rt) = true := by simp [above]
  exact ⟨justGoesOn_of_advance ((needCop2_on usable _).trans (if_neg fails)),
    (needCop2_on usable _).trans (if_neg fails)⟩

end

/-! ### The x86-translation group (47_custom_int.md rules R640 to R684) -/

theorem putsX86_of_setX86 {i : Instr} {s : State} {x : X86} (runs : exec i s = .next (s.setX86 x).advance) :
    PutsX86 i s x := ⟨_, runs, s.writesX86_advance x⟩

/-- The instructions of the table all do the same. -/
theorem exec_eflagOps (s : State) : ∀ i ∈ eflagOps, exec i s = s.setEflagOnly := by
  have all : eflagOps.map (exec · s) = List.replicate eflagOps.length s.setEflagOnly := rfl
  exact List.map_eq_replicate_iff.1 all

theorem addOne_eq_ofNat (top : BitVec 3) : top + 1 = BitVec.ofNat 3 (top.toNat + 1) :=
  BitVec.eq_of_toNat_eq (by rw [BitVec.toNat_add, BitVec.toNat_ofNat]; rfl)

theorem subOne_eq_ofNat (top : BitVec 3) : top - 1 = BitVec.ofNat 3 (top.toNat + 7) :=
  BitVec.eq_of_toNat_eq (by rw [BitVec.toNat_sub, BitVec.toNat_ofNat, Nat.add_comm]; rfl)

end Sys2Proof.Machine

namespace Sys2Proof.Claims
open Sys2Proof.Machine

/-- Settles O25: a quad access is its two halves behind the test of its address, and the bound instructions are
the two branches of one comparison. -/
theorem quadAndBoundCheckInstructions : Obligations.QuadAndBoundCheckInstructions := by
  intro s base rt rq off g h usable
  refine ⟨fun wide => ⟨quadCases_gslq usable wide g h, fun sixteen => ?_, ?_⟩, fun narrow => ?_, fun rs => ?_⟩
  · exact gslq_completes usable wide g h (alignedQuad_of_sixteen false sixteen)
  · exact quadCases_of_storeQuad g h (exec_gssq usable wide)
  · exact ⟨needCop2_need64_off usable narrow _, needCop2_need64_off usable narrow _⟩
  · exact ⟨boundInstructions_below usable, boundInstructions_above usable, boundLe_of_agree⟩

/-- Settles O38: every instruction of the group replaces the x86-translation state or writes one register. -/
theorem translatedInstructionsOfTheX86Group : Obligations.TranslatedInstructionsOfTheX86Group := by
  intro s rd
  refine ⟨fun i op => ⟨_, putsX86_of_setX86 (exec_eflagOps s i op)⟩, putsX86_of_setX86 rfl, putsX86_of_setX86 rfl,
    ?_, ?_, ⟨_, putsX86_of_setX86 rfl⟩, putsGpr_of_putGpr rfl, ⟨_, putsX86_of_setX86 rfl⟩, putsGpr_of_putGpr rfl⟩
  · rw [← addOne_eq_ofNat]
    exact putsX86_of_setX86 rfl
  · rw [← subOne_eq_ofNat]
    exact putsX86_of_setX86 rfl

end Sys2Proof.Claims
end

section
/-!
PROOFS of 49_fpu_move_mem.md, first part: moves between the register files, control registers and branches (O46 to
O48).
-/
namespace Sys2Proof.Machine
open Sys2Proof.Claims

/-! ### The views of FCSR (10_state.md rules R52 to R56) -/

theorem writeFccr_eq (f v : Word) :
    writeFccr f v = (f &&& 0x017FFFFF) ||| ((v &&& 0xFE) <<< 24) ||| ((v &&& 1) <<< 23) := by
  apply BitVec.eq_of_getLsbD_eq
  intro i hi
  rw [writeFccr, getLsbD_putBit _ _ _ hi, getLsbD_putField _ _ _ _ hi]
  interval_cases i <;> simp

theorem writeFenr_eq (f v : Word) :
    writeFenr f v = (f &&& 0xFEFFF07C) ||| (v &&& 0x00000F83) ||| ((v &&& 4) <<< 22) := by
  apply BitVec.eq_of_getLsbD_eq
  intro i hi
  rw [writeFenr, getLsbD_putBit _ _ _ hi, getLsbD_mergeBits _ _ _ hi]
  interval_cases i <;> simp

theorem readFenr_eq (f : Word) : readFenr f = (f &&& 0x00000F83) ||| (if f.getLsbD 24 then 4 else 0) := by
  apply BitVec.eq_of_getLsbD_eq
  intro i hi
  rw [readFenr, getLsbD_putBit _ _ _ hi]
  cases f.getLsbD 24 <;> interval_cases i <;> simp

theorem viewOf_other (f : Word) {n : BitVec 5} (h0 : n ≠ 0) (h25 : n ≠ 25) (h26 : n ≠ 26) (h28 : n ≠ 28)
    (h31 : n ≠ 31) : viewOf f n.toNat = none := by
  rw [Ne, ← BitVec.toNat_inj] at h0 h25 h26 h28 h31
  unfold viewOf
  split
  · exact absurd ‹_› h0
  · exact absurd ‹_› h25
  · exact absurd ‹_› h26
  · exact absurd ‹_› h28
  · exact absurd ‹_› h31
  · rfl

theorem viewWritten_other (f v : Word) {n : BitVec 5} (h25 : n ≠ 25) (h26 : n ≠ 26) (h28 : n ≠ 28)
    (h31 : n ≠ 31) : viewWritten f n.toNat v = none := by
  rw [Ne, ← BitVec.toNat_inj] at h25 h26 h28 h31
  unfold viewWritten
  split
  · exact absurd ‹_› h25
  · exact absurd ‹_› h26
  · exact absurd ‹_› h28
  · exact absurd ‹_› h31
  · rfl

theorem State.readFcr_eq (s : State) (n : BitVec 5) : s.readFcr n = viewOf s.fcsr n.toNat := by
  unfold State.readFcr
  split
  · next h => subst h; rfl
  split
  · next h => subst h; rfl
  split
  · next h => subst h; rfl
  split
  · next h => subst h; rw [readFenr_eq]; rfl
  split
  · next h => subst h; rfl
  · exact (viewOf_other s.fcsr ‹_› ‹_› ‹_› ‹_› ‹_›).symm

/-- CTC1 writes the view, refuses bit 21 of FCSR itself, and refuses a number without a view. -/
theorem State.writeFcr_eq (s : State) (n : BitVec 5) (v : Word) : s.writeFcr n v =
    if n = 31 ∧ v.getLsbD 21 = true then .refused .topMode
    else match viewWritten s.fcsr n.toNat v with
      | some f => .ok f
      | none => .refused .noSuchFpuRegister := by
  unfold State.writeFcr
  split
  · next h => subst h; rw [writeFccr_eq]; rfl
  split
  · next h => subst h; rfl
  split
  · next h => subst h; rw [writeFenr_eq]; rfl
  split
  · next h => subst h; simp [viewWritten, writeFcsr]
  · next h25 h26 h28 h31 => rw [if_neg (fun h => h31 h.1), viewWritten_other _ _ h25 h26 h28 h31]

theorem trapPending_iff (f : Word) : trapPending f = true ↔ PendingCause f := by
  simp [trapPending, PendingCause]

/-! ### CFC1 and CTC1 (49_fpu_move_mem.md rules R905, R906) -/

section
variable {s : State} {rt fs : BitVec 5} (usable : s.cu 1 = true)
include usable

theorem exec_cfc1 : exec (.cfc1 rt fs) s = match viewOf s.fcsr fs.toNat with
    | some v => s.putGpr rt (v.signExtend 64)
    | none => .refused .noSuchFpuRegister := by
  rw [← State.readFcr_eq]
  exact needCop1_on usable _

theorem exec_ctc1 : exec (.ctc1 rt fs) s =
    (s.writeFcr fs ((s.readGpr rt).setWidth 32)).finish s fun v =>
      if trapPending v then raise .fpe (s.setFcsr v) else .next (s.setFcsr v).advance := needCop1_on usable _

/-- CTC1 writes its view, and then traps on what is pending there. -/
theorem ctc1_writes {f : Word} (view : viewWritten s.fcsr fs.toNat ((s.readGpr rt).setWidth 32) = some f)
    (allowed : ¬ (fs = 31 ∧ ((s.readGpr rt).setWidth 32).getLsbD 21 = true)) :
    (PendingCause f → exec (.ctc1 rt fs) s = .next ((s.setFcsr f).takeException .fpe)) ∧
      (¬ PendingCause f → ∃ t, exec (.ctc1 rt fs) s = .next t ∧ s.writesFcsr t f) := by
  rw [exec_ctc1 usable, State.writeFcr_eq, if_neg allowed, view, ← trapPending_iff]
  exact ⟨fun pending => if_pos pending, fun quiet => ⟨_, if_neg quiet, s.writesFcsr_advance f⟩⟩

end

/-! ### Branches on a condition code (49_fpu_move_mem.md rules R1100 to R1103) -/

section
variable {s : State} (usable : s.cu 1 = true) (cc : BitVec 3) (imm : BitVec 16)
include usable

theorem branchPair_bc1f : BranchPair (.bc1f cc imm) (.bc1fl cc imm) s s imm (conditionCode s cc = false) :=
  branchPair_of_test (goes := s.fcc cc == false) (by rw [beq_iff_eq, conditionCode_eq_fcc])
    (needCop1_on usable _) (needCop1_on usable _)

theorem branchPair_bc1t : BranchPair (.bc1t cc imm) (.bc1tl cc imm) s s imm (conditionCode s cc = true) :=
  branchPair_of_test (goes := s.fcc cc == true) (by rw [beq_iff_eq, conditionCode_eq_fcc])
    (needCop1_on usable _) (needCop1_on usable _)

end

end Sys2Proof.Machine

namespace Sys2Proof.Claims
open Sys2Proof.Machine

/-- Settles O47: both instructions go through the four views. -/
theorem floatingControlRegisterViews : Obligations.FloatingControlRegisterViews := by
  intro s rt fs
  refine ⟨fun usable => ⟨fun x view => ?_, fun missing => ?_, fun f view allowed => ctc1_writes usable view allowed,
    fun full top => ?_, fun missing => ?_⟩, fun unusable => ⟨needCop1_off unusable _, needCop1_off unusable _⟩⟩
  · have runs := exec_cfc1 (rt := rt) (fs := fs) usable
    rw [view] at runs
    exact putsGpr_of_putGpr runs
  · rw [exec_cfc1 usable, missing]
  · rw [exec_ctc1 usable, State.writeFcr_eq, if_pos ⟨full, top⟩]
    rfl
  · have notFull : fs ≠ 31 := by
      rintro rfl
      cases missing
    rw [exec_ctc1 usable, State.writeFcr_eq, if_neg (fun h => notFull h.1), missing]
    rfl

/-- Settles O48: each branch and its likely form test one condition code, behind the check of coprocessor 1. -/
theorem floatingConditionBranches : Obligations.FloatingConditionBranches := by
  intro s cc imm
  refine ⟨fun usable outside => ?_, fun usable slot => ?_, fun unusable => ?_⟩
  · have f := branchPair_bc1f usable cc imm
    have t := branchPair_bc1t usable cc imm
    have w := writesRegs_none s
    exact ⟨f.branches w outside, t.branches w outside, f.branchesLikely w outside, t.branchesLikely w outside⟩
  · obtain ⟨f, fl⟩ := (branchPair_bc1f usable cc imm).stops (writesRegs_none s) slot
    obtain ⟨t, tl⟩ := (branchPair_bc1t usable cc imm).stops (writesRegs_none s) slot
    simp only [List.forall_mem_cons]
    exact ⟨f, t, fl, tl, nofun⟩
  · simp only [List.forall_mem_cons]
    exact ⟨needCop1_off unusable _, needCop1_off unusable _, needCop1_off unusable _, needCop1_off unusable _, nofun⟩

end Sys2Proof.Claims
end

section
/-!
SUPPORT. The gates of the floating-point instructions and the 32-bit locations
(49_fpu.md rules R800, R803; 49_fpu_move_mem.md rule R902).
-/
namespace Sys2Proof.Machine
open Sys2Proof.Claims

/-! ### Gates -/

section
variable {s : State} {regs : List (BitVec 5)}

theorem fpGate_ready (ready : FpReady s regs) (k : Out) : fpGate s regs k = k :=
  (needCop1_on ready.1 _).trans (needEven_ok k ready.2)

theorem fpGate_odd (usable : s.cu 1 = true) (narrow : s.fr = false) (odd : NamesOdd regs) (k : Out) :
    fpGate s regs k = .fault .floatRegisterPair := by
  obtain ⟨r, named, odd⟩ := odd
  exact (needCop1_on usable _).trans (needEven_odd k narrow named odd)

theorem fpGate64_on (usable : s.cu 1 = true) (wide : s.fr = true) (k : Out) : fpGate64 s k = k :=
  (needCop1_on usable _).trans (if_pos wide)

theorem fpGate64_narrow (usable : s.cu 1 = true) (narrow : s.fr = false) (k : Out) :
    fpGate64 s k = .fault .floatRegisterPair :=
  (needCop1_on usable _).trans (if_neg (by simp [narrow]))

theorem namesOdd_singleton {r : BitVec 5} (odd : r.getLsbD 0 = true) : NamesOdd [r] :=
  ⟨r, List.mem_singleton_self r, odd⟩

end

/-! ### One register written -/

theorem putsFprWith_of_writeFpr {i : Instr} {s : State} {fd : BitVec 5} {v : Dword} {good : Dword → Prop}
    (runs : exec i s = .next (s.writeFpr fd v).advance) (holds : good v) : PutsFprWith i s fd good :=
  ⟨_, v, runs, s.writesFpr_advance fd v, holds⟩

/-! ### The 32-bit locations -/

/-- The even number below an odd one. -/
theorem and_not_one_of_odd : ∀ n : BitVec 5, n.getLsbD 0 = true → n &&& 0x1E#5 = n - 1 := by decide

theorem State.readF32_eq (s : State) (n : BitVec 5) : s.readF32 n = word32 s n := by
  unfold State.readF32 word32
  by_cases low : s.fr = true ∨ n.getLsbD 0 = false
  · rw [if_pos low, if_pos (by simpa using low)]
    rfl
  · have odd : n.getLsbD 0 = true := by simp_all
    rw [if_neg low, if_neg (by simpa using low), and_not_one_of_odd n odd]
    rfl

/-- A word written to location `n` of `u`, whose floating-point registers are those of `s`. -/
theorem fillsWord32_of_writeF32 {i : Instr} {s u : State} {n : BitVec 5} {v : Word} (mode : u.fr = s.fr)
    (regs : u.fpr = s.fpr) (runs : exec i s = .next (u.writeF32 n v).advance) : FillsWord32 i s u n v := by
  have reads r : u.readFpr r = s.readFpr r := by simp only [State.readFpr, regs]
  unfold State.writeF32 at runs
  rw [mode] at runs
  refine ⟨fun wide => ?_, fun narrow even => ?_, fun narrow odd => ?_⟩
  · rw [if_pos wide] at runs
    exact ⟨_, _, runs, u.writesFpr_advance n _, BitVec.setWidth_append_eq_right⟩
  · rw [if_neg (by simp [narrow]), if_neg (Bool.eq_false_iff.1 even)] at runs
    exact ⟨_, _, runs, u.writesFpr_advance n _, by rw [reads]; rfl⟩
  · rw [if_neg (by simp [narrow]), if_pos odd, and_not_one_of_odd n odd] at runs
    exact ⟨_, _, runs, u.writesFpr_advance (n - 1) _, by rw [reads]; rfl⟩

end Sys2Proof.Machine
end

section
/-!
PROOFS of 49_fpu_move_mem.md, second part: moves between the register files and among the floating-point registers
(O46).
-/
namespace Sys2Proof.Machine
open Sys2Proof.Claims

theorem putsWord32_of_writeF32 {i : Instr} {s : State} {n : BitVec 5} {v : Word}
    (runs : exec i s = .next (s.writeF32 n v).advance) : PutsWord32 i s n v := fillsWord32_of_writeF32 rfl rfl runs

section
variable {i : Instr} {s : State} {fs fd : BitVec 5} {c : Prop} {b : Bool}

/-- With legal numbers a single moves as the low word; with FR = 0 the high word stays. -/
theorem movesSingle_of_movSingle (ready : FpReady s [fs, fd]) (test : b = true ↔ c)
    (runs : exec i s = s.movSingle b fs fd) : MovesSingle i s fs fd c := by
  rw [State.movSingle, fpGate_ready ready] at runs
  refine ⟨fun holds => ?_, fun fails => ?_⟩
  · have even r (named : r ∈ [fs, fd]) : s.fr = true ∨ r.getLsbD 0 = false := ready.2.imp id fun all => all r named
    have source : s.readF32 fs = (s.readFpr fs).setWidth 32 := by
      rw [State.readF32_eq, word32, if_pos (even fs (by simp))]
    rw [if_pos (test.2 holds), source, State.writeF32] at runs
    rcases Bool.eq_false_or_eq_true s.fr with wide | narrow
    · rw [if_pos wide] at runs
      exact putsFprWith_of_writeFpr runs ⟨BitVec.setWidth_append_eq_right, fun narrow => by simp [wide] at narrow⟩
    · have low : fd.getLsbD 0 = false := (even fd (by simp)).resolve_left (by simp [narrow])
      rw [if_neg (by simp [narrow]), if_neg (Bool.eq_false_iff.1 low)] at runs
      exact putsFprWith_of_writeFpr runs ⟨BitVec.setWidth_append_eq_right, fun _ => BitVec.extractLsb'_append_eq_left⟩
  · rw [if_neg (mt test.1 fails)] at runs
    exact justGoesOn_of_advance runs

theorem movesDouble_of_movDouble (ready : FpReady s [fs, fd]) (test : b = true ↔ c)
    (runs : exec i s = s.movDouble b fs fd) : MovesDouble i s fs fd c := by
  rw [State.movDouble, fpGate_ready ready] at runs
  refine ⟨fun holds => ?_, fun fails => ?_⟩
  · rw [if_pos (test.2 holds)] at runs
    exact putsFprWith_of_writeFpr runs rfl
  · rw [if_neg (mt test.1 fails)] at runs
    exact justGoesOn_of_advance runs

theorem movesPair_of_movPair {lower upper : Prop} {l u : Bool} (usable : s.cu 1 = true) (wide : s.fr = true)
    (low : l = true ↔ lower) (high : u = true ↔ upper) (runs : exec i s = s.movPair l u fs fd) :
    MovesPair i s fs fd lower upper := by
  rw [State.movPair, fpGate64_on usable wide] at runs
  refine putsFprWith_of_writeFpr runs ?_
  rw [BitVec.setWidth_append_eq_right, BitVec.extractLsb'_append_eq_left, ← low, ← high]
  exact ⟨fun h => if_pos h, fun h => if_neg h, fun h => if_pos h, fun h => if_neg h⟩

/-- With an odd condition code number the pair is open (log 6). -/
theorem putsFprWith_of_movPairOn {sense : Bool} {cc : BitVec 3} (usable : s.cu 1 = true) (wide : s.fr = true)
    (odd : cc.getLsbD 0 = true) (runs : exec i s = s.movPairOn sense cc fs fd) :
    PutsFprWith i s fd fun _ => True := by
  rw [State.movPairOn, if_pos odd, fpGate64_on usable wide] at runs
  exact putsFprWith_of_writeFpr runs trivial

theorem movesPair_of_movPairOn {sense : Bool} {cc : BitVec 3} (usable : s.cu 1 = true) (wide : s.fr = true)
    (even : cc.getLsbD 0 = false) (runs : exec i s = s.movPairOn sense cc fs fd) :
    MovesPair i s fs fd (conditionCode s cc = sense) (conditionCode s (cc + 1) = sense) := by
  rw [State.movPairOn, if_neg (Bool.eq_false_iff.1 even)] at runs
  exact movesPair_of_movPair usable wide (by rw [beq_iff_eq, conditionCode_eq_fcc])
    (by rw [beq_iff_eq, conditionCode_eq_fcc]) runs

end
end Sys2Proof.Machine

namespace Sys2Proof.Claims
open Sys2Proof.Machine

/-- The instruction names one register that FR = 0 does not allow. -/
theorem needEven_self_odd {s : State} {r : BitVec 5} (narrow : s.fr = false) (odd : r.getLsbD 0 = true) (k : Out) :
    needEven s [r] k = .fault .floatRegisterPair := needEven_odd k narrow (List.mem_singleton_self r) odd

section
variable {s : State} {rt fs : BitVec 5} (usable : s.cu 1 = true)
include usable

theorem movesHalvesAndWholes (ready : FpReady s [fs]) :
    PutsGpr (.mfhc1 rt fs) s rt (((s.readFpr fs).extractLsb' 32 32).signExtend 64) ∧
      PutsFprWith (.mthc1 rt fs) s fs (fun v => v = (s.readGpr rt).setWidth 32 ++ (s.readFpr fs).setWidth 32) ∧
      (s.are64 = true → PutsGpr (.dmfc1 rt fs) s rt (s.readFpr fs) ∧
        PutsFprWith (.dmtc1 rt fs) s fs (fun v => v = s.readGpr rt)) :=
  ⟨putsGpr_of_putGpr (fpGate_ready ready _), putsFprWith_of_writeFpr (fpGate_ready ready _) rfl, fun wide =>
    ⟨putsGpr_of_putGpr ((needCop1_on usable _).trans ((need64_on wide _).trans (needEven_ok _ ready.2))),
      putsFprWith_of_writeFpr ((needCop1_on usable _).trans ((need64_on wide _).trans (needEven_ok _ ready.2))) rfl⟩⟩

theorem movesHalvesAndWholes_odd (narrow : s.fr = false) (odd : fs.getLsbD 0 = true) :
    OddRegister (.mfhc1 rt fs) s ∧ OddRegister (.mthc1 rt fs) s ∧
      (s.are64 = true → OddRegister (.dmfc1 rt fs) s ∧ OddRegister (.dmtc1 rt fs) s) := by
  have stops := fpGate_odd usable narrow (namesOdd_singleton odd)
  have stops64 (wide : s.are64 = true) k : needCop 1 s (need64 s (needEven s [fs] k)) = .fault .floatRegisterPair := by
    rw [need64_on wide]
    exact stops k
  exact ⟨stops _, stops _, fun wide => ⟨stops64 wide _, stops64 wide _⟩⟩

end

/-- Settles O46: every move is one write of a register, behind its gate. -/
theorem movesBetweenRegisterFiles : Obligations.MovesBetweenRegisterFiles := by
  intro s rs rt ft fs fd cc usable
  have nonzero : (s.readGpr rt != 0) = true ↔ s.readGpr rt ≠ 0 := bne_iff_ne
  have zero : (s.readGpr rt == 0) = true ↔ s.readGpr rt = 0 := beq_iff_eq
  have code (sense : Bool) : (s.fcc cc == sense) = true ↔ conditionCode s cc = sense := by
    rw [beq_iff_eq, conditionCode_eq_fcc]
  have always : true = true ↔ True := by simp
  refine ⟨?_, putsWord32_of_writeF32 (needCop1_on usable _), movesHalvesAndWholes usable, fun narrow => ?_,
    fun ready => ?_, movesHalvesAndWholes_odd usable, fun narrow odd => ?_, fun narrow => ?_, fun wide => ?_⟩
  · rw [← State.readF32_eq]
    exact putsGpr_of_putGpr (needCop1_on usable _)
  · exact ⟨(needCop1_on usable _).trans (need64_off narrow _), (needCop1_on usable _).trans (need64_off narrow _)⟩
  · exact ⟨movesSingle_of_movSingle ready always rfl, movesDouble_of_movDouble ready always rfl,
      movesSingle_of_movSingle ready (code false) rfl, movesDouble_of_movDouble ready (code false) rfl,
      movesSingle_of_movSingle ready (code true) rfl, movesDouble_of_movDouble ready (code true) rfl,
      movesSingle_of_movSingle ready nonzero rfl, movesDouble_of_movDouble ready nonzero rfl,
      movesSingle_of_movSingle ready zero rfl, movesDouble_of_movDouble ready zero rfl⟩
  · have stops := fpGate_odd usable narrow odd
    simp only [List.forall_mem_cons]
    exact ⟨stops _, stops _, stops _, stops _, stops _, stops _, stops _, stops _, stops _, stops _, nofun⟩
  · have stops := fpGate64_narrow usable narrow
    have stopsOn sense : s.movPairOn sense cc fs fd = .fault .floatRegisterPair := by
      rw [State.movPairOn, State.movPair, stops, stops, ite_self]
    simp only [List.forall_mem_cons]
    exact ⟨stops _, stops _, stops _, stopsOn _, stopsOn _, stops _, nofun⟩
  · exact ⟨movesPair_of_movPair usable wide always always rfl, movesPair_of_movPair usable wide nonzero nonzero rfl,
      movesPair_of_movPair usable wide zero zero rfl,
      fun even => ⟨movesPair_of_movPairOn usable wide even rfl, movesPair_of_movPairOn usable wide even rfl⟩,
      fun odd => ⟨putsFprWith_of_movPairOn usable wide odd rfl, putsFprWith_of_movPairOn usable wide odd rfl⟩,
      putsFprWith_of_writeFpr (fpGate64_on usable wide _)
        ⟨fun whole => if_pos whole, fun joined => by rw [joined]; rfl⟩⟩

end Sys2Proof.Claims
end

section
/-!
SUPPORT. Accesses to a part of a block, byte by byte (40_loadstore.md rules R308, R309, R311, R314, R318 to R322;
49_fpu_move_mem.md rule R1143).
-/
namespace Sys2Proof.Machine
open Sys2Proof.Claims

/-! ### Bytes of a register -/

theorem getLsbD_regByte (v : Dword) (k : Nat) {j : Nat} (bit : j < 8) :
    (regByte v k).getLsbD j = v.getLsbD (8 * k + j) := by
  rw [regByte, BitVec.getLsbD_extractLsb', decide_eq_true bit, Bool.true_and]

/-- Registers with the same bits of a byte have the same byte. -/
theorem regByte_ext {b : Byte} {v : Dword} {k : Nat} (h : ∀ j, j < 8 → v.getLsbD (8 * k + j) = b.getLsbD j) :
    regByte v k = b :=
  BitVec.eq_of_getLsbD_eq fun j bit => (getLsbD_regByte v k bit).trans (h j bit)

theorem regByte_seenLE (s : State) (a : Nat) {n k : Nat} (inside : k < n) (size : n ≤ 8) :
    regByte (s.seenLE a n) k = s.byteSeen (a + k) := by
  have seen : readByte s.drain.mem (a + k) = s.byteSeen (a + k) := s.readByte_drain _
  refine regByte_ext fun j bit => ?_
  rw [← State.readLE_drain, readLE_getLsbD _ _ _ _ size, decide_eq_true (by omega), Bool.true_and,
    show (8 * k + j) / 8 = k by omega, show (8 * k + j) % 8 = j by omega, seen]

/-- The bytes below `m` from `v`, those above from `x`. -/
theorem regByte_mergeBits_low (x v : Dword) (m : Nat) {k : Nat} (small : k < 8) :
    regByte (mergeBits (fieldMask 64 0 (8 * m)) x v) k = if k < m then regByte v k else regByte x k := by
  refine regByte_ext fun j bit => ?_
  rw [getLsbD_mergeBits _ _ _ (by omega), getLsbD_fieldMask _ _ (by omega)]
  by_cases below : k < m
  · rw [if_pos below, getLsbD_regByte v k bit, if_pos (by simp; omega)]
  · rw [if_neg below, getLsbD_regByte x k bit, if_neg (by simp; omega)]

theorem regByte_shiftLeft (w : Dword) {m k : Nat} (above : m ≤ k) (small : k < 8) :
    regByte (w <<< (8 * m)) k = regByte w (k - m) := by
  refine regByte_ext fun j bit => ?_
  rw [BitVec.getLsbD_shiftLeft, getLsbD_regByte _ _ bit, decide_eq_true (by omega), decide_eq_false (by omega),
    show 8 * k + j - 8 * m = 8 * (k - m) + j by omega]
  rfl

theorem regByte_ushiftRight (w : Dword) (m k : Nat) : regByte (w >>> (8 * m)) k = regByte w (m + k) := by
  refine regByte_ext fun j bit => ?_
  rw [BitVec.getLsbD_ushiftRight, getLsbD_regByte _ _ bit, show 8 * m + (8 * k + j) = 8 * (m + k) + j by omega]

theorem regByte_zextLow (w : Dword) {n k : Nat} (inside : k < n) (size : n ≤ 8) :
    regByte (zextLow (8 * n) w) k = regByte w k := by
  refine regByte_ext fun j bit => ?_
  rw [zextLow, BitVec.getLsbD_setWidth, BitVec.getLsbD_setWidth, getLsbD_regByte _ _ bit, decide_eq_true (by omega),
    decide_eq_true (by omega)]
  simp

/-! ### The joined values -/

section
variable {s : State} {va old : Dword} {g : Target} {n : Nat} (size : n ≤ 8) (positive : 0 < n)
include size positive

theorem joinsLeft_mergeLeft :
    JoinsLeft s g n (va.toNat % n) old (mergeLeft n va (s.seenLE (blockOf g n) n) old) := by
  intro k inside
  unfold mergeLeft
  dsimp only
  rw [regByte_mergeBits_low _ _ _ (by omega)]
  by_cases above : n - 1 - va.toNat % n ≤ k
  · rw [if_pos above, if_neg (by omega), regByte_shiftLeft _ above (by omega), regByte_seenLE _ _ (by omega) size]
  · rw [if_neg above, if_pos (by omega)]

theorem joinsRight_mergeRight :
    JoinsRight s g n (va.toNat % n) old (mergeRight n va (s.seenLE (blockOf g n) n) old) := by
  intro k inside
  have offset : va.toNat % n < n := Nat.mod_lt _ positive
  unfold mergeRight
  dsimp only
  rw [regByte_mergeBits_low _ _ _ (by omega)]
  by_cases below : k + va.toNat % n < n
  · rw [if_pos below, if_pos (by omega), regByte_ushiftRight, regByte_zextLow _ (by omega) size,
      regByte_seenLE _ _ (by omega) size, Nat.add_assoc]
  · rw [if_neg below, if_neg (by omega)]

end

/-- Bytes 0 to 3 of a word's register are those of the word. -/
theorem regByte_setWidth_lowWord (v : Dword) {k : Nat} (inside : k < 4) :
    regByte ((lowWord v).setWidth 64) k = regByte v k := regByte_zextLow (n := 4) v inside (by decide)

theorem joinsLeft_lowWord {s : State} {g : Target} {b : Nat} {old v : Dword} (h : JoinsLeft s g 4 b old v) :
    JoinsLeft s g 4 b old ((lowWord v).setWidth 64) :=
  fun k inside => (regByte_setWidth_lowWord v inside).trans (h k inside)

theorem joinsRight_lowWord {s : State} {g : Target} {b : Nat} {old v : Dword} (h : JoinsRight s g 4 b old v) :
    JoinsRight s g 4 b old ((lowWord v).setWidth 64) :=
  fun k inside => (regByte_setWidth_lowWord v inside).trans (h k inside)

/-! ### Loads of a part of a block -/

section
variable {s : State} {va : Dword} {g : Target} {n : Nat}

theorem State.loadAround_of_blockReadable (readable : BlockReadable s va n g) :
    s.loadAround va n = .ok (s.seenLE (blockOf g n) n, Remembered s va g) := by
  obtain ⟨reaches, mapped⟩ := readable
  have mapped' : InMemory (Remembered s va g) (blockOf g n) n := by
    simpa only [InMemory, remembered_physAt] using mapped
  have read : (Remembered s va g).memRead (g.alignDown n).pa n = .ok (s.seenLE (blockOf g n) n) :=
    State.memRead_ok.2 ⟨mapped', remembered_seenLE s va g _ n⟩
  unfold State.loadAround State.loadAt
  rw [reach_of_reaches reaches]
  simp only [Res.bind, read]

theorem State.loadAround_fails : PartLoadFails s va n fun e => s.loadAround va n = .exc e :=
  accessFails_of_reach fun g err => State.loadAt_err (g := BlockTarget g n) (answersErr_remembered.2 err)

theorem State.leftLoad_fails (old : Dword) : PartLoadFails s va n fun e => s.leftLoad va n old = .exc e :=
  accessFails_mono State.loadAround_fails fun e raises => by
    rw [State.leftLoad, raises]
    rfl

theorem State.rightLoad_fails (old : Dword) : PartLoadFails s va n fun e => s.rightLoad va n old = .exc e :=
  accessFails_mono State.loadAround_fails fun e raises => by
    rw [State.rightLoad, raises]
    rfl

theorem State.leftLoad_of_blockReadable (old : Dword) (readable : BlockReadable s va n g) :
    s.leftLoad va n old = .ok (mergeLeft n va (s.seenLE (blockOf g n) n) old, Remembered s va g) := by
  rw [State.leftLoad, State.loadAround_of_blockReadable readable]
  rfl

theorem State.rightLoad_of_blockReadable (old : Dword) (readable : BlockReadable s va n g) :
    s.rightLoad va n old = .ok (mergeRight n va (s.seenLE (blockOf g n) n) old, Remembered s va g) := by
  rw [State.rightLoad, State.loadAround_of_blockReadable readable]
  rfl

/-! ### Stores of a part of a block -/

theorem State.storeLeft_fails (v : Dword) :
    AccessFails s va .store (fun g => blockOf g n) (va.toNat % n + 1) fun e => s.storeLeft va n v = .exc e :=
  accessFails_of_reach fun g err => State.memWrite_err (g := BlockTarget g n) _ (answersErr_remembered.2 err)

theorem State.storeRight_fails (v : Dword) :
    AccessFails s va .store here (n - va.toNat % n) fun e => s.storeRight va n v = .exc e :=
  accessFails_of_reach fun g err => State.memWrite_err (g := g) _ (answersErr_remembered.2 err)

theorem State.storeRight_of_reaches (v : Dword) (reaches : Reaches s va .store g)
    (ram : InRam s g.pa.toNat (n - va.toNat % n)) :
    s.storeRight va n v =
      .ok ((Remembered s va g).landStore g.cca ⟨g.pa.toNat, n - va.toNat % n, v⟩) := by
  unfold State.storeRight
  rw [reach_of_reaches reaches]
  have ram' : InRam (Remembered s va g) g.pa.toNat (n - va.toNat % n) := by
    simpa only [InRam, remembered_physAt] using ram
  exact State.memWrite_ok.2 ⟨ram', rfl⟩

end
end Sys2Proof.Machine
end

section
/-!
PROOFS of 49_fpu_move_mem.md, third part: loads to and stores from the floating-point registers (O49, O50).
-/
namespace Sys2Proof.Machine
open Sys2Proof.Claims

theorem gate21_on {s : State} (two : s.cu 2 = true) (one : s.cu 1 = true) (k : Out) : gate21 s k = k :=
  (needCop2_on two _).trans (needCop1_on one k)

/-! ### Bound checks (47_custom_int.md rule R633) -/

/-- An access behind its bound check fails with the check, off its boundary, and with its translation and bus. -/
theorem State.boundLoad_fails {s : State} {p : FpAccess} {n : Nat} {k : Dword × State → Out}
    (runs : exec p.instr s = (s.boundLoad p.va n p.ok).finish s k) : FpAccessFails s p n .load := by
  refine ⟨fun fails => ?_, fun passes off => ?_, fun passes boundary => ?_⟩
  · exact takes_of_finish runs (by rw [fails]; rfl)
  · rw [passes] at runs
    exact takes_of_finish runs (State.loadVirt_misaligned off)
  · rw [passes] at runs
    exact accessFails_mono (State.loadVirt_fails boundary) fun _ raises => takes_of_finish runs raises

theorem State.boundStore_fails {s : State} {p : FpAccess} {n : Nat} {v : Dword} {k : State → Out}
    (runs : exec p.instr s = (s.boundStore p.va n p.ok v).finish s k) : FpAccessFails s p n .store := by
  refine ⟨fun fails => ?_, fun passes off => ?_, fun passes boundary => ?_⟩
  · exact takes_of_finish runs (by rw [fails]; rfl)
  · rw [passes] at runs
    exact takes_of_finish runs (State.storeVirt_misaligned off)
  · rw [passes] at runs
    exact accessFails_mono (State.storeVirt_fails v boundary) fun _ raises => takes_of_finish runs raises

/-! ### Loads of a word and of a doubleword (49_fpu_move_mem.md rule R1104) -/

theorem remembered_fr (s : State) (va : Dword) (g : Target) : (Remembered s va g).fr = s.fr := by
  rw [remembered_fields]
  rfl

theorem remembered_fpr (s : State) (va : Dword) (g : Target) : (Remembered s va g).fpr = s.fpr := by
  rw [remembered_fields]

theorem fillsWord32_of_loadF32 {i : Instr} {s : State} {n : BitVec 5} {r : Res (Dword × State)} {v va : Dword}
    {g : Target} (runs : exec i s = s.loadF32 n r) (reads : r = .ok (v, Remembered s va g)) :
    FillsWord32 i s (Remembered s va g) n (lowWord v) := by
  rw [reads] at runs
  exact fillsWord32_of_writeF32 (remembered_fr s va g) (remembered_fpr s va g) runs

theorem putsFprFrom_of_loadF64 {i : Instr} {s u : State} {n : BitVec 5} {r : Res (Dword × State)} {v : Dword}
    {good : Dword → Prop} (ready : FpReady s [n]) (runs : exec i s = s.loadF64 n r) (reads : r = .ok (v, u))
    (holds : good v) : PutsFprFrom i s u n good := by
  rw [State.loadF64, needEven_ok _ ready.2, reads] at runs
  exact ⟨_, v, runs, u.writesFpr_advance n v, holds⟩

theorem fillsWord_of_boundLoad {s : State} {p : FpAccess}
    (runs : exec p.instr s = s.loadF32 p.reg (s.boundLoad p.va 4 p.ok)) : FillsWord s p := by
  refine ⟨fun passes g readable => ?_, State.boundLoad_fails runs⟩
  rw [passes] at runs
  exact fillsWord32_of_loadF32 runs (State.loadVirt_of_readable readable)

theorem fillsDouble_of_boundLoad {s : State} {p : FpAccess}
    (runs : exec p.instr s = s.loadF64 p.reg (s.boundLoad p.va 8 p.ok)) : FillsDouble s p := by
  intro ready
  refine ⟨fun passes g readable => ?_, ?_⟩
  · rw [passes] at runs
    exact putsFprFrom_of_loadF64 ready runs (State.loadVirt_of_readable readable) rfl
  · rw [State.loadF64, needEven_ok _ ready.2] at runs
    exact State.boundLoad_fails runs

theorem oddRegister_of_loadF64 {i : Instr} {s : State} {n : BitVec 5} {r : Res (Dword × State)}
    (runs : exec i s = s.loadF64 n r) (narrow : s.fr = false) (odd : n.getLsbD 0 = true) : OddRegister i s :=
  runs.trans (needEven_self_odd narrow odd _)

theorem doubleLoads_reg (s : State) (base n index : BitVec 5) (imm : BitVec 16) :
    ∀ p ∈ doubleLoads s base n index imm, p.reg = n := by simp [doubleLoads]

theorem customDoubleLoads_reg (s : State) (base n index : BitVec 5) (off : BitVec 8) :
    ∀ p ∈ customDoubleLoads s base n index off, p.reg = n := by simp [customDoubleLoads]

section
variable {s : State} (one : s.cu 1 = true) (base n index : BitVec 5) (imm : BitVec 16) (off : BitVec 8)
include one

theorem exec_wordLoads : ∀ p ∈ wordLoads s base n index imm,
    exec p.instr s = s.loadF32 p.reg (s.boundLoad p.va 4 p.ok) := by
  simp only [wordLoads, List.forall_mem_cons]
  exact ⟨needCop1_on one _, needCop1_on one _, nofun⟩

theorem exec_doubleLoads : ∀ p ∈ doubleLoads s base n index imm,
    exec p.instr s = s.loadF64 p.reg (s.boundLoad p.va 8 p.ok) := by
  simp only [doubleLoads, List.forall_mem_cons]
  exact ⟨needCop1_on one _, needCop1_on one _, needCop1_on one _, nofun⟩

variable (two : s.cu 2 = true)
include two

theorem exec_customWordLoads : ∀ p ∈ customWordLoads s base n index off,
    exec p.instr s = s.loadF32 p.reg (s.boundLoad p.va 4 p.ok) := by
  simp only [customWordLoads, List.forall_mem_cons]
  exact ⟨gate21_on two one _, gate21_on two one _, gate21_on two one _, nofun⟩

theorem exec_customDoubleLoads : ∀ p ∈ customDoubleLoads s base n index off,
    exec p.instr s = s.loadF64 p.reg (s.boundLoad p.va 8 p.ok) := by
  simp only [customDoubleLoads, List.forall_mem_cons]
  exact ⟨gate21_on two one _, gate21_on two one _, gate21_on two one _, nofun⟩

/-! ### Loads of a part of a block (49_fpu_move_mem.md rule R1143) -/

theorem partLoads_fill_word (g : Target) (readable : BlockReadable s (s.ea8 base off) 4 g) :
    FillsPart (.gslwlc1 base n off) s (Remembered s (s.ea8 base off) g) n
        (JoinsLeft s g 4 ((s.ea8 base off).toNat % 4) ((word32 s n).setWidth 64)) ∧
      FillsPart (.gslwrc1 base n off) s (Remembered s (s.ea8 base off) g) n
        (JoinsRight s g 4 ((s.ea8 base off).toNat % 4) ((word32 s n).setWidth 64)) := by
  rw [← State.readF32_eq]
  exact ⟨⟨_, fillsWord32_of_loadF32 (gate21_on two one _) (State.leftLoad_of_blockReadable _ readable),
      joinsLeft_lowWord (joinsLeft_mergeLeft (by decide) (by decide))⟩,
    ⟨_, fillsWord32_of_loadF32 (gate21_on two one _) (State.rightLoad_of_blockReadable _ readable),
      joinsRight_lowWord (joinsRight_mergeRight (by decide) (by decide))⟩⟩

theorem partLoads_fill_double (ready : FpReady s [n]) (g : Target) (readable : BlockReadable s (s.ea8 base off) 8 g) :
    PutsFprFrom (.gsldlc1 base n off) s (Remembered s (s.ea8 base off) g) n
        (JoinsLeft s g 8 ((s.ea8 base off).toNat % 8) (s.readFpr n)) ∧
      PutsFprFrom (.gsldrc1 base n off) s (Remembered s (s.ea8 base off) g) n
        (JoinsRight s g 8 ((s.ea8 base off).toNat % 8) (s.readFpr n)) :=
  ⟨putsFprFrom_of_loadF64 ready (gate21_on two one _) (State.leftLoad_of_blockReadable _ readable)
      (joinsLeft_mergeLeft (by decide) (by decide)),
    putsFprFrom_of_loadF64 ready (gate21_on two one _) (State.rightLoad_of_blockReadable _ readable)
      (joinsRight_mergeRight (by decide) (by decide))⟩

theorem partLoads_word_fail :
    PartLoadFails s (s.ea8 base off) 4 (Takes (.gslwlc1 base n off) s) ∧
      PartLoadFails s (s.ea8 base off) 4 (Takes (.gslwrc1 base n off) s) :=
  ⟨accessFails_mono (State.leftLoad_fails _) fun _ => takes_of_finish (gate21_on two one _),
    accessFails_mono (State.rightLoad_fails _) fun _ => takes_of_finish (gate21_on two one _)⟩

theorem partLoads_double_fail (ready : FpReady s [n]) :
    PartLoadFails s (s.ea8 base off) 8 (Takes (.gsldlc1 base n off) s) ∧
      PartLoadFails s (s.ea8 base off) 8 (Takes (.gsldrc1 base n off) s) :=
  ⟨accessFails_mono (State.leftLoad_fails _) fun _ =>
      takes_of_finish ((gate21_on two one _).trans (needEven_ok _ ready.2)),
    accessFails_mono (State.rightLoad_fails _) fun _ =>
      takes_of_finish ((gate21_on two one _).trans (needEven_ok _ ready.2))⟩

end

/-! ### GSLQC1 (49_fpu_move_mem.md rule R1123) -/

theorem State.readFpr_twice (s : State) (n q r : BitVec 5) (lo hi : Dword) :
    ((s.writeFpr n lo).writeFpr q hi).readFpr r = if r = q then hi else if r = n then lo else s.readFpr r := by
  rw [State.readFpr_writeFpr, State.readFpr_writeFpr]

@[simp] theorem quadRemembered_readFpr (s : State) (va : Dword) (g h : Target) (r : BitVec 5) :
    (QuadRemembered s va g h).readFpr r = s.readFpr r := by rw [quadRemembered_fields]; rfl

section
variable {s : State} {base n q : BitVec 5} {off : BitVec 9} (two : s.cu 2 = true) (ready : FpReady s [n, q])
include two ready

theorem exec_gslqc1 : exec (.gslqc1 base n off q) s =
    (s.loadQuad (QuadAddress s base off)).finish s fun p =>
      if n = q then .next (p.2.writeFpr n (s.quadPick p.1.1 p.1.2)).advance
      else .next ((p.2.writeFpr n p.1.1).writeFpr q p.1.2).advance := by
  rw [← State.ea9_eq]
  exact (gate21_on two ready.1 _).trans (needEven_ok _ ready.2)

theorem exec_gssqc1 : exec (.gssqc1 base n off q) s =
    (s.storeQuad (QuadAddress s base off) (s.readFpr n) (s.readFpr q)).finish s fun t => .next t.advance := by
  rw [← State.ea9_eq]
  exact (gate21_on two ready.1 _).trans (needEven_ok _ ready.2)

/-- Two registers take the two doublewords; one register takes one of them (log 10). -/
theorem fillsQuad_of_readable {g h : Target} (on : alignedQuad (QuadAddress s base off) false = .ok ())
    (readable : QuadReadable s (QuadAddress s base off) g h) : FillsQuad s base n q off g h := by
  have runs := exec_gslqc1 (base := base) (off := off) two ready
  rw [State.loadQuad_of_readable on readable] at runs
  by_cases same : n = q
  · refine ⟨_, runs.trans (if_pos same), ?_, fun a => by simp, rfl, fun other => absurd same other, fun _ => ?_⟩
    · exact ⟨by simp, by simp, rfl⟩
    · rcases s.quadPick_cases (s.seenLE g.pa.toNat 8) (s.seenLE h.pa.toNat 8) with pick | pick <;> rw [pick]
      · exact .inl fun r => by simp
      · exact .inr fun r => by simp
  · refine ⟨_, runs.trans (if_neg same), ?_, fun a => by simp, rfl, fun _ r => ?_, fun other => absurd other same⟩
    · exact ⟨by simp, by simp, rfl⟩
    · rw [State.advance_readFpr, State.readFpr_twice, quadRemembered_readFpr]

theorem quadCases_gslqc1 (g h : Target) :
    QuadCases (.gslqc1 base n off q) s (QuadAddress s base off) false
      ((QuadReadable s (QuadAddress s base off) g h → FillsQuad s base n q off g h) ∧
        QuadLoadFails s (QuadAddress s base off) (Takes (.gslqc1 base n off q) s)) :=
  quadCases_of
    (fun on => ⟨fillsQuad_of_readable two ready on,
      quadLoadFails_mono (State.loadQuad_fails on) fun _ => takes_of_finish (exec_gslqc1 two ready)⟩)
    fun raises => takes_of_finish (exec_gslqc1 two ready) (State.loadQuad_raises raises)

end

/-- A quad access that names an odd register stops (log 54). -/
theorem gate21_needEven_odd {s : State} {n q : BitVec 5} (two : s.cu 2 = true) (one : s.cu 1 = true)
    (narrow : s.fr = false) (odd : n.getLsbD 0 = true ∨ q.getLsbD 0 = true) (k : Out) :
    gate21 s (needEven s [n, q] k) = .fault .floatRegisterPair := by
  rw [gate21_on two one]
  rcases odd with odd | odd
  · exact needEven_odd k narrow (by simp) odd
  · exact needEven_odd k narrow (by simp) odd

/-! ### Stores of a word and of a doubleword (49_fpu_move_mem.md rule R1104) -/

theorem stores_of_storeVirt {i : Instr} {s : State} {va v : Dword} {n : Nat} {g : Target}
    (runs : exec i s = s.storeDone (s.storeVirt va n v)) (writable : Writable s va n g) : Stores i s va g n v :=
  stores_of_writable runs writable

theorem State.f32_eq (s : State) (n : BitVec 5) : s.f32 n = (word32 s n).setWidth 64 := by
  rw [State.f32, State.readF32_eq]

theorem spillsWord_of_boundStore {s : State} {p : FpAccess}
    (runs : exec p.instr s = s.storeDone (s.boundStore p.va 4 p.ok (s.f32 p.reg))) : SpillsWord s p := by
  refine ⟨fun passes g writable => ?_, State.boundStore_fails runs⟩
  rw [passes, State.f32_eq] at runs
  exact stores_of_storeVirt runs writable

theorem spillsDouble_of_boundStore {s : State} {p : FpAccess}
    (runs : exec p.instr s = needEven s [p.reg] (s.storeDone (s.boundStore p.va 8 p.ok (s.readFpr p.reg)))) :
    SpillsDouble s p := by
  intro ready
  rw [needEven_ok _ ready.2] at runs
  refine ⟨fun passes g writable => ?_, State.boundStore_fails runs⟩
  rw [passes] at runs
  exact stores_of_storeVirt runs writable

theorem doubleStores_reg (s : State) (base n index : BitVec 5) (imm : BitVec 16) :
    ∀ p ∈ doubleStores s base n index imm, p.reg = n := by simp [doubleStores]

theorem customDoubleStores_reg (s : State) (base n index : BitVec 5) (off : BitVec 8) :
    ∀ p ∈ customDoubleStores s base n index off, p.reg = n := by simp [customDoubleStores]

section
variable {s : State} (one : s.cu 1 = true) (base n index : BitVec 5) (imm : BitVec 16) (off : BitVec 8)
include one

theorem exec_wordStores : ∀ p ∈ wordStores s base n index imm,
    exec p.instr s = s.storeDone (s.boundStore p.va 4 p.ok (s.f32 p.reg)) := by
  simp only [wordStores, List.forall_mem_cons]
  exact ⟨needCop1_on one _, needCop1_on one _, nofun⟩

theorem exec_doubleStores : ∀ p ∈ doubleStores s base n index imm,
    exec p.instr s = needEven s [p.reg] (s.storeDone (s.boundStore p.va 8 p.ok (s.readFpr p.reg))) := by
  simp only [doubleStores, List.forall_mem_cons]
  exact ⟨needCop1_on one _, needCop1_on one _, needCop1_on one _, nofun⟩

variable (two : s.cu 2 = true)
include two

theorem exec_customWordStores : ∀ p ∈ customWordStores s base n index off,
    exec p.instr s = s.storeDone (s.boundStore p.va 4 p.ok (s.f32 p.reg)) := by
  simp only [customWordStores, List.forall_mem_cons]
  exact ⟨gate21_on two one _, gate21_on two one _, gate21_on two one _, nofun⟩

theorem exec_customDoubleStores : ∀ p ∈ customDoubleStores s base n index off,
    exec p.instr s = needEven s [p.reg] (s.storeDone (s.boundStore p.va 8 p.ok (s.readFpr p.reg))) := by
  simp only [customDoubleStores, List.forall_mem_cons]
  exact ⟨gate21_on two one _, gate21_on two one _, gate21_on two one _, nofun⟩

end

/-! ### Stores of a part of a block (49_fpu_move_mem.md rule R1143) -/

theorem storesLeft_of_storeLeft {i : Instr} {s : State} {va v : Dword} {g : Target} {n : Nat}
    (runs : exec i s = s.storeDone (s.storeLeft va n v)) (reaches : Reaches s va .store g) :
    StoresLeft i s va g n v := by
  intro ram
  rw [State.storeLeft_of_reaches v reaches ram] at runs
  exact ⟨_, runs, (Remembered s va g).storesTo_advance (BlockTarget g n) _ _⟩

theorem storesRight_of_storeRight {i : Instr} {s : State} {va v : Dword} {g : Target} {n : Nat}
    (runs : exec i s = s.storeDone (s.storeRight va n v)) (reaches : Reaches s va .store g) :
    StoresRight i s va g n v := by
  intro ram
  rw [State.storeRight_of_reaches v reaches ram] at runs
  exact ⟨_, runs, (Remembered s va g).storesTo_advance g _ _⟩

section
variable {s : State} (one : s.cu 1 = true) (two : s.cu 2 = true) (base n : BitVec 5) (off : BitVec 8)
include one two

theorem partStores_spill (g : Target) (reaches : Reaches s (s.ea8 base off) .store g) :
    StoresLeft (.gsswlc1 base n off) s (s.ea8 base off) g 4 ((word32 s n).setWidth 64) ∧
      StoresRight (.gsswrc1 base n off) s (s.ea8 base off) g 4 ((word32 s n).setWidth 64) ∧
      (FpReady s [n] → StoresLeft (.gssdlc1 base n off) s (s.ea8 base off) g 8 (s.readFpr n) ∧
        StoresRight (.gssdrc1 base n off) s (s.ea8 base off) g 8 (s.readFpr n)) := by
  rw [← State.f32_eq]
  exact ⟨storesLeft_of_storeLeft (gate21_on two one _) reaches, storesRight_of_storeRight (gate21_on two one _) reaches,
    fun ready =>
      ⟨storesLeft_of_storeLeft ((gate21_on two one _).trans (needEven_ok _ ready.2)) reaches,
        storesRight_of_storeRight ((gate21_on two one _).trans (needEven_ok _ ready.2)) reaches⟩⟩

theorem partStores_word_fail : LeftStoreFails (.gsswlc1 base n off) s (s.ea8 base off) 4 ∧
    RightStoreFails (.gsswrc1 base n off) s (s.ea8 base off) 4 :=
  ⟨accessFails_mono (State.storeLeft_fails _) fun _ => takes_of_finish (gate21_on two one _),
    accessFails_mono (State.storeRight_fails _) fun _ => takes_of_finish (gate21_on two one _)⟩

theorem partStores_double_fail (ready : FpReady s [n]) : LeftStoreFails (.gssdlc1 base n off) s (s.ea8 base off) 8 ∧
    RightStoreFails (.gssdrc1 base n off) s (s.ea8 base off) 8 :=
  ⟨accessFails_mono (State.storeLeft_fails _) fun _ =>
      takes_of_finish ((gate21_on two one _).trans (needEven_ok _ ready.2)),
    accessFails_mono (State.storeRight_fails _) fun _ =>
      takes_of_finish ((gate21_on two one _).trans (needEven_ok _ ready.2))⟩

end
end Sys2Proof.Machine

namespace Sys2Proof.Claims
open Sys2Proof.Machine

/-- Settles O49: every row is a bound-checked load behind its gate, the left and right forms join the bytes of their
block, and GSLQC1 is a quad load. -/
theorem floatingLoadsFillOneLocation : Obligations.FloatingLoadsFillOneLocation := by
  intro s base n q index imm off off9 one
  refine ⟨fun p row => fillsWord_of_boundLoad (exec_wordLoads one base n index imm p row), fun p row => ?_,
    fun two => ⟨fun p row => fillsWord_of_boundLoad (exec_customWordLoads one base n index off two p row),
      fun p row => fillsDouble_of_boundLoad (exec_customDoubleLoads one base n index off two p row),
      fun narrow odd => ?_, fun narrow odd => gate21_needEven_odd two one narrow odd _,
      ⟨partLoads_fill_word one base n off two, partLoads_fill_double one base n off two,
        partLoads_word_fail one base n off two, partLoads_double_fail one base n off two⟩,
      quadCases_gslqc1 two⟩⟩
  · have runs := exec_doubleLoads one base n index imm p row
    refine ⟨fillsDouble_of_boundLoad runs, fun narrow odd => oddRegister_of_loadF64 runs narrow ?_⟩
    rwa [doubleLoads_reg s base n index imm p row]
  · refine ⟨fun p row => oddRegister_of_loadF64 (exec_customDoubleLoads one base n index off two p row) narrow ?_,
      oddRegister_of_loadF64 (gate21_on two one _) narrow odd, oddRegister_of_loadF64 (gate21_on two one _) narrow odd⟩
    rwa [customDoubleLoads_reg s base n index off p row]

/-- Settles O50: every row is a bound-checked store behind its gate, the left and right forms store a part of the
register, and GSSQC1 is a quad store. -/
theorem floatingStoresWriteExactlyTheirBytes : Obligations.FloatingStoresWriteExactlyTheirBytes := by
  intro s base n q index imm off off9 one
  have stops (narrow : s.fr = false) {r : BitVec 5} (odd : r.getLsbD 0 = true) := needEven_self_odd narrow odd
  refine ⟨fun p row => spillsWord_of_boundStore (exec_wordStores one base n index imm p row), fun p row => ?_,
    fun two => ⟨fun p row => spillsWord_of_boundStore (exec_customWordStores one base n index off two p row),
      fun p row => spillsDouble_of_boundStore (exec_customDoubleStores one base n index off two p row),
      fun narrow odd => ?_, fun narrow odd => gate21_needEven_odd two one narrow odd _,
      ⟨partStores_spill one two base n off, partStores_word_fail one two base n off,
        partStores_double_fail one two base n off⟩,
      fun ready g h => quadCases_of_storeQuad g h (exec_gssqc1 two ready)⟩⟩
  · have runs := exec_doubleStores one base n index imm p row
    refine ⟨spillsDouble_of_boundStore runs, fun narrow odd => runs.trans (stops narrow ?_ _)⟩
    rwa [doubleStores_reg s base n index imm p row]
  · refine ⟨fun p row => (exec_customDoubleStores one base n index off two p row).trans (stops narrow ?_ _),
      (gate21_on two one _).trans (stops narrow odd _), (gate21_on two one _).trans (stops narrow odd _)⟩
    rwa [customDoubleStores_reg s base n index off p row]

end Sys2Proof.Claims
end

section
/-!
SUPPORT. The exception procedure of the floating-point instructions (49_fpu.md rule R805; 10_state.md rule R57).
-/
namespace Sys2Proof.Machine
open Sys2Proof.Claims

/-! ### Cause and Flags -/

theorem getLsbD_setFpCause (f : Word) (c : Conds) {b : Nat} (inside : b < 32) :
    (setFpCause f c).getLsbD b = if 12 ≤ b ∧ b < 18 then c.getLsbD (b - 12) else f.getLsbD b := by
  rw [setFpCause, getLsbD_putField _ _ _ _ inside, BitVec.getLsbD_setWidth, decide_eq_true (by omega), Bool.true_and]

theorem extractLsb'_setFpCause (f : Word) (c : Conds) : (setFpCause f c).extractLsb' 12 6 = c := by
  rw [setFpCause, extractLsb'_putField _ _ (by decide), BitVec.setWidth_setWidth_of_le _ (by decide),
    BitVec.setWidth_eq]

theorem addFpFlags_setFpCause (f : Word) (c : Conds) : addFpFlags (setFpCause f c) (c.setWidth 5) = fcsrAfter f c := by
  apply BitVec.eq_of_getLsbD_eq
  intro b hb
  rw [addFpFlags, BitVec.getLsbD_or, getLsbD_setFpCause _ _ hb]
  unfold fcsrAfter
  interval_cases b <;> simp

/-- What traps: E, or a condition whose Enable is set (10_state.md rule R57). -/
theorem trapPending_setFpCause (f : Word) (c : Conds) :
    trapPending (setFpCause f c) = (c.getLsbD 5 || (c.setWidth 5 &&& f.extractLsb' 7 5) != 0) := by
  have cause : (setFpCause f c).extractLsb' 12 5 = c.setWidth 5 := by
    apply BitVec.eq_of_getLsbD_eq
    intro b hb
    rw [BitVec.getLsbD_extractLsb', getLsbD_setFpCause _ _ (by omega), if_pos (by omega), BitVec.getLsbD_setWidth,
      Nat.add_sub_cancel_left]
  have enables : (setFpCause f c).extractLsb' 7 5 = f.extractLsb' 7 5 := by
    apply BitVec.eq_of_getLsbD_eq
    intro b hb
    rw [BitVec.getLsbD_extractLsb', BitVec.getLsbD_extractLsb', getLsbD_setFpCause _ _ (by omega), if_neg (by omega)]
  rw [trapPending, cause, enables, getLsbD_setFpCause _ _ (by decide), if_pos (by decide)]

theorem State.causeOf_handled (s : State) {c : Conds} (handled : c.getLsbD 5 = false) : s.causeOf c = c :=
  if_neg (Bool.eq_false_iff.1 handled)

theorem State.causeOf_unimplemented (s : State) {c : Conds} (unimplemented : c.getLsbD 5 = true) :
    (s.causeOf c).getLsbD 5 = true := by
  rw [State.causeOf, if_pos unimplemented, BitVec.getLsbD_or]
  exact Bool.true_or _

theorem untrapped_iff (s : State) (c : Conds) :
    Untrapped s c ↔ ¬ trapPending (setFpCause s.fcsr (s.causeOf c)) = true := by
  rw [trapPending_setFpCause]
  cases unimplemented : c.getLsbD 5 with
  | true =>
    rw [s.causeOf_unimplemented unimplemented, Bool.true_or]
    exact iff_of_false (fun h => Bool.noConfusion (unimplemented.symm.trans h.1)) (not_not.2 rfl)
  | false => simp [Untrapped, s.causeOf_handled unimplemented]

/-- An instruction that ends with the exception procedure writes its result, or traps with Cause written. -/
theorem fpEnds_of_fpFinish {i : Instr} {s : State} {c : Conds} {write : State → State} {done : State → Prop}
    (runs : exec i s = s.fpFinish c write)
    (completes : done (write (s.setFcsr (fcsrAfter s.fcsr c))).advance) : FpEnds i s c done := by
  unfold State.fpFinish at runs
  dsimp only at runs
  refine ⟨fun quiet => ?_, fun trap => ?_⟩
  · rw [if_neg ((untrapped_iff s c).1 quiet), s.causeOf_handled quiet.1, addFpFlags_setFpCause] at runs
    exact ⟨_, runs, completes⟩
  · rw [if_pos (not_not.1 (mt (untrapped_iff s c).2 trap))] at runs
    refine ⟨_, runs, fun b outside => ?_, fun handled => ?_, fun unimplemented => ?_⟩
    · by_cases inside : b < 32
      · rw [getLsbD_setFpCause _ _ inside, if_neg (by omega)]
      · rw [BitVec.getLsbD_of_ge _ b (by omega), BitVec.getLsbD_of_ge _ b (by omega)]
    · rw [extractLsb'_setFpCause, s.causeOf_handled handled]
    · rw [getLsbD_setFpCause _ _ (by decide), if_pos (by decide)]
      exact s.causeOf_unimplemented unimplemented

/-! ### Results -/

/-- A 32-bit result: the upper half is open. -/
theorem writesLow_writeSingle (s : State) (fd : BitVec 5) (v f : Word) :
    WritesLow s fd v f ((s.setFcsr f).writeSingle fd v).advance :=
  ⟨_, s.writesFprFcsr_advance fd _ f⟩

/-! ### Legal register numbers -/

theorem fpReady_mono {s : State} {l m : List (BitVec 5)} (ready : FpReady s l) (sub : ∀ r ∈ m, r ∈ l) : FpReady s m :=
  ⟨ready.1, ready.2.imp_right fun even r named => even r (sub r named)⟩

theorem namesOdd_mono {l m : List (BitVec 5)} (odd : NamesOdd l) (sub : ∀ r ∈ l, r ∈ m) : NamesOdd m :=
  let ⟨r, named, bit⟩ := odd
  ⟨r, sub r named, bit⟩

end Sys2Proof.Machine
end

section
/-!
PROOFS of 49_fpu.md, second part: compares, and operands that are not handled (O41, O43).
-/
namespace Sys2Proof.Machine
open Sys2Proof.Claims

/-! ### Compares (49_fpu.md rules R848 to R851) -/

/-- The model's compare is the condition's three bits, and the signal of its fourth. -/
theorem Fmt.condition_eq (f : Fmt) (cond : BitVec 4) (x y : Nat) :
    f.condition cond x y = (condSignal f cond x y, condResult f cond x y) := by
  unfold Fmt.condition condSignal condResult
  by_cases unordered : (f.isNan x || f.isNan y) = true
  · have signals : (cond.getLsbD 3 || f.isSignaling x || f.isSignaling y) =
        (f.isSignaling x || f.isSignaling y || (cond.getLsbD 3 && (f.isNan x || f.isNan y))) := by
      rw [unordered, Bool.and_true, Bool.or_assoc, Bool.or_comm]
    rw [if_pos unordered, if_pos unordered, signals]
    rfl
  · have ordered : f.isNan x = false ∧ f.isNan y = false := by simpa using unordered
    have quiet v (number : f.isNan v = false) : f.isSignaling v = false := by simp [Fmt.isSignaling, number]
    rw [if_neg unordered, if_neg unordered, quiet x ordered.1, quiet y ordered.2, ordered.1, ordered.2]
    simp [Bool.or_comm]

/-- Each row of the table is the model's compare of its condition. -/
theorem exec_compares : ∀ p ∈ compares, ∀ (s : State) (ft fs : BitVec 5) (cc : BitVec 3),
    exec (p.2.1 ft fs cc) s =
        fpGate s [ft, fs] (s.fpCompare .single p.1 (singleOf (s.readFpr fs)) (singleOf (s.readFpr ft)) cc) ∧
      exec (p.2.2.1 ft fs cc) s =
        fpGate s [ft, fs] (s.fpCompare .double p.1 (s.readFpr fs).toNat (s.readFpr ft).toNat cc) ∧
      exec (p.2.2.2 ft fs cc) s = fpGate64 s (s.fpComparePaired p.1 ft fs cc) := by
  simp only [compares, List.forall_mem_cons]
  exact ⟨fun _ _ _ _ => ⟨rfl, rfl, rfl⟩, fun _ _ _ _ => ⟨rfl, rfl, rfl⟩, fun _ _ _ _ => ⟨rfl, rfl, rfl⟩,
    fun _ _ _ _ => ⟨rfl, rfl, rfl⟩, fun _ _ _ _ => ⟨rfl, rfl, rfl⟩, fun _ _ _ _ => ⟨rfl, rfl, rfl⟩,
    fun _ _ _ _ => ⟨rfl, rfl, rfl⟩, fun _ _ _ _ => ⟨rfl, rfl, rfl⟩, fun _ _ _ _ => ⟨rfl, rfl, rfl⟩,
    fun _ _ _ _ => ⟨rfl, rfl, rfl⟩, fun _ _ _ _ => ⟨rfl, rfl, rfl⟩, fun _ _ _ _ => ⟨rfl, rfl, rfl⟩,
    fun _ _ _ _ => ⟨rfl, rfl, rfl⟩, fun _ _ _ _ => ⟨rfl, rfl, rfl⟩, fun _ _ _ _ => ⟨rfl, rfl, rfl⟩,
    fun _ _ _ _ => ⟨rfl, rfl, rfl⟩, nofun⟩

section
variable {i : Instr} {s : State}

theorem codesWritten_one (c : Conds) (cc : Nat) (b : Bool) :
    CodesWritten s c [(cc, b)]
      ((s.setFcsr (fcsrAfter s.fcsr c)).setFcsr (setFcc (fcsrAfter s.fcsr c) cc b)).advance := by
  refine ⟨s.writesFcsr_advance _, fun bit inside => ?_⟩
  show (setFcc _ cc b).getLsbD bit = _
  rw [setFcc, getLsbD_putBit _ _ _ inside]
  by_cases here : bit = fccBit cc
  · subst here
    simp [codeBit, fccBit]
  · rw [if_neg here, List.find?_cons_of_neg (by simpa [codeBit, fccBit] using Ne.symm here)]
    rfl

/-- A compare writes its result into one condition code, or traps. -/
theorem fpEnds_of_fpCompare {f : Fmt} {cond : BitVec 4} {x y : Nat} {cc : BitVec 3}
    (runs : exec i s = s.fpCompare f cond x y cc) :
    FpEnds i s (condSignal f cond x y)
      (CodesWritten s (condSignal f cond x y) [(cc.toNat, condResult f cond x y)]) := by
  rw [State.fpCompare, Fmt.condition_eq] at runs
  exact fpEnds_of_fpFinish runs (codesWritten_one _ _ _)

theorem fccBit_succ_ne (cc : Nat) : fccBit (cc + 1) ≠ fccBit cc := by
  unfold fccBit
  split <;> split <;> omega

theorem codesWritten_two (c : Conds) (cc : Nat) (lower upper : Bool) :
    CodesWritten s c [(cc, lower), (cc + 1, upper)]
      ((s.setFcsr (fcsrAfter s.fcsr c)).setFcsr
        (setFcc (setFcc (fcsrAfter s.fcsr c) cc lower) (cc + 1) upper)).advance := by
  refine ⟨s.writesFcsr_advance _, fun bit inside => ?_⟩
  show (setFcc (setFcc _ cc lower) (cc + 1) upper).getLsbD bit = _
  rw [setFcc, getLsbD_putBit _ _ _ inside, setFcc, getLsbD_putBit _ _ _ inside]
  by_cases low : bit = fccBit cc
  · subst low
    rw [if_neg (fccBit_succ_ne cc).symm, if_pos rfl]
    simp [codeBit, fccBit]
  rw [List.find?_cons_of_neg (by simpa [codeBit, fccBit] using Ne.symm low)]
  by_cases high : bit = fccBit (cc + 1)
  · subst high
    simp [codeBit, fccBit]
  · rw [if_neg low, if_neg high, List.find?_cons_of_neg (by simpa [codeBit, fccBit] using Ne.symm high)]
    rfl

/-- Writing the condition codes keeps the rest of FCSR. -/
theorem writeFccr_rest (f v : Word) : writeFccr f v &&& 0x017FFFFF = f &&& 0x017FFFFF := by
  apply BitVec.eq_of_getLsbD_eq
  intro b hb
  rw [writeFccr_eq]
  interval_cases b <;> simp

theorem fpEnds_of_fpComparePaired {cond : BitVec 4} {ft fs : BitVec 5} {cc : BitVec 3}
    (runs : exec i s = s.fpComparePaired cond ft fs cc) :
    let a := s.readFpr fs
    let b := s.readFpr ft
    let c := condSignal .single cond (upperOf a) (upperOf b) ||| condSignal .single cond (singleOf a) (singleOf b)
    FpEnds i s c fun t =>
      (cc.getLsbD 0 = false → CodesWritten s c
        [(cc.toNat, condResult .single cond (singleOf a) (singleOf b)),
         (cc.toNat + 1, condResult .single cond (upperOf a) (upperOf b))] t) ∧
      (cc.getLsbD 0 = true → s.writesFcsr t t.fcsr ∧
        t.fcsr &&& 0x017FFFFF = fcsrAfter s.fcsr c &&& 0x017FFFFF) := by
  simp only [State.fpComparePaired, Fmt.condition_eq] at runs
  refine fpEnds_of_fpFinish runs ⟨fun even => ?_, fun odd => ?_⟩
  · rw [State.pairCodes, if_neg (Bool.eq_false_iff.1 even)]
    exact codesWritten_two _ _ _ _
  · rw [State.pairCodes, if_pos odd]
    exact ⟨s.writesFcsr_advance _, writeFccr_rest _ _⟩

end

/-! ### Arithmetic (49_fpu.md section 2) -/

/-- The outcome of an arithmetic instruction on singles read by `x`. -/
def State.outcome (s : State) (f : Fmt) (op : FpOp) (x : Dword → Nat) (fr ft fs : BitVec 5) : FpOut :=
  f.operate s.fpEnv s.recipPick s.recipNoisy op (x (s.readFpr fs)) (x (s.readFpr ft)) (x (s.readFpr fr))

/-- Each row is the model's arithmetic of its operation, behind the gate for the registers it names. -/
theorem exec_singleOps (s : State) (fr ft fs fd : BitVec 5) : ∀ p ∈ singleOps, exec (p.1 fr ft fs fd) s =
    fpGate s (namedRegisters p.2 fr ft fs fd).reverse
      (s.fpFinish (s.outcome .single p.2 singleOf fr ft fs).conds fun t =>
        t.writeSingle fd (BitVec.ofNat 32 (s.outcome .single p.2 singleOf fr ft fs).bits)) := by
  simp only [singleOps, List.forall_mem_cons]
  exact ⟨rfl, rfl, rfl, rfl, rfl, rfl, rfl, rfl, rfl, rfl, rfl, rfl, rfl, nofun⟩

theorem exec_doubleOps (s : State) (fr ft fs fd : BitVec 5) : ∀ p ∈ doubleOps, exec (p.1 fr ft fs fd) s =
    fpGate s (namedRegisters p.2 fr ft fs fd).reverse
      (s.fpFinish (s.outcome .double p.2 BitVec.toNat fr ft fs).conds fun t =>
        t.writeDouble fd (s.outcome .double p.2 BitVec.toNat fr ft fs).bits) := by
  simp only [doubleOps, List.forall_mem_cons]
  exact ⟨rfl, rfl, rfl, rfl, rfl, rfl, rfl, rfl, rfl, rfl, rfl, rfl, rfl, nofun⟩

theorem exec_pairedOps (s : State) (fr ft fs fd : BitVec 5) : ∀ p ∈ pairedOps, exec (p.1 fr ft fs fd) s =
    fpGate64 s (s.fpFinish ((s.outcome .single p.2 upperOf fr ft fs).conds |||
        (s.outcome .single p.2 singleOf fr ft fs).conds) fun t =>
      t.writeFpr fd (BitVec.ofNat 32 (s.outcome .single p.2 upperOf fr ft fs).bits ++
        BitVec.ofNat 32 (s.outcome .single p.2 singleOf fr ft fs).bits)) := by
  simp only [pairedOps, List.forall_mem_cons]
  exact ⟨rfl, rfl, rfl, rfl, rfl, rfl, rfl, rfl, rfl, nofun⟩

/-- Every operation has one to three operands. -/
theorem FpOp.arity_pos (op : FpOp) : 0 < op.arity := by cases op <;> decide

theorem operands_take (op : FpOp) (x y z : Nat) :
    x ∈ [x, y, z].take op.arity ∧ (2 ≤ op.arity → y ∈ [x, y, z].take op.arity) ∧
      (3 ≤ op.arity → z ∈ [x, y, z].take op.arity) := by
  have first := op.arity_pos
  simp only [List.mem_take_iff_getElem]
  exact ⟨⟨0, by simp; omega, rfl⟩, fun two => ⟨1, by simp; omega, rfl⟩, fun three => ⟨2, by simp; omega, rfl⟩⟩

theorem any_unhandled_iff {f : Fmt} {l : List Nat} :
    (l.any fun v => f.isDenormal v || f.isQuiet v) = true ↔ ∃ v ∈ l, Unhandled f v := by
  simp only [List.any_eq_true, Bool.or_eq_true, Unhandled]

theorem not_any_unhandled {f : Fmt} {l : List Nat} (handled : ∀ v ∈ l, ¬ Unhandled f v) :
    ¬ (l.any fun v => f.isDenormal v || f.isQuiet v) = true :=
  fun h => let ⟨v, operand, unhandled⟩ := any_unhandled_iff.1 h
    handled v operand unhandled

/-- An operand that is not handled makes the operation Unimplemented (49_fpu.md rule R807 (a), (b)). -/
theorem screen_unhandled {f : Fmt} {l : List Nat} (h : ∃ v ∈ l, Unhandled f v) (default : Nat) (k : FpOut) :
    screen f l default k = ⟨condE, 0⟩ :=
  if_pos (any_unhandled_iff.2 h)

/-- Operands that are handled, a signaling NaN among them, make it invalid (49_fpu.md rule R808). -/
theorem screen_signaling {f : Fmt} {l : List Nat} (handled : ∀ v ∈ l, ¬ Unhandled f v)
    (h : ∃ v ∈ l, f.isSignaling v = true) (default : Nat) (k : FpOut) : screen f l default k = ⟨condV, default⟩ :=
  (if_neg (not_any_unhandled handled)).trans (if_pos (List.any_eq_true.2 h))

/-- Other operands go to the operation. -/
theorem screen_numbers {f : Fmt} {l : List Nat} (handled : ∀ v ∈ l, ¬ Unhandled f v)
    (numbers : ∀ v ∈ l, f.isSignaling v = false) (default : Nat) (k : FpOut) : screen f l default k = k := by
  have quiet : ¬ l.any f.isSignaling = true := by
    simpa only [List.any_eq_true, not_exists, not_and, Bool.not_eq_true] using numbers
  exact (if_neg (not_any_unhandled handled)).trans (if_neg quiet)

theorem operate_unhandled {f : Fmt} {op : FpOp} {x y z : Nat} (env : FpEnv) (pick : Nat) (noisy : Bool)
    (h : Unhandled f x ∨ (2 ≤ op.arity ∧ Unhandled f y) ∨ (3 ≤ op.arity ∧ Unhandled f z)) :
    f.operate env pick noisy op x y z = ⟨condE, 0⟩ := by
  obtain ⟨first, second, third⟩ := operands_take op x y z
  refine screen_unhandled ?_ _ _
  rcases h with h | ⟨two, h⟩ | ⟨three, h⟩
  · exact ⟨x, first, h⟩
  · exact ⟨y, second two, h⟩
  · exact ⟨z, third three, h⟩

/-- Unimplemented Operation traps whatever the Enables are, and writes Cause only. -/
theorem fpFinish_unimplemented {i : Instr} {s : State} {write : State → State}
    (runs : exec i s = s.fpFinish condE write) :
    ∃ f, exec i s = .next ((s.setFcsr f).takeException .fpe) ∧ f.getLsbD 17 = true ∧
      (∀ b, b < 12 ∨ 18 ≤ b → f.getLsbD b = s.fcsr.getLsbD b) ∧
      ∀ r, ((s.setFcsr f).takeException .fpe).readFpr r = s.readFpr r := by
  have ends := fpEnds_of_fpFinish (done := fun _ => True) runs trivial
  obtain ⟨f, trap, kept, -, e⟩ := ends.2 fun quiet => Bool.noConfusion quiet.1
  exact ⟨f, trap, e rfl, kept, fun r => by simp⟩

end Sys2Proof.Machine

namespace Sys2Proof.Claims
open Sys2Proof.Machine

/-- Settles O41: every row is one compare of its condition, and the exception procedure ends it. -/
theorem comparesWriteOneConditionCode : Obligations.ComparesWriteOneConditionCode := by
  intro s ft fs cc p row
  obtain ⟨single, double, paired⟩ := exec_compares p row s ft fs cc
  refine ⟨fun ready => ⟨?_, ?_, fun wide => ?_⟩, fun unusable => ?_, fun usable narrow => ⟨?_, fun odd => ?_⟩⟩
  · exact fpEnds_of_fpCompare (single.trans (fpGate_ready ready _))
  · exact fpEnds_of_fpCompare (double.trans (fpGate_ready ready _))
  · exact fpEnds_of_fpComparePaired (paired.trans (fpGate64_on ready.1 wide _))
  · exact ⟨single.trans (needCop1_off unusable _), double.trans (needCop1_off unusable _),
      paired.trans (needCop1_off unusable _)⟩
  · exact paired.trans (fpGate64_narrow usable narrow _)
  · exact ⟨single.trans (fpGate_odd usable narrow odd _), double.trans (fpGate_odd usable narrow odd _)⟩

/-- Settles O43: the screen of the operands comes before the operation, and Unimplemented always traps. -/
theorem denormalAndQuietNanOperandsAreUnimplemented : Obligations.DenormalAndQuietNanOperandsAreUnimplemented := by
  intro s fr ft fs fd ready
  have named (op : FpOp) : FpReady s (namedRegisters op fr ft fs fd).reverse := by
    refine fpReady_mono ready fun r named => ?_
    rcases List.mem_cons.1 (List.mem_reverse.1 named) with rfl | source
    · simp
    · have source := List.mem_of_mem_take source
      simp only [List.mem_cons, List.not_mem_nil, or_false] at source ⊢
      tauto
  refine ⟨fun p row unhandled => ?_, fun p row unhandled => ?_⟩
  · have runs := (exec_singleOps s fr ft fs fd p row).trans (fpGate_ready (named p.2) _)
    rw [State.outcome, operate_unhandled _ _ _ unhandled] at runs
    exact fpFinish_unimplemented runs
  · have runs := (exec_doubleOps s fr ft fs fd p row).trans (fpGate_ready (named p.2) _)
    rw [State.outcome, operate_unhandled _ _ _ unhandled] at runs
    exact fpFinish_unimplemented runs

end Sys2Proof.Claims
end

section
/-!
SUPPORT. Finite numbers as rationals: sums, products, comparisons and rounding to an integer (49_fpu.md rules R804,
R811, R848; 10_state.md rule R58).
-/
namespace Sys2Proof.Machine
open Sys2Proof.Claims

/-! ### The value of a number -/

theorem valueOf_fin (neg : Bool) (m : Nat) (e : ℤ) : valueOf (.fin neg m e) = signed neg m * (2 : ℚ) ^ e := by
  cases neg <;> simp [valueOf, signed]

/-- The same number at a lower exponent. -/
theorem valueOf_lower (neg : Bool) (m : Nat) {e low : ℤ} (le : low ≤ e) :
    valueOf (.fin neg m e) = (signed neg (m * 2 ^ (e - low).toNat) : ℚ) * (2 : ℚ) ^ low := by
  obtain ⟨d, rfl⟩ : ∃ d : ℕ, e = d + low := ⟨(e - low).toNat, by omega⟩
  rw [valueOf_fin, add_sub_cancel_right, Int.toNat_natCast, zpow_add₀ two_ne_zero, zpow_natCast]
  cases neg <;> simp [signed] <;> ring

theorem signed_natAbs (t : ℤ) : signed (decide (t < 0)) t.natAbs = t := by
  unfold signed
  by_cases negative : t < 0
  · simp [negative, abs_of_neg negative]
  · simp [negative, abs_of_nonneg (not_lt.1 negative)]

/-! ### Sum, product and comparison -/

theorem Num.add_fin (rm : Rounding) (a b : Bool) (m n : Nat) (e k : ℤ) :
    ∃ c r l, (Num.fin a m e).add rm (.fin b n k) = some (.fin c r l) ∧
      valueOf (.fin c r l) = valueOf (.fin a m e) + valueOf (.fin b n k) ∧
      (valueOf (.fin a m e) + valueOf (.fin b n k) = 0 → c = sumSign rm a b) := by
  have pos : (2 : ℚ) ^ min e k ≠ 0 := zpow_ne_zero _ two_ne_zero
  rw [valueOf_lower a m (min_le_left e k), valueOf_lower b n (min_le_right e k), ← add_mul]
  unfold Num.add
  dsimp only
  by_cases zero : signed a (m * 2 ^ (e - min e k).toNat) + signed b (n * 2 ^ (k - min e k).toNat) = 0
  · rw [if_pos zero]
    have sum : (signed a (m * 2 ^ (e - min e k).toNat) : ℚ) + signed b (n * 2 ^ (k - min e k).toNat) = 0 :=
      mod_cast zero
    rw [sum, zero_mul]
    exact ⟨_, 0, 0, rfl, valueOf_eq_zero_iff.2 rfl, fun _ => rfl⟩
  · rw [if_neg zero]
    refine ⟨_, _, _, rfl, ?_, fun sum => ?_⟩
    · rw [valueOf_fin, signed_natAbs]
      push_cast
      ring
    · exact absurd (by exact_mod_cast (mul_eq_zero.1 sum).resolve_right pos) zero

theorem Num.mul_fin (a b : Bool) (m n : Nat) (e k : ℤ) :
    (Num.fin a m e).mul (.fin b n k) = some (.fin (a ^^ b) (m * n) (e + k)) ∧
      valueOf (.fin (a ^^ b) (m * n) (e + k)) = valueOf (.fin a m e) * valueOf (.fin b n k) := by
  refine ⟨rfl, ?_⟩
  rw [valueOf_fin, valueOf_fin, valueOf_fin, zpow_add₀ two_ne_zero]
  cases a <;> cases b <;> simp [signed] <;> ring

theorem Num.compare_fin (a b : Bool) (m n : Nat) (e k : ℤ) :
    (((Num.fin a m e).compare (.fin b n k)).1 = true ↔ valueOf (.fin a m e) < valueOf (.fin b n k)) ∧
      (((Num.fin a m e).compare (.fin b n k)).2 = true ↔ valueOf (.fin a m e) = valueOf (.fin b n k)) := by
  have pos : (0 : ℚ) < 2 ^ min e k := by positivity
  rw [valueOf_lower a m (min_le_left e k), valueOf_lower b n (min_le_right e k), mul_lt_mul_iff_left₀ pos,
    mul_left_inj' pos.ne', Int.cast_lt, Int.cast_inj]
  exact ⟨decide_eq_true_iff, decide_eq_true_iff⟩

/-! ### Rounding to an integer -/

/-- The rational reading of a rounded integer is the real one. -/
theorem roundedTo_iff (rm : Rounding) (x : ℚ) (t : ℤ) : RoundedTo rm x t ↔ IntegerOf rm (x : ℝ) t := by
  cases rm
  case down => rw [RoundedTo, IntegerOf, Rat.floor_cast]
  case up => rw [RoundedTo, IntegerOf, Rat.ceil_cast]
  case zero => simp only [RoundedTo, IntegerOf, Rat.floor_cast, Rat.ceil_cast, Rat.cast_lt_zero]
  case nearest =>
    have same : 2 * |(t : ℝ) - x| = ((2 * |(t : ℚ) - x| : ℚ) : ℝ) := by push_cast; rfl
    rw [RoundedTo, IntegerOf, same]
    norm_cast

theorem integerOf_self (rm : Rounding) (t : ℤ) : IntegerOf rm (t : ℝ) t := by
  cases rm <;> simp [IntegerOf]

/-- What is cut off a magnitude below the point. -/
theorem leaves_div (m : Nat) {k : ℕ} (cut : 1 ≤ k) : Leaves (m / 2 ^ k) (m % 2 ^ k) k false ((m : ℝ) / 2 ^ k) := by
  refine Leaves.of_spans cut (Nat.mod_lt _ (by positivity)) ?_
  rw [Nat.div_add_mod', div_mul_cancel₀ _ (by positivity)]
  rfl

/-- The model rounds a number to an integer in the mode, and tells whether that changed it. -/
theorem Num.toInteger_spec (rm : Rounding) (neg : Bool) (m : Nat) (e : ℤ) :
    RoundedTo rm (valueOf (.fin neg m e)) (Num.toInteger rm neg m e).1 ∧
      ((Num.toInteger rm neg m e).2 = true ↔ ((Num.toInteger rm neg m e).1 : ℚ) ≠ valueOf (.fin neg m e)) := by
  unfold Num.toInteger
  by_cases whole : 0 ≤ e
  · have value : valueOf (.fin neg m e) = (signed neg (m * 2 ^ e.toNat) : ℤ) := by
      rw [valueOf_lower neg m whole, sub_zero, zpow_zero, mul_one]
    rw [if_pos whole, value, roundedTo_iff, Rat.cast_intCast]
    exact ⟨integerOf_self rm _, by simp⟩
  obtain ⟨k, cut, rfl⟩ : ∃ k : ℕ, 1 ≤ k ∧ e = -k := ⟨(-e).toNat, by omega, by omega⟩
  rw [if_neg whole, neg_neg, Int.toNat_natCast]
  dsimp only
  have step : (if rm.away neg (m / 2 ^ k) (m % 2 ^ k) k false then m / 2 ^ k + 1 else m / 2 ^ k) =
      m / 2 ^ k + if rm.away neg (m / 2 ^ k) (m % 2 ^ k) k false then 1 else 0 := by split <;> rfl
  rw [step]
  by_cases zero : m = 0
  · subst zero
    have stays : rm.away neg 0 0 k false = false := by cases rm <;> simp [Rounding.away]
    rw [Nat.zero_div, Nat.zero_mod, stays, valueOf_eq_zero_iff.2 rfl, roundedTo_iff, Rat.cast_zero]
    have none : signed neg (0 + if false = true then 1 else 0) = 0 := by cases neg <;> rfl
    rw [none]
    exact ⟨mod_cast integerOf_self rm 0, by simp⟩
  have size : |((valueOf (.fin neg m (-k)) : ℚ) : ℝ)| = m / 2 ^ k := by
    rw [abs_valueOf, zpow_neg, zpow_natCast, div_eq_mul_inv]
  have sign := valueOf_lt_zero_iff (neg := neg) zero (-k)
  have leaves : Leaves (m / 2 ^ k) (m % 2 ^ k) k false |((valueOf (.fin neg m (-k)) : ℚ) : ℝ)| :=
    size ▸ leaves_div m cut
  rw [roundedTo_iff]
  refine ⟨leaves.integerOf rm sign, ?_⟩
  have kept := leaves.rounded_eq_iff rm neg
  rw [← sub_eq_zero, ← abs_eq_zero, ← abs_signed_sub sign, abs_eq_zero, sub_eq_zero, and_iff_left rfl] at kept
  rw [bne_iff_ne, ne_eq, ne_eq, not_iff_not, ← kept]
  norm_cast

end Sys2Proof.Machine
end

section
/-!
PROOFS of 49_fpu.md, third part: finite numbers as rationals, and the conversions (O42, O45).
-/
namespace Sys2Proof.Machine
open Sys2Proof.Claims

/-! ### Conversions of numbers (49_fpu.md rule R811) -/

theorem Describes.resultOf_ofInt {f : Fmt} {K : Encodings} (d : Describes f K) (env : FpEnv) (t : ℤ) :
    ResultOf f K env (f.ofInt env t) false (t : ℝ) := by
  have value : ((valueOf (.fin (decide (t < 0)) t.natAbs 0) : ℚ) : ℝ) = t := by
    rw [valueOf_fin, signed_natAbs, zpow_zero, mul_one, Rat.cast_intCast]
  obtain ⟨zero, table⟩ := d.resultOf_round env (decide (t < 0)) t.natAbs 0
  rw [value] at zero table
  refine ⟨fun none => (zero none).trans ?_, table⟩
  obtain rfl : t = 0 := Int.cast_eq_zero.1 none
  rfl

theorem quietNan_of_mem_formats {p : Fmt × Encodings} (h : p ∈ formats) : p.1.quietNan = p.2.nan := by
  simp only [formats, List.mem_cons, List.not_mem_nil, or_false] at h
  rcases h with rfl | rfl <;> rfl

/-- One operand is screened as the statement says. -/
theorem screen_one (f : Fmt) (x default : Nat) (k : FpOut) : screen f [x] default k = Screened f x default k := by
  unfold screen Screened
  simp only [List.any_cons, List.any_nil, Bool.or_false]
  rfl

theorem toInteger_screen (f : Fmt) (w : Nat) (rm : Rounding) (v : Nat) :
    ToInteger f w rm v (screen f [v] (2 ^ (w - 1) - 1) (toInt w rm (f.toNum v))) := by
  rw [screen_one]
  unfold ToInteger Screened
  split
  · rfl
  split
  · rfl
  split
  · next number => rw [number]; rfl
  next n m e number =>
  rw [number]
  obtain ⟨rounded, changed⟩ := Num.toInteger_spec rm n m e
  refine ⟨_, rounded, ?_⟩
  have same : (if ((Num.toInteger rm n m e).1 : ℚ) = valueOf (.fin n m e) then 0#6 else 1#6) =
      inexact (Num.toInteger rm n m e).2 := by
    cases flag : (Num.toInteger rm n m e).2 with
    | true => exact if_neg (changed.1 flag)
    | false => exact if_pos (not_not.1 fun h => Bool.noConfusion (flag.symm.trans (changed.2 h)))
  dsimp only
  rw [same]
  refine ⟨fun fits => ?_, fun large => ?_⟩
  · exact if_neg fun large => (overflows_iff _ _).1 large fits
  · exact if_pos ((overflows_iff _ _).2 large)

/-! ### The instructions (49_fpu.md rules R852 to R887) -/

/-- Writes a result of 64 or of 32 bits. -/
def writeWide (wide : Bool) (fd : BitVec 5) (t : State) (v : Nat) : State :=
  if wide then t.writeDouble fd v else t.writeSingleNat fd v

/-- The gate of a conversion: formats L and PS need FR = 1. -/
def gateWide (s : State) (wide : Bool) (regs : List (BitVec 5)) (k : Out) : Out :=
  if wide then fpGate64 s k else fpGate s regs k

theorem exec_toIntOps (s : State) (fs fd : BitVec 5) : ∀ p ∈ toIntOps, exec (p.1 fs fd) s =
    gateWide s p.2.2.1 [fs, fd] (s.fpToInt (sourceOf p.2.1).1 (if p.2.2.1 then 64 else 32)
      (p.2.2.2.getD (.ofBits (s.fcsr.extractLsb' 0 2))) ((sourceOf p.2.1).2 (s.readFpr fs))
      (writeWide p.2.2.1 fd)) := by
  simp only [toIntOps, List.forall_mem_cons]
  exact ⟨rfl, rfl, rfl, rfl, rfl, rfl, rfl, rfl, rfl, rfl, rfl, rfl, rfl, rfl, rfl, rfl, rfl, rfl, rfl, rfl, nofun⟩

theorem writesWide_writeWide (s : State) (wide : Bool) (fd : BitVec 5) (v : Nat) (f : Word) :
    WritesWide s wide fd v f (writeWide wide fd (s.setFcsr f) v).advance := by
  cases wide
  · exact writesLow_writeSingle s fd _ f
  · exact s.writesFprFcsr_advance fd _ f

/-- A conversion writes its outcome, or traps. -/
theorem fpEnds_of_writeWide {i : Instr} {s : State} {wide : Bool} {fd : BitVec 5} {o : FpOut}
    (runs : exec i s = s.fpFinish o.conds fun t => writeWide wide fd t o.bits) :
    FpEnds i s o.conds (WritesWide s wide fd o.bits (fcsrAfter s.fcsr o.conds)) :=
  fpEnds_of_fpFinish runs (writesWide_writeWide s wide fd o.bits _)

theorem putsFprWith_of_fpPair {i : Instr} {s : State} {fd : BitVec 5} {upper lower : Word} (usable : s.cu 1 = true)
    (wide : s.fr = true) (runs : exec i s = s.fpPair fd upper lower) :
    PutsFprWith i s fd fun v => v = upper ++ lower :=
  putsFprWith_of_writeFpr (runs.trans (fpGate64_on usable wide _)) rfl

section
variable {s : State} {ft fs fd : BitVec 5} {wide : Bool}

theorem gateWide_ready (ready : FpReady s [fs, fd]) (mode : wide = true → s.fr = true) (k : Out) :
    gateWide s wide [fs, fd] k = k := by
  cases wide
  · exact fpGate_ready ready k
  · exact fpGate64_on ready.1 (mode rfl) k

theorem gateWide_off (unusable : s.cu 1 = false) (k : Out) :
    gateWide s wide [fs, fd] k = .next (s.takeException (.cpU 1)) := by
  cases wide
  · exact needCop1_off unusable _
  · exact needCop1_off unusable _

theorem gateWide_odd (usable : s.cu 1 = true) (narrow : s.fr = false) (odd : wide = true ∨ NamesOdd [fs, fd])
    (k : Out) : gateWide s wide [fs, fd] k = .fault .floatRegisterPair := by
  cases wide
  · exact fpGate_odd usable narrow (odd.resolve_left Bool.false_ne_true) k
  · exact fpGate64_narrow usable narrow k

/-- The conversions to an integer, by the table. -/
theorem toIntOps_end (ready : FpReady s [fs, fd]) : ∀ p ∈ toIntOps, (p.2.2.1 = true → s.fr = true) →
    ∃ o, ToInteger (sourceOf p.2.1).1 (if p.2.2.1 then 64 else 32) (p.2.2.2.getD (.ofBits (s.fcsr.setWidth 2)))
        ((sourceOf p.2.1).2 (s.readFpr fs)) o ∧
      FpEnds (p.1 fs fd) s o.conds (WritesWide s p.2.2.1 fd o.bits (fcsrAfter s.fcsr o.conds)) := by
  intro p row mode
  rw [setWidth_eq_extractLsb'_zero]
  exact ⟨_, toInteger_screen _ _ _ _,
    fpEnds_of_writeWide ((exec_toIntOps s fs fd p row).trans (gateWide_ready ready mode _))⟩

/-- The conversions to S and D from a 32-bit operand or from the other format. -/
theorem conversions_end (ready : FpReady s [fs, fd]) :
    (let o := Screened .single (singleOf (s.readFpr fs)) Fmt.double.quietNan
        (Fmt.double.round s.fpEnv (Fmt.single.toNum (singleOf (s.readFpr fs))))
     FpEnds (.cvtDS fs fd) s o.conds (WritesWide s true fd o.bits (fcsrAfter s.fcsr o.conds))) ∧
    (let o := Screened .double (s.readFpr fs).toNat Fmt.single.quietNan
        (Fmt.single.round s.fpEnv (Fmt.double.toNum (s.readFpr fs).toNat))
     FpEnds (.cvtSD fs fd) s o.conds (WritesWide s false fd o.bits (fcsrAfter s.fcsr o.conds))) ∧
    (let o := Fmt.double.ofInt s.fpEnv ((s.readFpr fs).setWidth 32).toInt
     FpEnds (.cvtDW fs fd) s o.conds (WritesWide s true fd o.bits (fcsrAfter s.fcsr o.conds))) ∧
    (let o := Fmt.single.ofInt s.fpEnv ((s.readFpr fs).setWidth 32).toInt
     FpEnds (.cvtSW fs fd) s o.conds (WritesWide s false fd o.bits (fcsrAfter s.fcsr o.conds))) := by
  rw [← screen_one, ← screen_one]
  exact ⟨fpEnds_of_writeWide (fpGate_ready ready _), fpEnds_of_writeWide (fpGate_ready ready _),
    fpEnds_of_writeWide (fpGate_ready ready _), fpEnds_of_writeWide (fpGate_ready ready _)⟩

/-- The forms that copy halves. -/
theorem pairForms_put (usable : s.cu 1 = true) (wide : s.fr = true) : ∀ p ∈ pairForms,
    PutsFprWith (p.1 ft fs fd) s fd fun v => v = p.2 (s.readFpr fs) (s.readFpr ft) := by
  simp only [pairForms, List.forall_mem_cons]
  exact ⟨putsFprWith_of_fpPair usable wide rfl, putsFprWith_of_fpPair usable wide rfl,
    putsFprWith_of_fpPair usable wide rfl, putsFprWith_of_fpPair usable wide rfl,
    putsFprWith_of_fpPair usable wide rfl, nofun⟩

end

end Sys2Proof.Machine

namespace Sys2Proof.Claims
open Sys2Proof.Machine

/-- Settles O45: the laws of `Num.add`, `mul`, `compare` and `toInteger` over the rationals. -/
theorem numbersAddMultiplyCompareAndRoundAsRationals : Obligations.NumbersAddMultiplyCompareAndRoundAsRationals := by
  intro a b m n e k rm
  obtain ⟨c, r, l, sum, value, sign⟩ := Num.add_fin rm a b m n e k
  obtain ⟨product, productValue⟩ := Num.mul_fin a b m n e k
  obtain ⟨less, equal⟩ := Num.compare_fin a b m n e k
  obtain ⟨rounded, changed⟩ := Num.toInteger_spec rm a m e
  refine ⟨⟨_, sum, value, sign⟩, ⟨_, product, productValue, rfl⟩, less, equal, changed, ?_⟩
  cases rm
  case nearest => exact ⟨nofun, nofun, nofun, fun _ => rounded⟩
  case zero => exact ⟨nofun, nofun, fun _ => rounded, nofun⟩
  case up => exact ⟨nofun, fun _ => rounded, nofun, nofun⟩
  case down => exact ⟨fun _ => rounded, nofun, nofun, nofun⟩

/-- Settles O42: a conversion is its rounding behind the screen of its operand, ended by the exception procedure. -/
theorem conversionsRoundInTheirMode : Obligations.ConversionsRoundInTheirMode := by
  refine ⟨fun p row env => ?_, fun s ft fs fd => ⟨fun ready => ⟨toIntOps_end ready, conversions_end ready⟩,
    fun usable wide => ?_, fun unusable => ⟨fun p row => ?_, ?_, ?_⟩, fun usable narrow => ⟨fun p row odd => ?_,
      fun odd => ?_, ?_, ?_⟩⟩⟩
  · have d := describes_of_mem_formats row
    exact ⟨d.resultOf_ofInt env, fun n => by rw [Encodings.infinite, d.inf]; rfl, quietNan_of_mem_formats row⟩
  · have on := fpGate64_on usable wide
    exact ⟨fpEnds_of_writeWide (on _), fpEnds_of_writeWide (on _), pairForms_put usable wide,
      putsFprWith_of_writeFpr (on _) BitVec.setWidth_append_eq_right,
      putsFprWith_of_writeFpr (on _) BitVec.setWidth_append_eq_right⟩
  · exact (exec_toIntOps s fs fd p row).trans (gateWide_off unusable _)
  · have off := needCop1_off unusable
    simp only [pairForms, List.forall_mem_cons]
    exact ⟨off _, off _, off _, off _, off _, nofun⟩
  · have off := needCop1_off unusable
    simp only [List.forall_mem_cons]
    exact ⟨off _, off _, off _, off _, off _, off _, off _, off _, nofun⟩
  · exact (exec_toIntOps s fs fd p row).trans (gateWide_odd usable narrow odd _)
  · have stops := fpGate_odd usable narrow odd
    simp only [List.forall_mem_cons]
    exact ⟨stops _, stops _, stops _, stops _, nofun⟩
  · have stops := fpGate64_narrow usable narrow
    simp only [pairForms, List.forall_mem_cons]
    exact ⟨stops _, stops _, stops _, stops _, stops _, nofun⟩
  · have stops := fpGate64_narrow usable narrow
    simp only [List.forall_mem_cons]
    exact ⟨stops _, stops _, stops _, stops _, nofun⟩

end Sys2Proof.Claims
end

section
/-!
SUPPORT. Floating-point operands and results: what the operations see of an operand, exact sums, products, quotients
and roots, and approximations (49_fpu.md rules R801 to R809, R812 to R847).
-/
namespace Sys2Proof.Machine
open Sys2Proof.Claims

/-! ### Operands (49_fpu.md rules R801, R802, R807) -/

/-- An operand that goes to the operation, and the number it stands for. -/
structure Operand (f : Fmt) (v : Nat) (n : Num) : Prop where
  handled : ¬ Unhandled f v
  quiet : f.isSignaling v = false
  num : f.toNum v = n

theorem operand_of_not_nan {f : Fmt} {v : Nat} (number : f.isNan v = false) (normal : f.isDenormal v = false) :
    Operand f v (f.toNum v) where
  handled := by simp [Unhandled, normal, Fmt.isQuiet, number]
  quiet := by simp [Fmt.isSignaling, number]
  num := rfl

/-- The cases of a bit pattern's exponent field. -/
theorem Fmt.toNum_inf {f : Fmt} {v : Nat} (top : f.expField v = 2 ^ f.expBits - 1) : f.toNum v = .inf (f.sign v) :=
  if_pos top

/-- A finite operand is zero or has a significand of full precision. -/
theorem operand_of_isFinite {f : Fmt} {v : Nat} {p : Bool} {x : ℚ} (h : IsFinite f v p x) :
    ∃ m e, Operand f v (.fin p m e) ∧ valueOf (.fin p m e) = x ∧ (m = 0 ∨ f.Normal m) := by
  obtain ⟨normal, m, e, num, value⟩ := h
  have notTop : ¬ f.expField v = 2 ^ f.expBits - 1 := fun top => by
    rw [Fmt.toNum_inf top] at num
    cases num
  have number : f.isNan v = false := by simp [Fmt.isNan, notTop]
  refine ⟨m, e, num ▸ operand_of_not_nan number normal, value, ?_⟩
  have frac : f.fracField v < 2 ^ f.fracBits := Nat.mod_lt _ (by positivity)
  unfold Fmt.toNum at num
  dsimp only at num
  rw [if_neg notTop] at num
  by_cases low : f.expField v = 0
  · rw [if_pos low] at num
    have none : f.fracField v = 0 := by simpa [Fmt.isDenormal, low] using normal
    cases num
    exact .inl none
  · rw [if_neg low] at num
    cases num
    exact .inr ⟨Nat.le_add_right _ _, by rw [f.two_pow_precision]; omega⟩

theorem operand_infinity (f : Fmt) (p : Bool) : Operand f (f.infinity p) (.inf p) := by
  have top : 2 ^ f.expBits - 1 < 2 ^ f.expBits := Nat.sub_lt (by positivity) one_pos
  have bottom : 0 < 2 ^ f.fracBits := by positivity
  have exp : f.expField (f.infinity p) = 2 ^ f.expBits - 1 := Fmt.expField_pack top bottom
  have frac : f.fracField (f.infinity p) = 0 := Fmt.fracField_pack bottom
  have num : f.toNum (f.infinity p) = .inf p := by rw [Fmt.toNum_inf exp, Fmt.infinity, Fmt.sign_pack top bottom]
  exact num ▸ operand_of_not_nan (by simp [Fmt.isNan, frac]) (by simp [Fmt.isDenormal, frac])

theorem operand_zero {f : Fmt} (two : 1 < f.expBits) (p : Bool) :
    Operand f (f.zero p) (.fin p 0 (1 - f.bias - f.fracBits)) := by
  have frac : f.fracField (f.zero p) = 0 := Fmt.fracField_pack (by positivity)
  exact Fmt.toNum_zero two ▸ operand_of_not_nan (by simp [Fmt.isNan, frac]) (by simp [Fmt.isDenormal, frac])

/-! ### The operations on their operands -/

section
variable {f : Fmt} {a b c : Nat} {x y z : Num} (env : FpEnv) (pick : Nat) (noisy : Bool)

theorem operate_one {op : FpOp} (ha : Operand f a x) (one : op.arity = 1) :
    f.operate env pick noisy op a b c = f.compute env pick noisy op a b c := by
  refine screen_numbers ?_ ?_ _ _ <;> rw [one] <;> simp [ha.handled, ha.quiet]

theorem operate_two {op : FpOp} (ha : Operand f a x) (hb : Operand f b y) (two : op.arity = 2) :
    f.operate env pick noisy op a b c = f.compute env pick noisy op a b c := by
  refine screen_numbers ?_ ?_ _ _ <;> rw [two] <;> simp [ha.handled, ha.quiet, hb.handled, hb.quiet]

theorem operate_three {op : FpOp} (ha : Operand f a x) (hb : Operand f b y) (hc : Operand f c z) :
    f.operate env pick noisy op a b c = f.compute env pick noisy op a b c := by
  have handled : ∀ v ∈ [a, b, c], ¬ Unhandled f v := by simp [ha.handled, hb.handled, hc.handled]
  have quiet : ∀ v ∈ [a, b, c], f.isSignaling v = false := by simp [ha.quiet, hb.quiet, hc.quiet]
  exact screen_numbers (fun v taken => handled v (List.mem_of_mem_take taken))
    (fun v taken => quiet v (List.mem_of_mem_take taken)) _ _

section
variable (ha : Operand f a x)
include ha

theorem operate_abs : f.operate env pick noisy .abs a b c = ⟨0, a % 2 ^ (f.expBits + f.fracBits)⟩ :=
  operate_one env pick noisy ha rfl

theorem operate_neg : f.operate env pick noisy .neg a b c = ⟨0, f.flipSign a⟩ := operate_one env pick noisy ha rfl

theorem operate_sqrt : f.operate env pick noisy .sqrt a b c = f.sqrt env x :=
  ha.num ▸ operate_one env pick noisy ha rfl

theorem operate_recip : f.operate env pick noisy .recip a b c = f.recip env pick noisy x :=
  ha.num ▸ operate_one env pick noisy ha rfl

theorem operate_rsqrt : f.operate env pick noisy .rsqrt a b c = f.rsqrt env pick noisy x :=
  ha.num ▸ operate_one env pick noisy ha rfl

variable (hb : Operand f b y)
include hb

theorem operate_add : f.operate env pick noisy .add a b c = f.roundOr env (x.add env.rounding y) :=
  ha.num ▸ hb.num ▸ operate_two env pick noisy ha hb rfl

theorem operate_sub : f.operate env pick noisy .sub a b c = f.roundOr env (x.add env.rounding y.negate) :=
  ha.num ▸ hb.num ▸ operate_two env pick noisy ha hb rfl

theorem operate_mul : f.operate env pick noisy .mul a b c = f.roundOr env (x.mul y) :=
  ha.num ▸ hb.num ▸ operate_two env pick noisy ha hb rfl

theorem operate_div : f.operate env pick noisy .div a b c = f.div env x y :=
  ha.num ▸ hb.num ▸ operate_two env pick noisy ha hb rfl

variable (hc : Operand f c z)
include hc

theorem operate_madd : f.operate env pick noisy .madd a b c = f.fused env x y z false :=
  ha.num ▸ hb.num ▸ hc.num ▸ operate_three env pick noisy ha hb hc

theorem operate_msub : f.operate env pick noisy .msub a b c = f.fused env x y z true :=
  ha.num ▸ hb.num ▸ hc.num ▸ operate_three env pick noisy ha hb hc

theorem operate_nmadd : f.operate env pick noisy .nmadd a b c = f.negated (f.fused env x y z false) :=
  ha.num ▸ hb.num ▸ hc.num ▸ operate_three env pick noisy ha hb hc

theorem operate_nmsub : f.operate env pick noisy .nmsub a b c = f.negated (f.fused env x y z true) :=
  ha.num ▸ hb.num ▸ hc.num ▸ operate_three env pick noisy ha hb hc

end
end

/-! ### Signs of bit patterns (49_fpu.md rules R813, R833, R838) -/

section
variable {f : Fmt} {v w : Nat}

/-- Patterns with the same bits below the sign have the same fields. -/
theorem fields_congr (same : v % 2 ^ (f.expBits + f.fracBits) = w % 2 ^ (f.expBits + f.fracBits)) :
    f.expField v = f.expField w ∧ f.fracField v = f.fracField w := by
  have exp u : f.expField u = u % 2 ^ (f.expBits + f.fracBits) / 2 ^ f.fracBits := by
    rw [Fmt.expField, Nat.add_comm, pow_add, Nat.mod_mul_right_div_self]
  have frac u : f.fracField u = u % 2 ^ (f.expBits + f.fracBits) % 2 ^ f.fracBits := by
    rw [Fmt.fracField, Nat.mod_mod_of_dvd _ (pow_dvd_pow 2 (Nat.le_add_left _ _))]
  exact ⟨by rw [exp, exp, same], by rw [frac, frac, same]⟩

/-- A finite pattern with another sign bit is the same magnitude with that sign. -/
theorem isFinite_congr {p : Bool} {x : ℚ} (h : IsFinite f v p x)
    (same : w % 2 ^ (f.expBits + f.fracBits) = v % 2 ^ (f.expBits + f.fracBits)) :
    ∃ m e, x = valueOf (.fin p m e) ∧ f.sign v = p ∧ IsFinite f w (f.sign w) (valueOf (.fin (f.sign w) m e)) := by
  obtain ⟨normal, m, e, num, value⟩ := h
  obtain ⟨exp, frac⟩ := fields_congr same
  have normal' : f.isDenormal w = false := by rw [← normal, Fmt.isDenormal, Fmt.isDenormal, exp, frac]
  refine ⟨m, e, value.symm, ?_, normal', m, e, ?_, rfl⟩
  all_goals
    unfold Fmt.toNum at *
    dsimp only at *
    split at num
    · cases num
  · split at num <;> cases num <;> rfl
  · next notTop =>
    rw [exp, frac, if_neg notTop]
    split at num
    · next low => cases num; rw [if_pos low]
    · next high => cases num; rw [if_neg high]

theorem valueOf_not (p : Bool) (m : Nat) (e : ℤ) : valueOf (.fin (!p) m e) = -valueOf (.fin p m e) := by
  cases p <;> simp [valueOf]

theorem valueOf_false (p : Bool) (m : Nat) (e : ℤ) : valueOf (.fin false m e) = |valueOf (.fin p m e)| := by
  have : 0 ≤ (m : ℚ) * 2 ^ e := by positivity
  cases p <;> simp [valueOf, abs_of_nonneg this]

theorem Fmt.flipSign_mod (f : Fmt) (v : Nat) :
    f.flipSign v % 2 ^ (f.expBits + f.fracBits) = v % 2 ^ (f.expBits + f.fracBits) := by
  rw [Fmt.flipSign, Nat.xor_mod_two_pow, Nat.mod_self, Nat.xor_zero]

theorem Fmt.sign_flipSign (f : Fmt) (v : Nat) : f.sign (f.flipSign v) = !f.sign v := by
  rw [Fmt.sign, Fmt.flipSign, Nat.testBit_xor, Nat.testBit_two_pow_self, Bool.xor_true]
  rfl

theorem Fmt.sign_mod (f : Fmt) (v : Nat) : f.sign (v % 2 ^ (f.expBits + f.fracBits)) = false := by
  rw [Fmt.sign, Nat.testBit_mod_two_pow, decide_eq_false (lt_irrefl _), Bool.false_and]

theorem isFinite_abs {p : Bool} {x : ℚ} (h : IsFinite f v p x) :
    IsFinite f (v % 2 ^ (f.expBits + f.fracBits)) false |x| := by
  obtain ⟨m, e, rfl, -, finite⟩ := isFinite_congr h (Nat.mod_mod v _)
  rwa [f.sign_mod, valueOf_false p] at finite

theorem isFinite_neg {p : Bool} {x : ℚ} (h : IsFinite f v p x) : IsFinite f (f.flipSign v) (!p) (-x) := by
  obtain ⟨m, e, rfl, sign, finite⟩ := isFinite_congr h (f.flipSign_mod v)
  rwa [f.sign_flipSign, sign, valueOf_not] at finite

end

/-! ### Results rounded once (49_fpu.md rules R804, R806) -/

/-- What the default results of a format are, and the sizes the operations rely on. -/
structure Standard (f : Fmt) (k : Encodings) : Prop extends Describes f k where
  nan : k.nan = f.quietNan
  flip : ∀ n, f.flipSign (f.infinity n) = f.infinity (!n)
  abs : ∀ n, f.infinity n % 2 ^ (f.expBits + f.fracBits) = f.infinity false
  fracBits : 1 ≤ f.fracBits
  precision : f.precision ≤ 64

theorem standard_of_mem_formats {p : Fmt × Encodings} (h : p ∈ formats) : Standard p.1 p.2 := by
  have describes := describes_of_mem_formats h
  have nan := quietNan_of_mem_formats h
  simp only [formats, List.mem_cons, List.not_mem_nil, or_false] at h
  rcases h with rfl | rfl
  all_goals exact ⟨describes, nan.symm, by decide, by decide, by decide, by decide⟩

section
variable {f : Fmt} {K : Encodings} {env : FpEnv} {o : FpOut} {r : ℝ}

theorem resultOf_congr {p q : Bool} (h : ResultOf f K env o p r) (same : r = 0 → p = q) : ResultOf f K env o q r :=
  ⟨fun zero => same zero ▸ h.1 zero, h.2⟩

/-- A magnitude told to `roundMag` is rounded once. -/
theorem Describes.resultOf_roundMag (d : Describes f K) {neg : Bool} {m : Nat} {e : ℤ} {sticky : Bool}
    (sign : r ≠ 0 → (neg = true ↔ r < 0)) (spans : Spans m sticky (|r| / 2 ^ e))
    (guard : sticky = true → 2 ^ f.precision ≤ m) : ResultOf f K env (f.roundMag env neg m e sticky) neg r := by
  have zero : m = 0 ↔ r = 0 := by
    have pos : (0 : ℝ) < 2 ^ e := by positivity
    have exact := spans.eq_natCast_iff 0
    rw [Nat.cast_zero, div_eq_zero_iff, or_iff_left pos.ne', abs_eq_zero] at exact
    rw [exact]
    refine ⟨fun none => ⟨none, ?_⟩, And.left⟩
    by_contra h
    have := guard (by simpa using h)
    have : 0 < 2 ^ f.precision := by positivity
    omega
  constructor
  · intro none
    rw [d.zero, zero.2 none]
    rfl
  · intro nonzero
    obtain ⟨sig, e', changed, eq, rounded, same⟩ :=
      f.roundMag_eq_finish env (mt zero.1 nonzero) (sign nonzero) spans guard
    rw [eq]
    exact rounded.roundsByTable d (sign nonzero) same nonzero

variable (d : Describes f K) (a b : Bool) (m n : Nat) (e k : ℤ)
include d

theorem Describes.resultOf_add : ResultOf f K env (f.roundOr env ((Num.fin a m e).add env.rounding (.fin b n k)))
    (sumSign env.rounding a b) ((valueOf (.fin a m e) + valueOf (.fin b n k) : ℚ) : ℝ) := by
  obtain ⟨c, r, l, sum, value, sign⟩ := Num.add_fin env.rounding a b m n e k
  rw [sum, ← value]
  exact resultOf_congr (d.resultOf_round env c r l) fun zero => sign (value ▸ Rat.cast_eq_zero.1 zero)

theorem Describes.resultOf_sub :
    ResultOf f K env (f.roundOr env ((Num.fin a m e).add env.rounding (Num.fin b n k).negate))
      (sumSign env.rounding a (!b)) ((valueOf (.fin a m e) - valueOf (.fin b n k) : ℚ) : ℝ) := by
  rw [sub_eq_add_neg, ← valueOf_not]
  exact d.resultOf_add a (!b) m n e k

theorem Describes.resultOf_mul : ResultOf f K env (f.roundOr env ((Num.fin a m e).mul (.fin b n k))) (a ^^ b)
    ((valueOf (.fin a m e) * valueOf (.fin b n k) : ℚ) : ℝ) := by
  obtain ⟨product, value⟩ := Num.mul_fin a b m n e k
  rw [product, ← value]
  exact d.resultOf_round env (a ^^ b) (m * n) (e + k)

variable (c : Bool) (l : Nat) (j : ℤ)

theorem Describes.resultOf_fused :
    ResultOf f K env (f.fused env (.fin a m e) (.fin b n k) (.fin c l j) false) (sumSign env.rounding (a ^^ b) c)
        ((valueOf (.fin a m e) * valueOf (.fin b n k) + valueOf (.fin c l j) : ℚ) : ℝ) ∧
      ResultOf f K env (f.fused env (.fin a m e) (.fin b n k) (.fin c l j) true) (sumSign env.rounding (a ^^ b) (!c))
        ((valueOf (.fin a m e) * valueOf (.fin b n k) - valueOf (.fin c l j) : ℚ) : ℝ) := by
  obtain ⟨product, value⟩ := Num.mul_fin a b m n e k
  rw [← value]
  exact ⟨d.resultOf_add _ _ _ _ _ _, d.resultOf_sub _ _ _ _ _ _⟩

end

/-! ### Rounding never signals Invalid -/

theorem valid_zero : (0 : Conds) &&& condV = 0 := by decide

theorem Fmt.finish_valid (f : Fmt) (env : FpEnv) (neg : Bool) (sig : Nat) (e : ℤ) (b : Bool) :
    (f.finish env neg sig e (inexact b)).conds &&& condV = 0 := by
  have flushed : (condU ||| condI) &&& condV = 0 := by decide
  have unimplemented : condE &&& condV = 0 := by decide
  have overflow : (condO ||| condI) &&& condV = 0 := by decide
  have whole : inexact b &&& condV = 0 := by cases b <;> decide
  unfold Fmt.finish
  dsimp only
  split
  · rcases Fmt.tiny_conds_cases (f := f) (env := env) (neg := neg) with h | h <;> rw [h] <;> assumption
  · split
    · exact overflow
    · exact whole

theorem Fmt.round_valid (f : Fmt) (env : FpEnv) (n : Num) : (f.round env n).conds &&& condV = 0 := by
  cases n with
  | inf p => exact valid_zero
  | fin p m e =>
    show (f.roundMag env p m e false).conds &&& condV = 0
    unfold Fmt.roundMag
    split
    · exact valid_zero
    · exact f.finish_valid _ _ _ _ _

theorem Fmt.negated_round (f : Fmt) (env : FpEnv) (n : Num) :
    f.negated (f.round env n) = ⟨(f.round env n).conds, f.flipSign (f.round env n).bits⟩ :=
  if_neg (by rw [f.round_valid]; decide)

theorem Fmt.negated_invalid (f : Fmt) : f.negated f.invalid = f.invalid :=
  if_pos (by decide : (condV &&& condV != 0) = true)

/-- The negated forms negate the rounded sum (49_fpu.md rule R833; log 55). -/
theorem Fmt.negated_fused (f : Fmt) (env : FpEnv) (a b c : Bool) (m n l : Nat) (e k j : ℤ) (minus : Bool) :
    let o := f.fused env (.fin a m e) (.fin b n k) (.fin c l j) minus
    f.negated o = ⟨o.conds, f.flipSign o.bits⟩ := by
  have rounds : ∃ t, f.fused env (.fin a m e) (.fin b n k) (.fin c l j) minus = f.round env t := by
    cases minus
    · obtain ⟨p, r, i, sum, -⟩ := Num.add_fin env.rounding (a ^^ b) c (m * n) l (e + k) j
      exact ⟨.fin p r i, congrArg (f.roundOr env) sum⟩
    · obtain ⟨p, r, i, sum, -⟩ := Num.add_fin env.rounding (a ^^ b) (!c) (m * n) l (e + k) j
      exact ⟨.fin p r i, congrArg (f.roundOr env) sum⟩
  obtain ⟨t, eq⟩ := rounds
  dsimp only
  rw [eq]
  exact f.negated_round env t

end Sys2Proof.Machine
end

section
/-!
SUPPORT. Quotients and roots cut after many bits, and the numbers near them (49_fpu.md rules R804, R839 to R843).
-/
namespace Sys2Proof.Machine
open Sys2Proof.Claims

/-! ### Quotients -/

/-- An integer quotient, with what it leaves. -/
theorem spans_div (m : Nat) {n : Nat} (pos : 0 < n) : Spans (m / n) (m % n != 0) ((m : ℝ) / n) := by
  have whole : (n : ℝ) * (m / n : ℕ) + (m % n : ℕ) = m := mod_cast Nat.div_add_mod m n
  have positive : (0 : ℝ) < n := mod_cast pos
  have below : ((m % n : ℕ) : ℝ) < n := mod_cast Nat.mod_lt m pos
  unfold Spans
  by_cases rest : m % n = 0
  · simp only [rest, bne_self_eq_false, Bool.false_eq_true, if_false]
    rw [div_eq_iff positive.ne', ← whole, rest]
    push_cast
    ring
  · have some : (0 : ℝ) < (m % n : ℕ) := mod_cast Nat.pos_of_ne_zero rest
    simp only [bne_iff_ne.2 rest, if_true]
    rw [lt_div_iff₀ positive, div_lt_iff₀ positive]
    constructor <;> nlinarith

section
variable {f : Fmt} {m n : Nat}

/-- A quotient is negative if its operands have different signs. -/
theorem xor_iff_div_neg {x y : ℝ} {p q : Bool} (hx : x ≠ 0) (hy : y ≠ 0) (hp : p = true ↔ x < 0)
    (hq : q = true ↔ y < 0) : (p ^^ q) = true ↔ x / y < 0 := by
  have differ : (p ^^ q) = true ↔ ¬ (p = true ↔ q = true) := by cases p <;> cases q <;> simp
  rw [differ, hp, hq, div_neg_iff]
  rcases hx.lt_or_gt with xneg | xpos <;> rcases hy.lt_or_gt with yneg | ypos <;>
    simp [*, not_lt_of_gt]

/-- The quotient's extra bits leave it more than full precision. -/
theorem two_pow_le_quotient {w : Nat} (low : 2 ^ f.precision * n ≤ m * 2 ^ w) (pos : 0 < n) :
    2 ^ f.precision ≤ m * 2 ^ w / n := (Nat.le_div_iff_mul_le pos).2 low

theorem Fmt.Normal.pos (h : f.Normal m) : 0 < m := lt_of_lt_of_le (by positivity) h.1

theorem Standard.resultOf_div {K : Encodings} (d : Standard f K) (env : FpEnv) (p q : Bool) {e k : ℤ}
    (hn : f.Normal n) :
    ResultOf f K env (f.div env (.fin p m e) (.fin q n k)) (p ^^ q)
      ((valueOf (.fin p m e) / valueOf (.fin q n k) : ℚ) : ℝ) := by
  have size : |((valueOf (.fin p m e) / valueOf (.fin q n k) : ℚ) : ℝ)| /
      (2 : ℝ) ^ (e - k - ((guardBits + f.precision : ℕ) : ℤ)) = ((m * 2 ^ (guardBits + f.precision) : ℕ) : ℝ) / n := by
    have : (n : ℝ) ≠ 0 := mod_cast hn.pos.ne'
    rw [Rat.cast_div, abs_div, abs_valueOf, abs_valueOf, zpow_sub₀ two_ne_zero, zpow_sub₀ two_ne_zero, zpow_natCast]
    push_cast
    field_simp
  unfold Fmt.div
  dsimp only
  rw [if_neg hn.pos.ne']
  refine d.resultOf_roundMag (fun nonzero => ?_) ?_ fun sticky => ?_
  · rw [Rat.cast_div] at nonzero ⊢
    obtain ⟨xn, yn⟩ := div_ne_zero_iff.1 nonzero
    exact xor_iff_div_neg xn yn (valueOf_lt_zero_iff (mt valueOf_eq_zero_iff.2 (mt Rat.cast_eq_zero.2 xn)) e)
      (valueOf_lt_zero_iff hn.pos.ne' k)
  · show Spans _ _ (_ / (2 : ℝ) ^ (e - k - ((guardBits + f.precision : ℕ) : ℤ)))
    rw [size]
    exact spans_div _ hn.pos
  · have some : 1 ≤ m := by
      refine Nat.one_le_iff_ne_zero.2 fun zero => ?_
      simp [quotient, zero] at sticky
    refine two_pow_le_quotient ?_ hn.pos
    calc 2 ^ f.precision * n ≤ 2 ^ f.precision * 2 ^ f.precision := Nat.mul_le_mul_left _ hn.2.le
      _ = 2 ^ (f.precision + f.precision) := (pow_add ..).symm
      _ ≤ 2 ^ (guardBits + f.precision) :=
        Nat.pow_le_pow_right two_pos (Nat.add_le_add_right d.precision _)
      _ ≤ m * 2 ^ (guardBits + f.precision) := Nat.le_mul_of_pos_left _ some

end

/-! ### Roots (49_fpu.md rule R843) -/

/-- Each bit of the root keeps the square below, and the rest below the next bit. -/
theorem sqrtBits_spec (v n r : Nat) (low : r * r ≤ v) (high : v < (r + 2 ^ n) * (r + 2 ^ n)) :
    sqrtBits v n r * sqrtBits v n r ≤ v ∧ v < (sqrtBits v n r + 1) * (sqrtBits v n r + 1) := by
  induction n generalizing r with
  | zero => exact ⟨low, high⟩
  | succ n ih =>
    unfold sqrtBits
    split
    · next fits =>
      refine ih _ fits ?_
      rwa [add_assoc, ← two_mul, ← pow_succ']
    · next large => exact ih _ low (not_le.1 large)

theorem natSqrt_spec (v : Nat) : natSqrt v * natSqrt v ≤ v ∧ v < (natSqrt v + 1) * (natSqrt v + 1) := by
  refine sqrtBits_spec v _ 0 (Nat.zero_le v) ?_
  rw [zero_add, ← pow_add]
  exact Nat.lt_log2_self.trans_le (Nat.pow_le_pow_right two_pos (by omega))

theorem two_pow_le_natSqrt {v n : Nat} (h : 2 ^ (2 * n) ≤ v) : 2 ^ n ≤ natSqrt v := by
  by_contra below
  have square : (natSqrt v + 1) * (natSqrt v + 1) ≤ 2 ^ n * 2 ^ n := Nat.mul_self_le_mul_self (by omega)
  rw [← pow_add, ← two_mul] at square
  have := (natSqrt_spec v).2
  omega

/-- An integer whose square and whose successor's square enclose `a` spans the root of `a`. -/
theorem spans_sqrt {r : Nat} {a : ℝ} {sticky : Bool} (low : ((r * r : ℕ) : ℝ) ≤ a)
    (high : a < ((r + 1) * (r + 1) : ℕ)) (exact : sticky = false ↔ ((r * r : ℕ) : ℝ) = a) :
    Spans r sticky (Real.sqrt a) := by
  push_cast at low high exact
  have positive : (0 : ℝ) ≤ a := le_trans (by positivity) low
  cases sticky
  · show Real.sqrt a = r
    rw [← exact.1 rfl, Real.sqrt_mul_self r.cast_nonneg]
  · have strict : (r : ℝ) * r < a := lt_of_le_of_ne low fun same => Bool.noConfusion (exact.2 same)
    refine ⟨Real.lt_sqrt_of_sq_lt (by rwa [pow_two]), ?_⟩
    rw [Real.sqrt_lt' (by positivity), pow_two]
    exact high

/-- The root of a power of two with an even exponent. -/
theorem sqrt_mul_zpow (a : ℝ) (j : ℤ) : Real.sqrt (a * (2 : ℝ) ^ (2 * j)) = Real.sqrt a * (2 : ℝ) ^ j := by
  rw [two_mul, zpow_add₀ two_ne_zero, Real.sqrt_mul' _ (by positivity), Real.sqrt_mul_self (by positivity)]

/-- An exponent as an even one and a bit. -/
theorem even_exponent (e : ℤ) : e = 2 * ((e - ((e % 2).toNat : ℤ)) / 2) + ((e % 2).toNat : ℤ) := by omega

theorem Standard.resultOf_sqrt {f : Fmt} {K : Encodings} (d : Standard f K) (env : FpEnv) {m : Nat} (e : ℤ)
    (hm : f.Normal m) :
    ResultOf f K env (f.sqrt env (.fin false m e)) false (Real.sqrt ((valueOf (.fin false m e) : ℚ) : ℝ)) := by
  obtain ⟨odd, hodd⟩ : ∃ odd, odd = (e % 2).toNat := ⟨_, rfl⟩
  obtain ⟨c, hc⟩ : ∃ c, c = (e - (odd : ℤ)) / 2 := ⟨_, rfl⟩
  obtain ⟨v, hv⟩ : ∃ v, v = m * 2 ^ (2 * guardBits + odd) := ⟨_, rfl⟩
  have runs : f.sqrt env (.fin false m e) =
      f.roundMag env false (natSqrt v) (c - (guardBits : ℕ)) (natSqrt v * natSqrt v != v) := by
    subst hv hc hodd
    unfold Fmt.sqrt
    dsimp only
    rw [if_neg hm.pos.ne']
    rfl
  have exponent : e = 2 * c + (odd : ℤ) := by subst hc hodd; exact even_exponent e
  have size : |Real.sqrt ((valueOf (.fin false m e) : ℚ) : ℝ)| / (2 : ℝ) ^ (c - ((guardBits : ℕ) : ℤ)) =
      Real.sqrt v := by
    have shifted : (v : ℝ) = (m * (2 : ℝ) ^ odd) * (2 : ℝ) ^ (2 * ((guardBits : ℕ) : ℤ)) := by
      rw [hv, pow_add, zpow_mul]
      push_cast
      ring
    have value : ((valueOf (.fin false m e) : ℚ) : ℝ) = (m * (2 : ℝ) ^ odd) * (2 : ℝ) ^ (2 * c) := by
      rw [valueOf_eq_signed, exponent, add_comm, zpow_add₀ two_ne_zero, zpow_natCast]
      simp [signed, mul_assoc]
    rw [abs_of_nonneg (Real.sqrt_nonneg _), value, shifted, sqrt_mul_zpow, sqrt_mul_zpow, zpow_sub₀ two_ne_zero]
    field_simp
  obtain ⟨low, high⟩ := natSqrt_spec v
  rw [runs]
  refine d.resultOf_roundMag (fun _ => ?_) ?_ fun _ => two_pow_le_natSqrt ?_
  · exact iff_of_false Bool.false_ne_true (not_lt.2 (Real.sqrt_nonneg _))
  · rw [size]
    exact spans_sqrt (mod_cast low) (mod_cast high) (by rw [bne_eq_false_iff_eq, Nat.cast_inj])
  · rw [hv]
    calc 2 ^ (2 * f.precision) ≤ 2 ^ (2 * guardBits + odd) :=
        Nat.pow_le_pow_right two_pos ((Nat.mul_le_mul_left 2 d.precision).trans (Nat.le_add_right _ _))
      _ ≤ m * 2 ^ (2 * guardBits + odd) := Nat.le_mul_of_pos_left _ hm.pos

/-! ### The numbers of a precision, in order (49_fpu.md rules R839 to R842; log 72) -/

section
variable {f : Fmt}

/-- The place of a significand and exponent in the order of the positive numbers of full precision. -/
def Fmt.index (f : Fmt) (sig : Nat) (e : ℤ) : ℤ := e * 2 ^ f.fracBits + (sig - 2 ^ f.fracBits)

theorem Fmt.Normal.index_parts {sig : Nat} (h : f.Normal sig) (e : ℤ) :
    f.index sig e / 2 ^ f.fracBits = e ∧ f.index sig e % 2 ^ f.fracBits = sig - 2 ^ f.fracBits := by
  obtain ⟨low, high⟩ := h
  rw [f.two_pow_precision] at high
  have low' : (2 : ℤ) ^ f.fracBits ≤ sig := mod_cast low
  have high' : (sig : ℤ) < 2 * 2 ^ f.fracBits := mod_cast high
  have pos : (0 : ℤ) < 2 ^ f.fracBits := by positivity
  unfold Fmt.index
  constructor
  · rw [add_comm, Int.add_mul_ediv_right _ _ pos.ne', Int.ediv_eq_zero_of_lt (by omega) (by omega), zero_add]
  · rw [add_comm, Int.add_mul_emod_self_right, Int.emod_eq_of_lt (by omega) (by omega)]

theorem Fmt.Normal.gridNumber_index {sig : Nat} (h : f.Normal sig) (e : ℤ) :
    gridNumber f (f.index sig e) = sig * (2 : ℝ) ^ e := by
  obtain ⟨exponent, significand⟩ := h.index_parts e
  rw [gridNumber, exponent, significand]
  push_cast
  ring

/-- Every number of the order is one of them. -/
theorem Fmt.exists_index (f : Fmt) (i : ℤ) : ∃ sig e, f.Normal sig ∧ f.index sig e = i := by
  have pos : (0 : ℤ) < 2 ^ f.fracBits := by positivity
  have nonneg := Int.emod_nonneg i pos.ne'
  have below := Int.emod_lt_of_pos i pos
  have whole := Int.emod_add_mul_ediv i (2 ^ f.fracBits)
  refine ⟨2 ^ f.fracBits + (i % 2 ^ f.fracBits).toNat, i / 2 ^ f.fracBits, ⟨Nat.le_add_right _ _, ?_⟩, ?_⟩
  · rw [f.two_pow_precision]
    have : (i % 2 ^ f.fracBits).toNat < 2 ^ f.fracBits := by
      rw [Int.toNat_lt nonneg]
      exact_mod_cast below
    omega
  · rw [Fmt.index]
    push_cast
    rw [Int.toNat_of_nonneg nonneg]
    linarith

/-- Steps from a number of full precision are steps in the order. -/
theorem Fmt.Normal.stepBy_index {sig : Nat} (h : f.Normal sig) (e : ℤ) {n : ℤ} (down : -2 ^ f.fracBits ≤ n)
    (up : n ≤ 2 ^ f.fracBits) :
    ∃ sig' e', f.stepBy sig e n = (sig', e') ∧ f.Normal sig' ∧ f.index sig' e' = f.index sig e + n := by
  obtain ⟨low, high⟩ := h
  have two := f.two_pow_precision
  rw [two] at high
  obtain ⟨P, hP⟩ : ∃ P : ℕ, 2 ^ f.fracBits = P := ⟨_, rfl⟩
  have hPz : (2 : ℤ) ^ f.fracBits = P := by exact_mod_cast hP
  have hTz : (2 : ℤ) ^ f.precision = 2 * P := by exact_mod_cast two.trans (by rw [hP])
  unfold Fmt.stepBy Fmt.index Fmt.Normal
  dsimp only
  rw [hPz] at down up ⊢
  rw [hTz, two, hP]
  rw [hP] at low high
  split
  · refine ⟨_, _, rfl, ⟨by omega, by omega⟩, ?_⟩
    rw [Int.toNat_of_nonneg (by omega), add_mul]
    omega
  split
  · refine ⟨_, _, rfl, ⟨by omega, by omega⟩, ?_⟩
    rw [Int.toNat_of_nonneg (by omega), sub_mul]
    omega
  · refine ⟨_, _, rfl, ⟨by omega, by omega⟩, ?_⟩
    rw [Int.toNat_of_nonneg (by omega)]
    omega

theorem gridNumber_succ {sig : Nat} (h : f.Normal sig) (e : ℤ) :
    gridNumber f (f.index sig e + 1) = (sig + 1) * (2 : ℝ) ^ e := by
  obtain ⟨sig', e', step, normal, -, value⟩ := Fmt.stepBy_spec h e (n := 1) le_rfl
  obtain ⟨sig'', e'', step', -, place⟩ :=
    h.stepBy_index e (n := 1) (by linarith [show (0 : ℤ) ≤ 2 ^ f.fracBits by positivity])
    (one_le_pow₀ one_le_two)
  cases step.symm.trans step'
  rw [← place, normal.gridNumber_index, value]
  push_cast
  ring

theorem gridNumber_strictMono (f : Fmt) : StrictMono (gridNumber f) := by
  refine strictMono_int_of_lt_succ fun i => ?_
  obtain ⟨sig, e, normal, rfl⟩ := f.exists_index i
  rw [gridNumber_succ normal, normal.gridNumber_index]
  have : (0 : ℝ) < 2 ^ e := by positivity
  nlinarith

end
end Sys2Proof.Machine
end

section
/-!
SUPPORT. Reciprocals and reciprocal roots: every number within so many units of the last place, and no other
(49_fpu.md rules R839 to R842; logs 4, 72).
-/
namespace Sys2Proof.Machine
open Sys2Proof.Claims

section
variable {f : Fmt} {K : Encodings} {env : FpEnv} {neg : Bool}

/-- The tests of the exponent give number `index sig e` of the order, or its default. -/
theorem Describes.givesNumber_finish (d : Describes f K) {sig : Nat} (normal : f.Normal sig) (e : ℤ) (c : Conds) :
    GivesNumber f K env (f.finish env neg sig e c) neg (f.index sig e) c := by
  unfold GivesNumber
  dsimp only
  simp only [normal.gridNumber_index, ← not_le (b := (sig : ℝ) * 2 ^ e), normal.two_pow_le_iff, not_le]
  refine ⟨fun tiny flush => ?_, fun tiny noFlush => ?_, fun large => ?_, fun notTiny notLarge => ?_⟩
  · rw [Fmt.finish_tiny (by omega), d.tiny_flush flush]
  · rw [Fmt.finish_tiny (by omega), Fmt.tiny_conds noFlush]
  · exact d.finish_overflow large
  · have top := Fmt.two_pow_expBits (f := f) (by have := d.expBits; omega)
    obtain ⟨conds, bound, notDenormal, num⟩ :=
      normal.finish_fits (env := env) (neg := neg) c (e := e) (by omega) (by omega)
    exact ⟨conds, bound, _, ⟨notDenormal, sig, e, num, rfl⟩, abs_valueOf neg sig e⟩

/-- Below a number that is not exact, the farthest neighbour is one unit too far. -/
def openGap (exact : Bool) : ℤ := if exact then 0 else 1

/-- What cutting a positive real to full precision says about its place in the order. -/
structure Floors (f : Fmt) (a : ℝ) (i : ℤ) (exact : Bool) : Prop where
  le : gridNumber f i ≤ a
  lt : a < gridNumber f (i + 1)
  exact_iff : gridNumber f i = a ↔ exact = true

theorem Leaves.floors {q r w : Nat} {k : ℤ} {sticky : Bool} {a : ℝ} (h : Leaves q r w sticky (a / 2 ^ k))
    (normal : f.Normal q) : Floors f a (f.index q k) (r == 0 && !sticky) := by
  have pos : (0 : ℝ) < 2 ^ k := by positivity
  constructor
  · rw [normal.gridNumber_index]
    exact (le_div_iff₀ pos).1 h.le
  · rw [gridNumber_succ normal]
    exact (div_lt_iff₀ pos).1 h.lt
  · rw [normal.gridNumber_index, eq_comm, ← div_eq_iff pos.ne', h.exact_iff]
    simp

section
variable {a : ℝ} {i : ℤ} {exact : Bool} (h : Floors f a i exact)
include h

/-- Only one number of the order is the last one not above `a`. -/
theorem Floors.unique {j : ℤ} (le : gridNumber f j ≤ a) (lt : a < gridNumber f (j + 1)) : j = i := by
  have below := (gridNumber_strictMono f).lt_iff_lt.1 (h.le.trans_lt lt)
  have above := (gridNumber_strictMono f).lt_iff_lt.1 (le.trans_lt h.lt)
  omega

theorem Floors.withinUnits_iff (n : Nat) (j : ℤ) :
    WithinUnits f n a j ↔ j - i ≤ n ∧ openGap exact - n ≤ j - i := by
  have bounds : (j ≤ i + n ∧ (i - n < j ∨ (j = i - n ∧ gridNumber f i = a))) ↔
      j - i ≤ n ∧ openGap exact - n ≤ j - i := by
    rw [h.exact_iff]
    cases exact <;> simp [openGap] <;> omega
  rw [← bounds]
  constructor
  · rintro ⟨i', le, lt, near⟩
    rwa [h.unique le lt] at near
  · exact fun near => ⟨i, h.le, h.lt, near⟩

theorem Floors.inexactOrOpen (noisy : Bool) : InexactOrOpen f a noisy (inexact (!exact || noisy)) := by
  have held : (∃ j, gridNumber f j = a) ↔ exact = true := by
    rw [← h.exact_iff]
    refine ⟨fun ⟨j, same⟩ => ?_, fun same => ⟨i, same⟩⟩
    rwa [← h.unique same.le (same ▸ gridNumber_strictMono f (lt_add_one j))]
  rw [InexactOrOpen, held]
  cases exact
  · exact ⟨nofun, fun _ => rfl⟩
  · exact ⟨fun _ => rfl, fun other => absurd rfl other⟩

end

/-- The steps that a choice stands for: at most `n` up, and less than `n` down from a number that is not exact. -/
def stepsOf (exact : Bool) (n pick : Nat) : ℤ :=
  if exact then (pick % (2 * n + 1) : Nat) - n else (pick % (2 * n) : Nat) - n + 1

theorem stepsOf_within (exact : Bool) {n : Nat} (some : 1 ≤ n) (pick : Nat) :
    stepsOf exact n pick ≤ n ∧ openGap exact - n ≤ stepsOf exact n pick := by
  have wide := Nat.mod_lt pick (show 0 < 2 * n + 1 by omega)
  have narrow := Nat.mod_lt pick (show 0 < 2 * n by omega)
  cases exact
  · rw [stepsOf, openGap, if_neg Bool.false_ne_true, if_neg Bool.false_ne_true]
    omega
  · rw [stepsOf, openGap, if_pos rfl, if_pos rfl]
    omega

theorem exists_stepsOf (exact : Bool) {n : Nat} {j : ℤ} (up : j ≤ n) (down : openGap exact - n ≤ j) :
    ∃ pick, stepsOf exact n pick = j := by
  cases exact
  · rw [openGap, if_neg Bool.false_ne_true] at down
    refine ⟨(j + n - 1).toNat, ?_⟩
    rw [stepsOf, if_neg Bool.false_ne_true, Nat.mod_eq_of_lt (by omega)]
    omega
  · rw [openGap, if_pos rfl] at down
    refine ⟨(j + n).toNat, ?_⟩
    rw [stepsOf, if_pos rfl, Nat.mod_eq_of_lt (by omega)]
    omega

theorem openGap_nonneg (exact : Bool) : 0 ≤ openGap exact := by cases exact <;> decide

/-- The approximations of a magnitude are the numbers within `n` units of the last place. -/
theorem Standard.approximates (d : Standard f K) {m : Nat} (hm : m ≠ 0) {e : ℤ} {sticky : Bool} {a : ℝ}
    (spans : Spans m sticky (a / 2 ^ e)) (guard : sticky = true → 2 ^ f.precision ≤ m) {n : Nat} (some : 1 ≤ n)
    (few : n ≤ 2) :
    Approximates f K env n (fun pick noisy => f.approximate env neg m e sticky n pick noisy) neg a := by
  obtain ⟨q, k, r, w, cut, normal, leaves⟩ := f.truncate_leaves hm e spans guard
  have floors := leaves.floors normal
  have room : (2 : ℤ) ≤ 2 ^ f.fracBits := le_self_pow₀ one_le_two (by have := d.fracBits; omega)
  have gives (pick : Nat) (noisy : Bool) : GivesNumber f K env (f.approximate env neg m e sticky n pick noisy) neg
      (f.index q k + stepsOf (r == 0 && !sticky) n pick) (inexact (!(r == 0 && !sticky) || noisy)) := by
    have steps := stepsOf_within (r == 0 && !sticky) some pick
    have gap := openGap_nonneg (r == 0 && !sticky)
    obtain ⟨sig, e', step, normal', place⟩ :=
      normal.stepBy_index k (n := stepsOf (r == 0 && !sticky) n pick) (by omega) (by omega)
    have runs : f.approximate env neg m e sticky n pick noisy =
        f.finish env neg sig e' (inexact (!(r == 0 && !sticky) || noisy)) := by
      unfold Fmt.approximate
      rw [cut]
      dsimp only
      rw [show (if (r == 0 && !sticky) = true then _ else _) = stepsOf (r == 0 && !sticky) n pick from rfl, step]
    rw [runs, ← place]
    exact d.givesNumber_finish normal' e' _
  refine ⟨fun pick noisy => ⟨_, _, ?_, floors.inexactOrOpen noisy, gives pick noisy⟩, fun j noisy within => ?_⟩
  · have steps := stepsOf_within (r == 0 && !sticky) some pick
    rwa [floors.withinUnits_iff, add_sub_cancel_left]
  · rw [floors.withinUnits_iff] at within
    obtain ⟨pick, steps⟩ := exists_stepsOf _ within.1 within.2
    refine ⟨pick, _, floors.inexactOrOpen noisy, ?_⟩
    have number := gives pick noisy
    rwa [steps, add_sub_cancel] at number

/-- Reciprocals (49_fpu.md rules R839, R840). -/
theorem Standard.approximates_recip (d : Standard f K) (p : Bool) {m : Nat} (e : ℤ) (normal : f.Normal m) :
    Approximates f K env 1 (fun pick noisy => f.recip env pick noisy (.fin p m e)) p
      ((|1 / valueOf (.fin p m e)| : ℚ) : ℝ) := by
  obtain ⟨w, hw⟩ : ∃ w, w = guardBits + 2 * f.precision := ⟨_, rfl⟩
  have runs : (fun pick noisy => f.recip env pick noisy (.fin p m e)) = fun pick noisy =>
      f.approximate env p (1 * 2 ^ w / m) (0 - e - (w : ℤ)) (1 * 2 ^ w % m != 0) 1 pick noisy := by
    funext pick noisy
    subst hw
    unfold Fmt.recip
    dsimp only
    rw [if_neg normal.pos.ne']
    rfl
  have size : ((|1 / valueOf (.fin p m e)| : ℚ) : ℝ) / (2 : ℝ) ^ (0 - e - (w : ℤ)) = ((1 * 2 ^ w : ℕ) : ℝ) / m := by
    have : (m : ℝ) ≠ 0 := mod_cast normal.pos.ne'
    rw [Rat.cast_abs, Rat.cast_div, abs_div, abs_valueOf, zero_sub, zpow_sub₀ two_ne_zero, zpow_neg, zpow_natCast]
    push_cast
    rw [abs_one]
    field_simp
  have full : 2 ^ f.precision ≤ 1 * 2 ^ w / m := by
    refine two_pow_le_quotient ?_ normal.pos
    calc 2 ^ f.precision * m ≤ 2 ^ f.precision * 2 ^ f.precision := Nat.mul_le_mul_left _ normal.2.le
      _ = 2 ^ (f.precision + f.precision) := (pow_add ..).symm
      _ ≤ 2 ^ w := Nat.pow_le_pow_right two_pos (by omega)
      _ = 1 * 2 ^ w := (one_mul _).symm
  have some : 1 * 2 ^ w / m ≠ 0 := (lt_of_lt_of_le (by positivity) full).ne'
  rw [runs]
  exact d.approximates some (size ▸ spans_div _ normal.pos) (fun _ => full) le_rfl one_le_two

/-- The integer root of a quotient spans the root of the real quotient. -/
theorem spans_sqrt_div (M : Nat) {v : Nat} (pos : 0 < v) :
    Spans (natSqrt (M / v)) (natSqrt (M / v) * natSqrt (M / v) * v != M) (Real.sqrt ((M : ℝ) / v)) := by
  obtain ⟨low, high⟩ := natSqrt_spec (M / v)
  have positive : (0 : ℝ) < v := mod_cast pos
  have floor : (((M / v : ℕ)) : ℝ) ≤ (M : ℝ) / v := Nat.cast_div_le
  have above : (M : ℝ) / v < ((M / v : ℕ) : ℝ) + 1 := by
    rw [div_lt_iff₀ positive, add_one_mul]
    exact_mod_cast Nat.lt_div_mul_add (a := M) pos
  refine spans_sqrt ((Nat.cast_le.2 low).trans floor) (above.trans_le ?_) ?_
  · exact_mod_cast high
  · rw [bne_eq_false_iff_eq, eq_div_iff positive.ne']
    exact_mod_cast Iff.rfl

/-- Reciprocal roots (49_fpu.md rules R841, R842). -/
theorem Standard.approximates_rsqrt (d : Standard f K) {m : Nat} (e : ℤ) (normal : f.Normal m) :
    Approximates f K env 2 (fun pick noisy => f.rsqrt env pick noisy (.fin false m e)) false
      (1 / Real.sqrt ((valueOf (.fin false m e) : ℚ) : ℝ)) := by
  obtain ⟨odd, hodd⟩ : ∃ odd, odd = (e % 2).toNat := ⟨_, rfl⟩
  obtain ⟨c, hc⟩ : ∃ c, c = (e - (odd : ℤ)) / 2 := ⟨_, rfl⟩
  obtain ⟨v, hv⟩ : ∃ v, v = m * 2 ^ odd := ⟨_, rfl⟩
  obtain ⟨w, hw⟩ : ∃ w, w = 2 * (guardBits + 2 * f.precision) := ⟨_, rfl⟩
  have runs : (fun pick noisy => f.rsqrt env pick noisy (.fin false m e)) = fun pick noisy =>
      f.approximate env false (natSqrt (2 ^ (2 * w) / v)) (-c - (w : ℤ))
        (natSqrt (2 ^ (2 * w) / v) * natSqrt (2 ^ (2 * w) / v) * v != 2 ^ (2 * w)) 2 pick noisy := by
    funext pick noisy
    subst hv hc hodd hw
    unfold Fmt.rsqrt
    dsimp only
    rw [if_neg normal.pos.ne']
    rfl
  have exponent : e = 2 * c + (odd : ℤ) := by subst hc hodd; exact even_exponent e
  have small : odd ≤ 1 := by omega
  have pos : 0 < v := hv ▸ Nat.mul_pos normal.pos (by positivity)
  have size : 1 / Real.sqrt ((valueOf (.fin false m e) : ℚ) : ℝ) / (2 : ℝ) ^ (-c - (w : ℤ)) =
      Real.sqrt (((2 ^ (2 * w) : ℕ) : ℝ) / v) := by
    have value : ((valueOf (.fin false m e) : ℚ) : ℝ) = (v : ℝ) * (2 : ℝ) ^ (2 * c) := by
      rw [valueOf_eq_signed, exponent, add_comm, zpow_add₀ two_ne_zero, zpow_natCast, hv]
      simp [signed, mul_assoc]
    have root : Real.sqrt ((2 ^ (2 * w) : ℕ) : ℝ) = 2 ^ w := by
      push_cast
      rw [two_mul, pow_add, Real.sqrt_mul_self (by positivity)]
    have nonzero : Real.sqrt (v : ℝ) ≠ 0 := (Real.sqrt_pos.2 (mod_cast pos)).ne'
    rw [value, sqrt_mul_zpow, Real.sqrt_div (by positivity), root, zpow_sub₀ two_ne_zero, zpow_neg, zpow_natCast]
    field_simp
  have guard : guardBits = 64 := rfl
  have full : 2 ^ f.precision ≤ natSqrt (2 ^ (2 * w) / v) := by
    refine two_pow_le_natSqrt ((Nat.le_div_iff_mul_le pos).2 ?_)
    have bound : v ≤ 2 ^ (f.precision + 1) := by
      rw [hv, pow_add]
      exact Nat.mul_le_mul normal.2.le (Nat.pow_le_pow_right two_pos small)
    calc 2 ^ (2 * f.precision) * v ≤ 2 ^ (2 * f.precision) * 2 ^ (f.precision + 1) := Nat.mul_le_mul_left _ bound
      _ = 2 ^ (2 * f.precision + (f.precision + 1)) := (pow_add ..).symm
      _ ≤ 2 ^ (2 * w) := Nat.pow_le_pow_right two_pos (by omega)
  have some : natSqrt (2 ^ (2 * w) / v) ≠ 0 := (lt_of_lt_of_le (by positivity) full).ne'
  rw [runs]
  exact d.approximates some (size ▸ spans_sqrt_div _ pos) (fun _ => full) one_le_two le_rfl

end
end Sys2Proof.Machine
end

section
/-!
PROOFS of 49_fpu.md, fourth part: arithmetic (O40).
-/
namespace Sys2Proof.Machine
open Sys2Proof.Claims

/-! ### Finite operands -/

section
variable {f : Fmt} {K : Encodings}

/-- The sign of a finite operand that is not zero. -/
theorem sign_of_valueOf {p : Bool} {m : Nat} {e : ℤ} {x : ℚ} (value : valueOf (.fin p m e) = x) (nonzero : x ≠ 0) :
    p = true ↔ x < 0 := by
  subst value
  rw [valueOf_lt_zero_iff (mt valueOf_eq_zero_iff.2 nonzero) e]
  exact_mod_cast Iff.rfl

/-- The arithmetic of 49_fpu.md section 2 on finite operands. -/
theorem Standard.arithmeticIsExact (d : Standard f K) : ArithmeticIsExact f K := by
  intro env pick noisy a b c p q w x y z fa fb fc
  obtain ⟨m, e, ha, rfl, normalA⟩ := operand_of_isFinite fa
  obtain ⟨n, k, hb, rfl, normalB⟩ := operand_of_isFinite fb
  obtain ⟨l, j, hc, rfl, -⟩ := operand_of_isFinite fc
  have normal {m : Nat} {p : Bool} {e : ℤ} (h : m = 0 ∨ f.Normal m) (nonzero : valueOf (.fin p m e) ≠ 0) : f.Normal m :=
    h.resolve_left fun zero => nonzero (valueOf_eq_zero_iff.2 zero)
  have fused := d.resultOf_fused (env := env) p q m n e k w l j
  dsimp only
  simp only [operate_abs _ _ _ ha, operate_neg _ _ _ ha, operate_add _ _ _ ha hb, operate_sub _ _ _ ha hb,
    operate_mul _ _ _ ha hb, operate_div _ _ _ ha hb, operate_sqrt _ _ _ ha, operate_recip _ _ _ ha,
    operate_rsqrt _ _ _ ha, operate_madd _ _ _ ha hb hc, operate_msub _ _ _ ha hb hc, operate_nmadd _ _ _ ha hb hc,
    operate_nmsub _ _ _ ha hb hc]
  refine ⟨⟨_, rfl, isFinite_abs fa⟩, ⟨_, rfl, isFinite_neg fa⟩, d.resultOf_add .., d.resultOf_sub .., d.resultOf_mul ..,
    fused.1, fused.2, ⟨_, fused.1, f.negated_fused ..⟩, ⟨_, fused.2, f.negated_fused ..⟩,
    fun nonzero => d.resultOf_div env p q (normal normalB nonzero), fun nonneg => ?_,
    fun nonzero => d.approximates_recip p e (normal normalA nonzero), fun positive => ?_⟩
  · by_cases zero : m = 0
    · subst zero
      have value : ((valueOf (.fin p 0 e) : ℚ) : ℝ) = 0 := by rw [valueOf_eq_zero_iff.2 rfl, Rat.cast_zero]
      rw [value, Real.sqrt_zero]
      exact ⟨fun _ => by rw [d.zero]; rfl, fun nonzero => absurd rfl nonzero⟩
    · have sign := sign_of_valueOf rfl (mt valueOf_eq_zero_iff.1 zero) (p := p) (e := e)
      obtain rfl : p = false := Bool.eq_false_iff.2 fun neg => absurd (sign.1 neg) (not_lt.2 nonneg)
      exact d.resultOf_sqrt env e (normalA.resolve_left zero)
  · obtain rfl : p = false := Bool.eq_false_iff.2 fun neg =>
      absurd ((sign_of_valueOf rfl positive.ne').1 neg) (not_lt.2 positive.le)
    exact d.approximates_rsqrt e (normal normalA positive.ne')

/-! ### Infinities, zero divisors and NaNs (49_fpu.md rules R804, R806 to R809) -/

section
variable (d : Standard f K)
include d

theorem Standard.operand_inf (n : Bool) : Operand f (K.inf n) (.inf n) := d.inf ▸ operand_infinity f n

theorem Standard.operand_zero' (n : Bool) : Operand f (K.zero n) (.fin n 0 (1 - f.bias - f.fracBits)) :=
  d.zero ▸ operand_zero d.expBits n

theorem Standard.invalid_eq : f.invalid = K.invalid := by rw [Fmt.invalid, Encodings.invalid, d.nan]

theorem Standard.infinite_eq (n : Bool) : (⟨0, f.infinity n⟩ : FpOut) = K.infinite n := by
  rw [Encodings.infinite, d.inf]

theorem Standard.divided_eq (n : Bool) : (⟨condZ, f.infinity n⟩ : FpOut) = K.divided n := by
  rw [Encodings.divided, d.inf]

theorem Standard.negated_infinite (n : Bool) : f.negated (K.infinite n) = K.infinite (!n) := by
  rw [← d.infinite_eq, ← d.infinite_eq, ← d.flip]
  exact f.negated_round ⟨.nearest, false⟩ (.inf n)

theorem Standard.negated_invalid' : f.negated K.invalid = K.invalid := by rw [← d.invalid_eq, f.negated_invalid]

/-- A sum of infinities. -/
theorem Standard.roundOr_add_inf (env : FpEnv) (p q : Bool) :
    f.roundOr env ((Num.inf p).add env.rounding (.inf q)) = if p = q then K.infinite p else K.invalid := by
  unfold Num.add
  dsimp only
  split
  · exact d.infinite_eq p
  · exact d.invalid_eq

theorem Standard.roundOr_inf (env : FpEnv) (p : Bool) : f.roundOr env (some (.inf p)) = K.infinite p :=
  d.infinite_eq p

theorem Standard.roundOr_none (env : FpEnv) : f.roundOr env none = K.invalid := d.invalid_eq

end

/-- The product of two numbers, an infinity among them. -/
theorem mul_inf_inf (p q : Bool) : (Num.inf p).mul (.inf q) = some (.inf (p ^^ q)) := rfl

theorem mul_inf_fin (p q : Bool) (n : Nat) (k : ℤ) :
    (Num.inf p).mul (.fin q n k) = if n = 0 then none else some (.inf (p ^^ q)) := by
  simp [Num.mul, Num.isZero, Num.neg]

theorem mul_fin_inf (p q : Bool) (m : Nat) (e : ℤ) :
    (Num.fin p m e).mul (.inf q) = if m = 0 then none else some (.inf (p ^^ q)) := rfl

section
variable (d : Standard f K) (env : FpEnv) (pick : Nat) (noisy : Bool) (a b c : Nat) (p q w : Bool)
include d

theorem Standard.one_infinity (ha : a = K.inf p) :
    f.operate env pick noisy .abs a b c = K.infinite false ∧ f.operate env pick noisy .neg a b c = K.infinite (!p) ∧
      f.operate env pick noisy .recip a b c = ⟨0, K.zero p⟩ ∧
      f.operate env pick noisy .sqrt a b c = (if p then K.invalid else K.infinite false) ∧
      f.operate env pick noisy .rsqrt a b c = (if p then K.invalid else ⟨0, K.zero false⟩) := by
  subst ha
  have operand := d.operand_inf p
  rw [operate_abs _ _ _ operand, operate_neg _ _ _ operand, operate_recip _ _ _ operand, operate_sqrt _ _ _ operand,
    operate_rsqrt _ _ _ operand, d.inf, d.abs, d.flip, d.infinite_eq, d.infinite_eq, d.zero, ← d.invalid_eq,
    ← d.infinite_eq]
  exact ⟨rfl, rfl, rfl, rfl, rfl⟩

theorem Standard.two_infinities (ha : a = K.inf p) (hb : b = K.inf q) :
    f.operate env pick noisy .add a b c = (if p = q then K.infinite p else K.invalid) ∧
      f.operate env pick noisy .sub a b c = (if p = q then K.invalid else K.infinite p) ∧
      f.operate env pick noisy .mul a b c = K.infinite (p ^^ q) ∧
      f.operate env pick noisy .div a b c = K.invalid := by
  subst ha hb
  have left := d.operand_inf p
  have right := d.operand_inf q
  rw [operate_add _ _ _ left right, operate_sub _ _ _ left right, operate_mul _ _ _ left right,
    operate_div _ _ _ left right, Num.negate, d.roundOr_add_inf, d.roundOr_add_inf, mul_inf_inf, d.roundOr_inf,
    ← d.invalid_eq]
  refine ⟨rfl, ?_, rfl, rfl⟩
  cases p <;> cases q <;> rfl

theorem Standard.infinity_finite (ha : a = K.inf p) {y : ℚ} (fb : IsFinite f b q y) :
    f.operate env pick noisy .add a b c = K.infinite p ∧ f.operate env pick noisy .sub a b c = K.infinite p ∧
      (y = 0 → f.operate env pick noisy .mul a b c = K.invalid) ∧
      (y ≠ 0 → f.operate env pick noisy .mul a b c = K.infinite (p ^^ q)) ∧
      f.operate env pick noisy .div a b c = K.infinite (p ^^ q) := by
  subst ha
  have left := d.operand_inf p
  obtain ⟨n, k, right, rfl, -⟩ := operand_of_isFinite fb
  rw [operate_add _ _ _ left right, operate_sub _ _ _ left right, operate_mul _ _ _ left right,
    operate_div _ _ _ left right, mul_inf_fin, Ne, valueOf_eq_zero_iff]
  exact ⟨d.infinite_eq p, d.infinite_eq p, fun zero => by rw [if_pos zero, d.roundOr_none],
    fun nonzero => by rw [if_neg nonzero, d.roundOr_inf], d.infinite_eq _⟩

theorem Standard.finite_infinity {x : ℚ} (fa : IsFinite f a p x) (hb : b = K.inf q) :
    f.operate env pick noisy .add a b c = K.infinite q ∧ f.operate env pick noisy .sub a b c = K.infinite (!q) ∧
      (x = 0 → f.operate env pick noisy .mul a b c = K.invalid) ∧
      (x ≠ 0 → f.operate env pick noisy .mul a b c = K.infinite (p ^^ q)) ∧
      f.operate env pick noisy .div a b c = ⟨0, K.zero (p ^^ q)⟩ := by
  subst hb
  have right := d.operand_inf q
  obtain ⟨m, e, left, rfl, -⟩ := operand_of_isFinite fa
  rw [operate_add _ _ _ left right, operate_sub _ _ _ left right, operate_mul _ _ _ left right,
    operate_div _ _ _ left right, mul_fin_inf, Ne, valueOf_eq_zero_iff, d.zero]
  exact ⟨d.infinite_eq q, d.infinite_eq (!q), fun zero => by rw [if_pos zero, d.roundOr_none],
    fun nonzero => by rw [if_neg nonzero, d.roundOr_inf], rfl⟩

theorem Standard.zero_divisor {x : ℚ} (fa : IsFinite f a p x) (hb : b = K.zero q) :
    (x = 0 → f.operate env pick noisy .div a b c = K.invalid) ∧
      (x ≠ 0 → f.operate env pick noisy .div a b c = K.divided (p ^^ q)) := by
  subst hb
  obtain ⟨m, e, left, rfl, -⟩ := operand_of_isFinite fa
  rw [operate_div _ _ _ left (d.operand_zero' q), Ne, valueOf_eq_zero_iff, ← d.invalid_eq, ← d.divided_eq]
  exact ⟨fun zero => if_pos zero, fun nonzero => if_neg nonzero⟩

theorem Standard.reciprocal_zero (ha : a = K.zero p) : f.operate env pick noisy .recip a b c = K.divided p ∧
    f.operate env pick noisy .rsqrt a b c = K.divided p := by
  subst ha
  rw [operate_recip _ _ _ (d.operand_zero' p), operate_rsqrt _ _ _ (d.operand_zero' p), ← d.divided_eq]
  exact ⟨rfl, rfl⟩

theorem Standard.negative_root {x : ℚ} (fa : IsFinite f a p x) (negative : x < 0) :
    f.operate env pick noisy .sqrt a b c = K.invalid ∧ f.operate env pick noisy .rsqrt a b c = K.invalid := by
  obtain ⟨m, e, operand, value, -⟩ := operand_of_isFinite fa
  obtain rfl : p = true := (sign_of_valueOf value negative.ne).2 negative
  have nonzero : m ≠ 0 := fun zero => negative.ne (value ▸ valueOf_eq_zero_iff.2 zero)
  rw [operate_sqrt _ _ _ operand, operate_rsqrt _ _ _ operand, ← d.invalid_eq]
  exact ⟨if_neg nonzero, if_neg nonzero⟩

/-! ### Fused operations -/

/-- What the product of the first two operands is, and that they go to the operation. -/
theorem Standard.product_invalid (h : ProductInvalid f K a b) :
    ∃ x y, Operand f a x ∧ Operand f b y ∧ x.mul y = none := by
  obtain ⟨p, q, ⟨rfl, fb⟩ | ⟨fa, rfl⟩⟩ := h
  · obtain ⟨n, k, right, value, -⟩ := operand_of_isFinite fb
    exact ⟨_, _, d.operand_inf p, right, by rw [mul_inf_fin, if_pos (valueOf_eq_zero_iff.1 value)]⟩
  · obtain ⟨m, e, left, value, -⟩ := operand_of_isFinite fa
    exact ⟨_, _, left, d.operand_inf q, by rw [mul_fin_inf, if_pos (valueOf_eq_zero_iff.1 value)]⟩

theorem Standard.product_infinite (h : ProductInfinite f K a b p) :
    ∃ x y, Operand f a x ∧ Operand f b y ∧ x.mul y = some (.inf p) := by
  obtain ⟨p, q, rfl, ⟨rfl, rfl⟩ | ⟨y, rfl, fb, nonzero⟩ | ⟨x, fa, nonzero, rfl⟩⟩ := h
  · exact ⟨_, _, d.operand_inf p, d.operand_inf q, rfl⟩
  · obtain ⟨n, k, right, rfl, -⟩ := operand_of_isFinite fb
    exact ⟨_, _, d.operand_inf p, right, by rw [mul_inf_fin, if_neg (mt valueOf_eq_zero_iff.2 nonzero)]⟩
  · obtain ⟨m, e, left, rfl, -⟩ := operand_of_isFinite fa
    exact ⟨_, _, left, d.operand_inf q, by rw [mul_fin_inf, if_neg (mt valueOf_eq_zero_iff.2 nonzero)]⟩

theorem Standard.fused_invalid_product (h : ProductInvalid f K a b) (hc : c = K.inf w ∨ ∃ z, IsFinite f c w z) :
    ∀ op ∈ [FpOp.madd, .msub, .nmadd, .nmsub], f.operate env pick noisy op a b c = K.invalid := by
  obtain ⟨x, y, left, right, product⟩ := d.product_invalid a b h
  obtain ⟨z, third⟩ : ∃ z, Operand f c z := by
    rcases hc with rfl | ⟨z, fc⟩
    · exact ⟨_, d.operand_inf w⟩
    · obtain ⟨l, j, third, -⟩ := operand_of_isFinite fc
      exact ⟨_, third⟩
  have fused (minus : Bool) : f.fused env x y z minus = K.invalid := by
    rw [Fmt.fused, product]
    exact d.invalid_eq
  simp only [List.forall_mem_cons]
  rw [operate_madd _ _ _ left right third, operate_msub _ _ _ left right third, operate_nmadd _ _ _ left right third,
    operate_nmsub _ _ _ left right third, fused, fused, d.negated_invalid']
  exact ⟨rfl, rfl, rfl, rfl, nofun⟩

theorem Standard.fused_infinite_product (h : ProductInfinite f K a b p) {z : ℚ} (fc : IsFinite f c w z) :
    f.operate env pick noisy .madd a b c = K.infinite p ∧ f.operate env pick noisy .msub a b c = K.infinite p ∧
      f.operate env pick noisy .nmadd a b c = K.infinite (!p) ∧
      f.operate env pick noisy .nmsub a b c = K.infinite (!p) := by
  obtain ⟨x, y, left, right, product⟩ := d.product_infinite a b p h
  obtain ⟨l, j, third, -⟩ := operand_of_isFinite fc
  have fused (minus : Bool) : f.fused env x y (.fin w l j) minus = K.infinite p := by
    rw [Fmt.fused, product]
    cases minus <;> exact d.infinite_eq p
  rw [operate_madd _ _ _ left right third, operate_msub _ _ _ left right third, operate_nmadd _ _ _ left right third,
    operate_nmsub _ _ _ left right third, fused, fused, d.negated_infinite]
  exact ⟨rfl, rfl, rfl, rfl⟩

theorem Standard.fused_infinities (h : ProductInfinite f K a b p) (hc : c = K.inf w) :
    f.operate env pick noisy .madd a b c = (if p = w then K.infinite p else K.invalid) ∧
      f.operate env pick noisy .msub a b c = (if p = w then K.invalid else K.infinite p) ∧
      f.operate env pick noisy .nmadd a b c = (if p = w then K.infinite (!p) else K.invalid) ∧
      f.operate env pick noisy .nmsub a b c = (if p = w then K.invalid else K.infinite (!p)) := by
  subst hc
  obtain ⟨x, y, left, right, product⟩ := d.product_infinite a b p h
  have third := d.operand_inf w
  have plus : f.fused env x y (.inf w) false = if p = w then K.infinite p else K.invalid := by
    rw [Fmt.fused, product]
    exact d.roundOr_add_inf env p w
  have minus : f.fused env x y (.inf w) true = if p = w then K.invalid else K.infinite p := by
    rw [Fmt.fused, product]
    refine (d.roundOr_add_inf env p (!w)).trans ?_
    cases p <;> cases w <;> rfl
  rw [operate_madd _ _ _ left right third, operate_msub _ _ _ left right third, operate_nmadd _ _ _ left right third,
    operate_nmsub _ _ _ left right third, plus, minus]
  refine ⟨rfl, rfl, ?_, ?_⟩ <;> split <;> simp only [d.negated_infinite, d.negated_invalid']

theorem Standard.fused_finite_product {x y : ℚ} (fa : IsFinite f a p x) (fb : IsFinite f b q y) (hc : c = K.inf w) :
    f.operate env pick noisy .madd a b c = K.infinite w ∧ f.operate env pick noisy .msub a b c = K.infinite (!w) ∧
      f.operate env pick noisy .nmadd a b c = K.infinite (!w) ∧
      f.operate env pick noisy .nmsub a b c = K.infinite w := by
  subst hc
  obtain ⟨m, e, left, -⟩ := operand_of_isFinite fa
  obtain ⟨n, k, right, -⟩ := operand_of_isFinite fb
  have third := d.operand_inf w
  have plus : f.fused env (.fin p m e) (.fin q n k) (.inf w) false = K.infinite w := d.infinite_eq w
  have minus : f.fused env (.fin p m e) (.fin q n k) (.inf w) true = K.infinite (!w) := d.infinite_eq (!w)
  rw [operate_madd _ _ _ left right third, operate_msub _ _ _ left right third, operate_nmadd _ _ _ left right third,
    operate_nmsub _ _ _ left right third, plus, minus, d.negated_infinite, d.negated_infinite, Bool.not_not]
  exact ⟨rfl, rfl, rfl, rfl⟩

end

/-- The operations with an infinity, a zero divisor or a NaN among their operands. -/
theorem Standard.specialOperands (d : Standard f K) : SpecialOperands f K := by
  intro env pick noisy a b c p q w
  refine ⟨d.one_infinity env pick noisy a b c p, d.two_infinities env pick noisy a b c p q,
    fun _ ha fb => d.infinity_finite env pick noisy a b c p q ha fb,
    fun _ fa hb => d.finite_infinity env pick noisy a b c p q fa hb,
    fun _ => d.zero_divisor env pick noisy a b c p q, d.reciprocal_zero env pick noisy a b c p,
    fun _ => d.negative_root env pick noisy a b c p, d.fused_invalid_product env pick noisy a b c w,
    fun product _ => d.fused_infinite_product env pick noisy a b c p w product,
    d.fused_infinities env pick noisy a b c p w, fun _ _ => d.fused_finite_product env pick noisy a b c p q w,
    fun op => ⟨fun unhandled => ?_, fun handled signaling => ?_⟩⟩
  · exact congrArg FpOut.conds (screen_unhandled unhandled _ _)
  · exact (screen_signaling handled signaling _ _).trans d.invalid_eq

end

/-! ### The instructions -/

/-- The rounding modes by FCSR.RM, and the flush of a tiny result (49_fpu.md rule R807 (c)). -/
theorem State.fpEnv_eq (s : State) :
    s.fpEnv = ⟨[Rounding.nearest, .zero, .up, .down].getD (s.fcsr.extractLsb' 0 2).toNat .nearest,
      s.fcsr.getLsbD 24 && !s.fcsr.getLsbD 8 && !s.fcsr.getLsbD 7⟩ := by
  have modes : ∀ b : BitVec 2,
      Rounding.ofBits b = [Rounding.nearest, .zero, .up, .down].getD b.toNat .nearest := by decide
  have enable i (bit : i < 5) : s.fpEnables.getLsbD i = s.fcsr.getLsbD (7 + i) := by
    rw [State.fpEnables, BitVec.getLsbD_extractLsb', decide_eq_true bit, Bool.true_and]
  rw [State.fpEnv, modes, enable 0 (by decide), enable 1 (by decide), Bool.and_right_comm]
  rfl

theorem fpReady_reverse {s : State} {l : List (BitVec 5)} (ready : FpReady s l) : FpReady s l.reverse :=
  fpReady_mono ready fun _ named => List.mem_reverse.1 named

theorem namesOdd_reverse {l : List (BitVec 5)} (odd : NamesOdd l) : NamesOdd l.reverse :=
  namesOdd_mono odd fun _ named => List.mem_reverse.2 named

end Sys2Proof.Machine

namespace Sys2Proof.Claims
open Sys2Proof.Machine

/-- Settles O40: the operations on their operands, and every row ended by the exception procedure. -/
theorem fpArithmeticFollowsTheExceptionProcedure : Obligations.FpArithmeticFollowsTheExceptionProcedure := by
  refine ⟨fun p row => ⟨(standard_of_mem_formats row).arithmeticIsExact, (standard_of_mem_formats row).specialOperands⟩,
    fun s fr ft fs fd => ⟨s.fpEnv_eq, fun p row ready => ?_, fun p row ready => ?_, fun usable wide p row => ?_,
      fun unusable p row => ?_, fun usable narrow => ⟨fun p row odd => ?_, fun p row => ?_⟩⟩⟩
  · exact fpEnds_of_fpFinish ((exec_singleOps s fr ft fs fd p row).trans (fpGate_ready (fpReady_reverse ready) _))
      (writesLow_writeSingle s fd _ _)
  · exact fpEnds_of_fpFinish ((exec_doubleOps s fr ft fs fd p row).trans (fpGate_ready (fpReady_reverse ready) _))
      (s.writesFprFcsr_advance fd _ _)
  · exact fpEnds_of_fpFinish ((exec_pairedOps s fr ft fs fd p row).trans (fpGate64_on usable wide _))
      (s.writesFprFcsr_advance fd _ _)
  · rcases List.mem_append.1 row with row | row
    · rcases List.mem_append.1 row with row | row
      · exact (exec_singleOps s fr ft fs fd p row).trans (needCop1_off unusable _)
      · exact (exec_doubleOps s fr ft fs fd p row).trans (needCop1_off unusable _)
    · exact (exec_pairedOps s fr ft fs fd p row).trans (needCop1_off unusable _)
  · have stops := fpGate_odd usable narrow (namesOdd_reverse odd)
    rcases List.mem_append.1 row with row | row
    · exact (exec_singleOps s fr ft fs fd p row).trans (stops _)
    · exact (exec_doubleOps s fr ft fs fd p row).trans (stops _)
  · exact (exec_pairedOps s fr ft fs fd p row).trans (fpGate64_narrow usable narrow _)

end Sys2Proof.Claims
end

section
/-!
SUPPORT. Lanes of a doubleword and the operations on them (48_custom_mmi.md rule R701).
-/
namespace Sys2Proof.Machine
open Sys2Proof.Claims

/-! ### Lanes of joined words and bytes -/

theorem lane_ofWords (f : Nat → BitVec 32) {i : Nat} (hi : i < 2) : lane 32 (ofWords f) i = f i := by
  interval_cases i
  · exact BitVec.extractLsb'_append_eq_right
  · exact BitVec.extractLsb'_append_eq_left

theorem lane_append_bytes (d c b a : BitVec 8) {i : Nat} (hi : i < 4) :
    ((d ++ c) ++ (b ++ a) : BitVec 32).extractLsb' (8 * i) 8 = [a, b, c, d].getD i 0 := by
  interval_cases i
  · exact (BitVec.extractLsb'_append_eq_of_add_le (by decide)).trans BitVec.extractLsb'_append_eq_right
  · exact (BitVec.extractLsb'_append_eq_of_add_le (by decide)).trans BitVec.extractLsb'_append_eq_left
  · exact (BitVec.extractLsb'_append_eq_of_le (by decide)).trans BitVec.extractLsb'_append_eq_right
  · exact (BitVec.extractLsb'_append_eq_of_le (by decide)).trans BitVec.extractLsb'_append_eq_left

theorem lane_ofBytes (f : Nat → BitVec 8) {i : Nat} (hi : i < 8) : lane 8 (ofBytes f) i = f i := by
  unfold lane ofBytes
  by_cases low : i < 4
  · rw [BitVec.extractLsb'_append_eq_of_add_le (by omega), lane_append_bytes _ _ _ _ low]
    interval_cases i <;> rfl
  · rw [BitVec.extractLsb'_append_eq_of_le (by omega), show 8 * i - (8 + 8 + (8 + 8)) = 8 * (i - 4) by omega,
      lane_append_bytes _ _ _ _ (by omega)]
    interval_cases i <;> rfl

/-! ### Operations on lanes of any width -/

section
variable {w : Nat} (a b : BitVec w)

theorem max_min_eq_clamp {lo hi : Int} (v : Int) (ordered : lo ≤ hi) : max lo (min hi v) = clamp lo hi v := by
  unfold clamp
  split
  · omega
  · split <;> omega

theorem satS_half (v : Int) : satS 16 v = satS16 v := congrArg (BitVec.ofInt 16) (max_min_eq_clamp v (by decide))
theorem satS_byte (v : Int) : satS 8 v = satS8 v := congrArg (BitVec.ofInt 8) (max_min_eq_clamp v (by decide))
theorem satU_half (v : Int) : satU 16 v = satU16 v := congrArg (BitVec.ofInt 16) (max_min_eq_clamp v (by decide))
theorem satU_byte (v : Int) : satU 8 v = satU8 v := congrArg (BitVec.ofInt 8) (max_min_eq_clamp v (by decide))

/-- The larger element, through an order-reflecting reading `g` and its inverse `f`. -/
theorem ite_eq_max {α β : Type} [LinearOrder β] {g : α → β} {f : β → α} (inverse : ∀ x, f (g x) = x) {x y : α}
    {c : Bool} (le : c = true ↔ g y ≤ g x) : (if c then x else y) = f (max (g x) (g y)) := by
  rw [max_comm, max_def, apply_ite f, inverse, inverse]
  exact if_congr le rfl rfl

theorem ite_eq_min {α β : Type} [LinearOrder β] {g : α → β} {f : β → α} (inverse : ∀ x, f (g x) = x) {x y : α}
    {c : Bool} (le : c = true ↔ g x ≤ g y) : (if c then x else y) = f (min (g x) (g y)) := by
  rw [min_def, apply_ite f, inverse, inverse]
  exact if_congr le rfl rfl

theorem ofNat_toNat_self (x : BitVec w) : BitVec.ofNat w x.toNat = x := by simp

theorem signed_max : (if b.sle a then a else b) = BitVec.ofInt w (max a.toInt b.toInt) :=
  ite_eq_max (fun _ => BitVec.ofInt_toInt) BitVec.sle_iff_toInt_le

theorem signed_min : (if a.sle b then a else b) = BitVec.ofInt w (min a.toInt b.toInt) :=
  ite_eq_min (fun _ => BitVec.ofInt_toInt) BitVec.sle_iff_toInt_le

theorem unsigned_max : (if b.ule a then a else b) = BitVec.ofNat w (max a.toNat b.toNat) :=
  ite_eq_max ofNat_toNat_self BitVec.ule_iff_toNat_le

theorem unsigned_min : (if a.ule b then a else b) = BitVec.ofNat w (min a.toNat b.toNat) :=
  ite_eq_min ofNat_toNat_self BitVec.ule_iff_toNat_le

theorem onesIf_eq (c : Bool) {p : Prop} [Decidable p] (holds : c = true ↔ p) : (onesIf c : BitVec w) = maskIf w p :=
  if_congr holds rfl rfl

theorem onesIf_beq : (onesIf (a == b) : BitVec w) = maskIf w (a = b) := onesIf_eq _ beq_iff_eq

theorem onesIf_slt : (onesIf (b.slt a) : BitVec w) = maskIf w (b.toInt < a.toInt) :=
  onesIf_eq _ BitVec.slt_iff_toInt_lt

theorem absDiff_eq : absDiff a b = BitVec.ofNat w ((a.toNat : Int) - b.toNat).natAbs := by
  apply BitVec.eq_of_toNat_eq
  unfold absDiff
  have ha := a.isLt
  have hb := b.isLt
  split
  case isTrue less =>
    have less : a.toNat < b.toNat := of_decide_eq_true less
    rw [BitVec.toNat_sub_of_le (BitVec.le_def.2 less.le), BitVec.toNat_ofNat, Nat.mod_eq_of_lt (by omega)]
    omega
  case isFalse least =>
    have least : b.toNat ≤ a.toNat := not_lt.1 (mt decide_eq_true least)
    rw [BitVec.toNat_sub_of_le (BitVec.le_def.2 least), BitVec.toNat_ofNat, Nat.mod_eq_of_lt (by omega)]
    omega

/-! ### Shifts: the model's cut at the width of the lane changes nothing -/

theorem shl_eq (n : Nat) : shl n a = a <<< n := by
  unfold shl
  split
  · rfl
  · exact (BitVec.shiftLeft_eq_zero (not_lt.1 ‹_›)).symm

theorem shr_eq (n : Nat) : shr n a = a >>> n := by
  unfold shr
  split
  · rfl
  · exact (BitVec.ushiftRight_eq_zero (not_lt.1 ‹_›)).symm

theorem sar_eq (n : Nat) : sar n a = a.sshiftRight n := by
  unfold sar
  by_cases inside : n ≤ w - 1
  · rw [min_eq_left inside]
  · apply BitVec.eq_of_getElem_eq
    intro i hi
    rw [min_eq_right (not_le.1 inside).le, BitVec.getElem_sshiftRight, BitVec.getElem_sshiftRight,
      dif_neg (show ¬n + i < w by omega), BitVec.msb_eq_getLsbD_last]
    split
    · rw [← BitVec.getLsbD_eq_getElem, show w - 1 + i = w - 1 by omega]
    · rfl

theorem count7_eq (v : Dword) : count7 v = v.toNat % 128 := BitVec.toNat_setWidth 7 v

theorem shl_count7 (v : Dword) : shl (count7 v) a = a <<< (v.toNat % 128) := by rw [shl_eq, count7_eq]
theorem shr_count7 (v : Dword) : shr (count7 v) a = a >>> (v.toNat % 128) := by rw [shr_eq, count7_eq]
theorem sar_count7 (v : Dword) : sar (count7 v) a = a.sshiftRight (v.toNat % 128) := by rw [sar_eq, count7_eq]

end

/-! ### Products of halfwords -/

theorem mulHalvesS_low (a b : BitVec 16) : (mulHalvesS a b).setWidth 16 = BitVec.ofInt 16 (a.toInt * b.toInt) := by
  apply BitVec.eq_of_toNat_eq
  simp only [mulHalvesS, BitVec.toNat_setWidth, BitVec.toNat_ofInt]
  omega

theorem mulHalvesS_high (a b : BitVec 16) :
    (mulHalvesS a b).extractLsb' 16 16 = BitVec.ofInt 16 (a.toInt * b.toInt / 65536) := by
  apply BitVec.eq_of_toNat_eq
  simp only [mulHalvesS, BitVec.extractLsb'_toNat, BitVec.toNat_ofInt, Nat.shiftRight_eq_div_pow]
  omega

theorem mulHalvesU_high (a b : BitVec 16) :
    (mulHalvesU a b).extractLsb' 16 16 = BitVec.ofNat 16 (a.toNat * b.toNat / 65536) := by
  apply BitVec.eq_of_toNat_eq
  simp only [mulHalvesU, BitVec.extractLsb'_toNat, BitVec.toNat_ofNat, Nat.shiftRight_eq_div_pow]
  omega

/-! ### The sum and the sign bits of the eight bytes -/

theorem foldl_add_eq_sum (f : Nat → Nat) (l : List Nat) : l.foldl (fun t i => t + f i) 0 = (l.map f).sum := by
  rw [List.sum_eq_foldl, List.foldl_map]

theorem sumBytes_lt (a : Dword) : sumBytes a < 2 ^ 64 := by
  have bytes : ∀ x ∈ (List.range 8).map fun i => (lane 8 a i).toNat, x ≤ 255 := by
    simp only [List.forall_mem_map]
    exact fun i _ => Nat.le_of_lt_succ (lane 8 a i).isLt
  have bound := List.sum_le_card_nsmul _ 255 bytes
  rw [List.length_map, List.length_range] at bound
  rw [sumBytes, foldl_add_eq_sum]
  exact bound.trans_lt (by decide)

/-- A number put together from bits, each at its place. -/
theorem testBit_foldl_bits (bit : Nat → Bool) (n : Nat) :
    (List.range n).foldl (fun t i => t + (bit i).toNat * 2 ^ i) 0 < 2 ^ n ∧
      ∀ i, ((List.range n).foldl (fun t i => t + (bit i).toNat * 2 ^ i) 0).testBit i = (decide (i < n) && bit i) := by
  induction n with
  | zero => exact ⟨Nat.one_pos, fun i => Nat.zero_testBit i⟩
  | succ n ih =>
    rw [List.range_succ, List.foldl_append, List.foldl_cons, List.foldl_nil]
    generalize (List.range n).foldl (fun t i => t + (bit i).toNat * 2 ^ i) 0 = t at ih
    obtain ⟨small, bits⟩ := ih
    have below : t + (bit n).toNat * 2 ^ n < 2 ^ (n + 1) := by
      have : (bit n).toNat * 2 ^ n ≤ 1 * 2 ^ n := Nat.mul_le_mul_right _ (Bool.toNat_le _)
      omega
    refine ⟨below, fun i => ?_⟩
    rcases lt_trichotomy i n with less | rfl | more
    · rw [decide_eq_true (show i < n + 1 by omega), Bool.true_and]
      have old := bits i
      rw [decide_eq_true less, Bool.true_and] at old
      cases bit n with
      | false => simpa using old
      | true => rw [Bool.toNat_true, one_mul, add_comm, Nat.testBit_two_pow_add_gt less, old]
    · rw [decide_eq_true (Nat.lt_succ_self i), Bool.true_and]
      have top := Nat.testBit_lt_two_pow small
      cases bit i with
      | false => simpa using top
      | true => rw [Bool.toNat_true, one_mul, add_comm, Nat.testBit_two_pow_add_eq, top]; rfl
    · rw [decide_eq_false (show ¬i < n + 1 by omega), Bool.false_and]
      exact Nat.testBit_lt_two_pow (below.trans_le (Nat.pow_le_pow_right (by decide) more))

theorem getLsbD_signBits (a : Dword) (i : Nat) :
    (signBits a).getLsbD i = (decide (i < 8) && a.getLsbD (8 * i + 7)) := by
  have sign k : (lane 8 a k).msb = a.getLsbD (8 * k + 7) := by
    rw [BitVec.msb_eq_getLsbD_last, lane, BitVec.getLsbD_extractLsb']
    rfl
  rw [signBits, BitVec.getLsbD_ofNat, (testBit_foldl_bits _ 8).2 i, sign]
  by_cases inside : i < 8
  · rw [decide_eq_true (show i < 64 by omega), Bool.true_and]
  · rw [decide_eq_false inside, Bool.false_and, Bool.and_false]

end Sys2Proof.Machine
end

section
/-!
PROOFS of 48_custom_mmi.md: the multimedia instructions (O51).
-/
namespace Sys2Proof.Machine
open Sys2Proof.Claims

theorem mmiGate_ready {s : State} {regs : List (BitVec 5)} (ready : MmiReady s regs) (k : Out) :
    mmiGate s regs k = k := by
  obtain ⟨two, one, legal⟩ := ready
  have usable : s.copUsable 1 = true := one
  rw [mmiGate, needCop2_on two, usable]
  exact needEven_ok k legal

theorem mmiReady_mono {s : State} {l m : List (BitVec 5)} (ready : MmiReady s m) (named : ∀ r ∈ l, r ∈ m) :
    MmiReady s l := ⟨ready.1, fpReady_mono ready.2 named⟩

/-! ### The tables: what each instruction computes -/

section
variable (s : State) (ft fs fd : BitVec 5)

theorem mmi_onHalves {g h : BitVec 16 → BitVec 16 → BitVec 16} (same : ∀ a b, g a b = h a b) :
    s.mmi ft fs fd (onHalves g) = s.mmi ft fs fd (onHalves h) := by rw [funext₂ same]

theorem mmi_onWords {g h : BitVec 32 → BitVec 32 → BitVec 32} (same : ∀ a b, g a b = h a b) :
    s.mmi ft fs fd (onWords g) = s.mmi ft fs fd (onWords h) := by rw [funext₂ same]

theorem mmi_onBytes {g h : BitVec 8 → BitVec 8 → BitVec 8} (same : ∀ a b, g a b = h a b) :
    s.mmi ft fs fd (onBytes g) = s.mmi ft fs fd (onBytes h) := by rw [funext₂ same]

theorem exec_halfOps : ∀ p ∈ halfOps, exec (p.1 ft fs fd) s = s.mmi ft fs fd (onHalves p.2) := by
  have by_lane {g h : BitVec 16 → BitVec 16 → BitVec 16} := mmi_onHalves s ft fs fd (g := g) (h := h)
  simp only [halfOps, List.forall_mem_cons]
  exact ⟨rfl, rfl, by_lane fun _ _ => satS_half _, by_lane fun _ _ => satU_half _, by_lane fun _ _ => satS_half _,
    by_lane fun _ _ => satU_half _, rfl, by_lane signed_max, by_lane signed_min, by_lane onesIf_beq,
    by_lane onesIf_slt, by_lane mulHalvesS_low, by_lane mulHalvesS_high, by_lane mulHalvesU_high, nofun⟩

theorem exec_wordLaneOps : ∀ p ∈ wordLaneOps, exec (p.1 ft fs fd) s = s.mmi ft fs fd (onWords p.2) := by
  simp only [wordLaneOps, List.forall_mem_cons]
  exact ⟨rfl, rfl, mmi_onWords s ft fs fd onesIf_beq, mmi_onWords s ft fs fd onesIf_slt, nofun⟩

theorem exec_byteOps : ∀ p ∈ byteOps, exec (p.1 ft fs fd) s = s.mmi ft fs fd (onBytes p.2) := by
  have by_lane {g h : BitVec 8 → BitVec 8 → BitVec 8} := mmi_onBytes s ft fs fd (g := g) (h := h)
  simp only [byteOps, List.forall_mem_cons]
  exact ⟨rfl, rfl, by_lane fun _ _ => satS_byte _, by_lane fun _ _ => satU_byte _, by_lane fun _ _ => satS_byte _,
    by_lane fun _ _ => satU_byte _, rfl, by_lane unsigned_max, by_lane unsigned_min, by_lane onesIf_beq,
    by_lane onesIf_slt, by_lane absDiff_eq, nofun⟩

end

/-! ### One register written, lane by lane -/

section
variable {i : Instr} {s : State} {ft fs fd : BitVec 5} (ready : MmiReady s [ft, fs, fd])
include ready

theorem putsFprWith_of_mmi {v : Dword} {good : Dword → Prop}
    (runs : exec i s = mmiGate s [ft, fs, fd] (.next (s.writeFpr fd v).advance)) (holds : good v) :
    PutsFprWith i s fd good :=
  putsFprWith_of_writeFpr (runs.trans (mmiGate_ready ready _)) holds

theorem putsFprWith_of_mmi1 {v : Dword} {good : Dword → Prop}
    (runs : exec i s = mmiGate s [fs, fd] (.next (s.writeFpr fd v).advance)) (holds : good v) :
    PutsFprWith i s fd good := by
  have named : ∀ r ∈ [fs, fd], r ∈ [ft, fs, fd] := fun _ => List.mem_cons_of_mem ft
  exact putsFprWith_of_writeFpr (runs.trans (mmiGate_ready (mmiReady_mono ready named) _)) holds

end

/-- Lanes taken from two registers, given by where each comes from. -/
theorem rearranged_of_map {w : Nat} {l : List (Bool × Nat)} {a b v : Dword} {f : Nat → BitVec w}
    (lanes : ∀ i, i < l.length → lane w v i = f i)
    (moved : (List.range l.length).map f = l.map fun x => laneOf w (if x.1 then b else a) x.2) :
    Rearranged w l a b v := fun i h =>
  (lanes i h).trans (by simpa [h] using congrArg (·[i]?) moved)

theorem rearranged_ofHalves {x₀ x₁ x₂ x₃ : Bool × Nat} {a b : Dword} {f : Nat → BitVec 16}
    (moved : (List.range 4).map f = [x₀, x₁, x₂, x₃].map fun x => laneOf 16 (if x.1 then b else a) x.2) :
    Rearranged 16 [x₀, x₁, x₂, x₃] a b (ofHalves f) := rearranged_of_map (fun _ => lane_ofHalves f) moved

theorem rearranged_ofWords {x₀ x₁ : Bool × Nat} {a b : Dword} {f : Nat → BitVec 32}
    (moved : (List.range 2).map f = [x₀, x₁].map fun x => laneOf 32 (if x.1 then b else a) x.2) :
    Rearranged 32 [x₀, x₁] a b (ofWords f) := rearranged_of_map (fun _ => lane_ofWords f) moved

theorem rearranged_ofBytes {x₀ x₁ x₂ x₃ x₄ x₅ x₆ x₇ : Bool × Nat} {a b : Dword} {f : Nat → BitVec 8}
    (moved : (List.range 8).map f =
      [x₀, x₁, x₂, x₃, x₄, x₅, x₆, x₇].map fun x => laneOf 8 (if x.1 then b else a) x.2) :
    Rearranged 8 [x₀, x₁, x₂, x₃, x₄, x₅, x₆, x₇] a b (ofBytes f) := rearranged_of_map (fun _ => lane_ofBytes f) moved

section
variable {s : State} {ft fs fd : BitVec 5} (ready : MmiReady s [ft, fs, fd])
include ready

theorem computes_wholeOps : ∀ p ∈ wholeOps,
    PutsFprWith (p.1 ft fs fd) s fd (fun v => v = p.2 (s.readFpr fs) (s.readFpr ft)) := by
  have puts {i : Instr} {v : Dword} {good : Dword → Prop} := putsFprWith_of_mmi (i := i) (v := v) (good := good) ready
  have product (a b : Dword) : zextLow 32 a * zextLow 32 b =
      BitVec.ofNat 64 ((a.setWidth 32).toNat * (b.setWidth 32).toNat) := by
    rw [BitVec.ofNat_mul, BitVec.ofNat_toNat, BitVec.ofNat_toNat]
    rfl
  have extended {x y : Word} (same : x = y) : sextWord x = sx 32 (y.setWidth 64) :=
    congrArg (BitVec.signExtend 64) (by simp [same])
  have extracted (a b : Dword) :
      (lane 16 a (b.setWidth 2).toNat).setWidth 64 = (laneOf 16 a (b.toNat % 4)).setWidth 64 :=
    congrArg (fun n => (laneOf 16 a n).setWidth 64) (BitVec.toNat_setWidth 2 b)
  simp only [wholeOps, List.forall_mem_cons]
  exact ⟨puts rfl rfl, puts rfl rfl, puts rfl rfl, puts rfl rfl, puts rfl rfl, puts rfl rfl, puts rfl rfl, puts rfl rfl,
    puts rfl rfl, puts rfl (product _ _), puts rfl (shl_count7 _ _), puts rfl (shr_count7 _ _),
    puts rfl (extended (shl_count7 _ _)), puts rfl (extended (shr_count7 _ _)), puts rfl (extracted _ _), nofun⟩

theorem shifts_laneShifts : ∀ p ∈ laneShifts,
    PutsFprWith (p.1 ft fs fd) s fd (fun v =>
      ∀ i, i < 4 → laneOf 16 v i = p.2.2 16 (laneOf 16 (s.readFpr fs) i) ((s.readFpr ft).toNat % 128)) ∧
    PutsFprWith (p.2.1 ft fs fd) s fd (fun v =>
      ∀ i, i < 2 → laneOf 32 v i = p.2.2 32 (laneOf 32 (s.readFpr fs) i) ((s.readFpr ft).toNat % 128)) := by
  have puts {i : Instr} {v : Dword} {good : Dword → Prop} := putsFprWith_of_mmi (i := i) (v := v) (good := good) ready
  simp only [laneShifts, List.forall_mem_cons]
  exact ⟨⟨puts rfl fun i hi => (lane_ofHalves _ hi).trans (shl_count7 _ _),
      puts rfl fun i hi => (lane_ofWords _ hi).trans (shl_count7 _ _)⟩,
    ⟨puts rfl fun i hi => (lane_ofHalves _ hi).trans (shr_count7 _ _),
      puts rfl fun i hi => (lane_ofWords _ hi).trans (shr_count7 _ _)⟩,
    ⟨puts rfl fun i hi => (lane_ofHalves _ hi).trans (sar_count7 _ _),
      puts rfl fun i hi => (lane_ofWords _ hi).trans (sar_count7 _ _)⟩, nofun⟩

theorem moves_halfMoves : ∀ p ∈ halfMoves,
    PutsFprWith (p.1 ft fs fd) s fd (Rearranged 16 p.2 (s.readFpr fs) (s.readFpr ft)) := by
  simp only [halfMoves, List.forall_mem_cons]
  exact ⟨putsFprWith_of_mmi ready rfl (rearranged_ofHalves rfl), putsFprWith_of_mmi ready rfl (rearranged_ofHalves rfl),
    putsFprWith_of_mmi ready rfl (rearranged_ofHalves rfl), putsFprWith_of_mmi ready rfl (rearranged_ofHalves rfl),
    putsFprWith_of_mmi ready rfl (rearranged_ofHalves rfl), putsFprWith_of_mmi ready rfl (rearranged_ofHalves rfl),
    nofun⟩

theorem moves_byteMoves : ∀ p ∈ byteMoves,
    PutsFprWith (p.1 ft fs fd) s fd (Rearranged 8 p.2 (s.readFpr fs) (s.readFpr ft)) := by
  simp only [byteMoves, List.forall_mem_cons]
  exact ⟨putsFprWith_of_mmi ready rfl (rearranged_ofBytes rfl), putsFprWith_of_mmi ready rfl (rearranged_ofBytes rfl),
    nofun⟩

theorem moves_wordMoves : ∀ p ∈ wordMoves,
    PutsFprWith (p.1 ft fs fd) s fd (Rearranged 32 p.2 (s.readFpr fs) (s.readFpr ft)) := by
  simp only [wordMoves, List.forall_mem_cons]
  exact ⟨putsFprWith_of_mmi ready rfl (rearranged_ofWords rfl), putsFprWith_of_mmi ready rfl (rearranged_ofWords rfl),
    nofun⟩

/-! ### The forms that trap, and the compares -/

theorem fpExactOrOverflow_of_mmiTrap {i : Instr} {w : Nat} {t : Int} (runs : exec i s = s.mmiTrap ft fs fd w t)
    (exact : Fits w t → sextLow w (BitVec.ofInt 64 t) = BitVec.ofInt 64 t) : FpExactOrOverflow w i s fd t := by
  have runs := runs.trans (mmiGate_ready ready _)
  constructor
  · intro fits
    rw [if_neg (mt (overflows_iff w t).1 (not_not.2 fits))] at runs
    exact putsFprWith_of_writeFpr runs (exact fits)
  · intro trap
    rw [if_pos ((overflows_iff w t).2 trap)] at runs
    exact runs

theorem writesFcc_of_mmiCompare {i : Instr} {test : Dword → Dword → Bool} {p : Prop}
    (runs : exec i s = s.mmiCompare ft fs test) (holds : test (s.readFpr fs) (s.readFpr ft) = true ↔ p) :
    ∃ t, exec i s = .next t ∧ s.writesFcsr t t.fcsr ∧ (t.fcsr.getLsbD 23 = true ↔ p) ∧
      ∀ k, k ≠ 23 → t.fcsr.getLsbD k = s.fcsr.getLsbD k := by
  have named : ∀ r ∈ [ft, fs], r ∈ [ft, fs, fd] := by simp
  refine ⟨_, runs.trans (mmiGate_ready (mmiReady_mono ready named) _), s.writesFcsr_advance _, ?_, fun k other => ?_⟩
  · exact (iff_of_eq (congrArg (· = true) (getLsbD_putBit _ 23 _ (by decide)))).trans holds
  · by_cases inside : k < 32
    · exact (getLsbD_putBit _ 23 _ inside).trans (if_neg other)
    · exact (BitVec.getLsbD_of_ge _ _ (not_lt.1 inside)).trans (BitVec.getLsbD_of_ge _ _ (not_lt.1 inside)).symm

theorem compares_scalarCompares : ∀ p ∈ scalarCompares, ∃ t, exec (p.1 ft fs) s = .next t ∧ s.writesFcsr t t.fcsr ∧
    (t.fcsr.getLsbD 23 = true ↔ p.2 (s.readFpr fs) (s.readFpr ft)) ∧
    ∀ k, k ≠ 23 → t.fcsr.getLsbD k = s.fcsr.getLsbD k := by
  simp only [scalarCompares, List.forall_mem_cons]
  exact ⟨writesFcc_of_mmiCompare ready rfl beq_iff_eq, writesFcc_of_mmiCompare ready rfl beq_iff_eq,
    writesFcc_of_mmiCompare ready rfl BitVec.ult_iff_toNat_lt,
    writesFcc_of_mmiCompare ready rfl BitVec.slt_iff_toInt_lt,
    writesFcc_of_mmiCompare ready rfl BitVec.ule_iff_toNat_le,
    writesFcc_of_mmiCompare ready rfl BitVec.sle_iff_toInt_le, nofun⟩

end

theorem sextLow_ofInt_of_fits {t : Int} (fits : Fits 32 t) : sextLow 32 (BitVec.ofInt 64 t) = BitVec.ofInt 64 t := by
  have low : (BitVec.ofInt 64 t).setWidth 32 = BitVec.ofInt 32 t := by
    apply BitVec.eq_of_toNat_eq
    simp only [BitVec.toNat_setWidth, BitVec.toNat_ofInt]
    omega
  rw [sextLow, low, signExtend_ofInt_of_fits fits]

theorem sextLow_self (v : Dword) : sextLow 64 v = v := by simp [sextLow]

end Sys2Proof.Machine

namespace Sys2Proof.Claims
open Sys2Proof.Machine

/-- Settles O51: behind the gate each instruction writes one register, whose lanes are read off one by one. -/
theorem multimediaLanesAreIndependent : Obligations.MultimediaLanesAreIndependent := by
  intro s ft fs fd ready a b
  have puts {i : Instr} {v : Dword} {good : Dword → Prop} := putsFprWith_of_mmi (i := i) (v := v) (good := good) ready
  refine ⟨fun p hp => puts (exec_halfOps s ft fs fd p hp) fun i => lane_ofHalves _,
    fun p hp => puts (exec_wordLaneOps s ft fs fd p hp) fun i => lane_ofWords _,
    fun p hp => puts (exec_byteOps s ft fs fd p hp) fun i => lane_ofBytes _, computes_wholeOps ready,
    shifts_laneShifts ready,
    moves_halfMoves ready, moves_byteMoves ready, moves_wordMoves ready, ?pshufh, ?packsswh, ?packsshb, ?packushb,
    puts rfl fun i => lane_ofWords _, ?biadd, putsFprWith_of_mmi1 ready rfl (getLsbD_signBits a),
    fpExactOrOverflow_of_mmiTrap ready rfl sextLow_ofInt_of_fits,
    fpExactOrOverflow_of_mmiTrap ready rfl sextLow_ofInt_of_fits,
    fpExactOrOverflow_of_mmiTrap ready rfl fun _ => sextLow_self _,
    fpExactOrOverflow_of_mmiTrap ready rfl fun _ => sextLow_self _, ?gssra, ?gsdsra, compares_scalarCompares ready⟩
  case pshufh =>
    refine puts rfl fun i hi => (lane_ofHalves _ hi).trans (congrArg (laneOf 16 a) ?_)
    rw [BitVec.extractLsb'_toNat, Nat.shiftRight_eq_div_pow, Nat.pow_mul]
  case packsswh => exact puts rfl fun i hi => (lane_ofHalves _ hi).trans (satS_half _)
  case packsshb => exact puts rfl fun i hi => (lane_ofBytes _ hi).trans (satS_byte _)
  case packushb => exact puts rfl fun i hi => (lane_ofBytes _ hi).trans (satU_byte _)
  case biadd =>
    refine putsFprWith_of_mmi1 ready rfl ?_
    rw [BitVec.toNat_ofNat, Nat.mod_eq_of_lt (sumBytes_lt _), sumBytes, foldl_add_eq_sum]
    rfl
  case gssra =>
    refine puts rfl fun small => (if_pos ((count7_eq b).trans_le small)).trans ?_
    rw [count7_eq]
    rfl
  case gsdsra =>
    refine puts rfl fun small => (if_pos ((count7_eq b).trans_le small)).trans ?_
    rw [count7_eq]

end Sys2Proof.Claims
end

section
/-!
PROOFS of 60_exceptions.md, rules R947 and R948: Coprocessor Unusable by opcode (O52).
-/
namespace Sys2Proof.Machine
open Sys2Proof.Claims

/-- The instruction asks for unit `n` before anything else. -/
def AsksFirst (n : BitVec 2) (i : Instr) : Prop := ∀ s : State, ∃ k, exec i s = needCop n s k

/-- The instruction asks first for the unit of its opcode, where its opcode has one. -/
def AsksForItsUnit (i : Instr) : Prop :=
  ∀ w n, encode i = some w → unitOf (fieldOp w).toNat = some n → AsksFirst n i

theorem takes_of_asksFirst {i : Instr} {n : BitVec 2} {s : State} (asks : AsksFirst n i)
    (unusable : s.copUsable n = false) : Takes i s (.cpU n) := by
  obtain ⟨k, runs⟩ := asks s
  exact runs.trans (needCop_off unusable k)

theorem asksForItsUnit_of_unit {i : Instr} {w : Word} {n : BitVec 2} (row : encode i = some w)
    (unit : unitOf (fieldOp w).toNat = some n) (asks : AsksFirst n i) : AsksForItsUnit i := by
  intro w' n' row' unit'
  cases row.symm.trans row'
  cases unit.symm.trans unit'
  exact asks

theorem asksForItsUnit_of_none {i : Instr} {w : Word} (row : encode i = some w)
    (unit : unitOf (fieldOp w).toNat = none) : AsksForItsUnit i := by
  intro w' n' row' unit'
  cases row.symm.trans row'
  cases unit.symm.trans unit'

/-- MOVF.PS and MOVT.PS choose by the parity of cc first, but both forms ask for coprocessor 1. -/
theorem State.movPairOn_asks (s : State) (sense : Bool) (cc : BitVec 3) (fs fd : BitVec 5) :
    ∃ k, s.movPairOn sense cc fs fd = needCop 1 s k := by
  unfold State.movPairOn
  split
  · exact ⟨_, rfl⟩
  · exact ⟨_, rfl⟩

/-- Every instruction with a word, but PREFX, asks first for the unit of its opcode; each constructor stands with those
of its unit, then those without a word, then those whose opcode has no unit. -/
theorem asksForItsUnit {i : Instr} (gated : ¬ gateExcepted i) : AsksForItsUnit i := by
  cases i with
  | prefx base index hint => exact absurd ⟨base, index, hint, rfl⟩ gated
  | rdpgpr | wrpgpr | di | ei | mfc0 | dmfc0 | mtc0 | dmtc0 | tlbp | tlbr | tlbwi | tlbwr | eret | deret | wait
  | cache => exact asksForItsUnit_of_unit (n := 0) rfl (by simp [unitOf]) fun _ => ⟨_, rfl⟩
  | absS | absD | absPs | addS | addD | addPs | divS | divD | mulS | mulD | mulPs | negS | negD | negPs | recipS
  | recipD | rsqrtS | rsqrtD | sqrtS | sqrtD | subS | subD | subPs | ceilLS | ceilLD | ceilWS | ceilWD | cvtDS
  | cvtDW | cvtDL | cvtLS | cvtLD | cvtSD | cvtSW | cvtSL | cvtWS | cvtWD | floorLS | floorLD | floorWS
  | floorWD | roundLS | roundLD | roundWS | roundWD | truncLS | truncLD | truncWS | truncWD | cvtPsS | cvtSPl
  | cvtSPu | pllPs | pluPs | pulPs | puuPs | cfc1 | ctc1 | dmfc1 | dmtc1 | mfc1 | mfhc1 | mtc1 | mthc1 | movS
  | movD | movPs | movnS | movnD | movnPs | movzS | movzD | movzPs
  | cFS | cUnS | cEqS | cUeqS | cOltS | cUltS | cOleS | cUleS | cSfS | cNgleS | cSeqS | cNglS | cLtS | cNgeS
  | cLeS | cNgtS | cFD | cUnD | cEqD | cUeqD | cOltD | cUltD | cOleD | cUleD | cSfD | cNgleD | cSeqD | cNglD
  | cLtD | cNgeD | cLeD | cNgtD | cFPs | cUnPs | cEqPs | cUeqPs | cOltPs | cUltPs | cOlePs | cUlePs | cSfPs
  | cNglePs | cSeqPs | cNglPs | cLtPs | cNgePs | cLePs | cNgtPs
  | movfS | movfD | movtS | movtD | bc1f | bc1fl | bc1t | bc1tl
  | maddS | maddD | maddPs | msubS | msubD | msubPs | nmaddS | nmaddD | nmaddPs | nmsubS | nmsubD
  | nmsubPs | alnvPs | ldxc1 | luxc1 | lwxc1 | sdxc1 | suxc1 | swxc1 | lwc1 | ldc1 | swc1 | sdc1 =>
    exact asksForItsUnit_of_unit (n := 1) rfl (by simp [unitOf]) fun _ => ⟨_, rfl⟩
  | movfPs cc fs fd =>
    exact asksForItsUnit_of_unit (n := 1) rfl (by simp [unitOf]) fun s => s.movPairOn_asks false cc fs fd
  | movtPs cc fs fd =>
    exact asksForItsUnit_of_unit (n := 1) rfl (by simp [unitOf]) fun s => s.movPairOn_asks true cc fs fd
  | paddsh | paddush | paddh | paddw | paddsb | paddusb | paddb | paddd | psubsh | psubush | psubh | psubw
  | psubsb | psubusb | psubb | psubd | pshufh | packsswh | packsshb | packushb | pandn | punpcklhw | punpckhhw
  | punpcklbh | punpckhbh | pinsrh0 | pinsrh1 | pinsrh2 | pinsrh3 | pavgh | pavgb | pmaxsh | pminsh | pmaxub
  | pminub | pcmpeqw | pcmpgtw | pcmpeqh | pcmpgth | pcmpeqb | pcmpgtb | psllw | psllh | pmullh | pmulhh
  | pmuluw | pmulhuh | psrlw | psrlh | psraw | psrah | punpcklwd | punpckhwd | pasubub | pextrh | pmaddhw
  | biadd | pmovmskb | gsxor | gsnor | gsand | gsaddu | gsor | gsadd | gsdadd | gssequ | gsseq | gssubu | gssub
  | gsdsub | gssltu | gsslt | gssll | gsdsll | gssrl | gsdsrl | gssra | gsdsra | gssleu | gssle
  | gslble | gslbgt | gslhle | gslhgt | gslwle | gslwgt | gsldle | gsldgt | gslwlec1 | gslwgtc1 | gsldlec1
  | gsldgtc1 | gslwlc1 | gslwrc1 | gsldlc1 | gsldrc1 | gslq | gslqc1 | gslbx | gslhx | gslwx | gsldx | gslwxc1 | gsldxc1
  | gssble | gssbgt | gsshle | gsshgt | gsswle | gsswgt | gssdle | gssdgt | gsswlec1 | gsswgtc1 | gssdlec1
  | gssdgtc1 | gsswlc1 | gsswrc1 | gssdlc1 | gssdrc1 | gssq | gssqc1 | gssbx | gsshx | gsswx | gssdx | gsswxc1
  | gssdxc1 =>
    exact asksForItsUnit_of_unit (n := 2) rfl (by simp [unitOf]) fun _ => ⟨_, rfl⟩
  | x86and | x86or | x86xor | x86dadd | x86add | x86daddu | x86addu | x86dsub | x86sub | x86dsubu | x86subu
  | x86inc | x86dec | x86dsll | x86sll | x86dsll32 | x86dsllv | x86sllv | x86dsrl | x86srl | x86dsrl32
  | x86dsrlv | x86srlv | x86dsra | x86sra | x86dsra32 | x86dsrav | x86srav | x86drotr | x86rotr | x86drotr32
  | x86drotrv | x86rotrv | x86mfflag | x86mtflag | x86j | x86loop | settm | clrtm | inctop | dectop | mttop
  | mftop | settag | campv | campi | camwi | ramri | cvtDLd | cvtLdD | cvtUdD => nofun
  | _ => exact asksForItsUnit_of_none rfl (by simp [unitOf])

theorem customFpMemory_asks (b n x q : BitVec 5) (off : BitVec 8) (off9 : BitVec 9) (s : State) :
    ∀ i ∈ customFpMemory b n x q off off9, ∃ k, exec i s = gate21 s k := by
  simp only [customFpMemory, List.forall_mem_cons]
  exact ⟨⟨_, rfl⟩, ⟨_, rfl⟩, ⟨_, rfl⟩, ⟨_, rfl⟩, ⟨_, rfl⟩, ⟨_, rfl⟩, ⟨_, rfl⟩, ⟨_, rfl⟩, ⟨_, rfl⟩, ⟨_, rfl⟩, ⟨_, rfl⟩,
    ⟨_, rfl⟩, ⟨_, rfl⟩, ⟨_, rfl⟩, ⟨_, rfl⟩, ⟨_, rfl⟩, ⟨_, rfl⟩, ⟨_, rfl⟩, ⟨_, rfl⟩, ⟨_, rfl⟩, ⟨_, rfl⟩, ⟨_, rfl⟩, nofun⟩

end Sys2Proof.Machine

namespace Sys2Proof.Claims
open Sys2Proof.Machine

/-- Settles O52: each instruction's first question is for its unit. -/
theorem coprocessorUnusableComesFirst : Obligations.CoprocessorUnusableComesFirst := by
  refine ⟨fun s i w n row unit gated unusable => ⟨?takes, ?unit⟩,
    fun s b n x q cc off off9 => ⟨fun two => ⟨?gsle, ?gsgt⟩, fun one => ⟨?movf, ?movt⟩,
      fun two one i custom => ?memory⟩⟩
  case takes => exact takes_of_asksFirst (asksForItsUnit gated w n row unit) unusable
  case unit =>
    obtain ⟨-, -, saved, -⟩ := exceptionEntrySavesAndMasks s (.cpU n)
    exact saved n rfl
  case gsle => exact takes_of_asksFirst (n := 2) (fun _ => ⟨_, rfl⟩) two
  case gsgt => exact takes_of_asksFirst (n := 2) (fun _ => ⟨_, rfl⟩) two
  case movf => exact takes_of_asksFirst (n := 1) (fun _ => ⟨_, rfl⟩) one
  case movt => exact takes_of_asksFirst (n := 1) (fun _ => ⟨_, rfl⟩) one
  case memory =>
    obtain ⟨k, runs⟩ := customFpMemory_asks b n x q off off9 s i custom
    exact runs.trans ((needCop2_on two _).trans (needCop1_off one k))

end Sys2Proof.Claims
end
